-- ==== Sys2Proof/Word.lean ====
section
/-! DEFINITION. The plainest types of the part: bytes, words, line levels, channel and window numbers. -/

namespace Sys2Proof

/-- One byte of the local port or of a notice character. -/
abbrev Byte := BitVec 8

/-- A sixteen-bit word: the event word and the enable word (R169, R170). -/
abbrev Word := BitVec 16

/-- A level of the share line: dominant is line low, recessive is line high (00, Line levels). -/
inductive Level where
  | dominant
  | recessive
  deriving DecidableEq, Repr, Inhabited

/-- A channel number, 0 to 7. -/
abbrev Chan := Fin 8

/-- A window number, W0 to W3. -/
abbrev Win := Fin 4

/-- The eight channels in channel-number order, the order in which mask commands and station-level
sheds take them (R68, R84). -/
def allChans : List Chan := [0, 1, 2, 3, 4, 5, 6, 7]

/-- The four windows, lowest number first (R24). -/
def allWins : List Win := [0, 1, 2, 3]

end Sys2Proof
end

