-- ==== Sys2Proof/Config.lean ====
section
/-! DEFINITION. What the part fixes (times, limits) and the values the spec leaves open. -/

namespace Sys2Proof

/-- The levels of the input pins at one CLK period (00, pin description). A Bool is true for high. -/
structure Pins where
  shr   : Level
  dem   : BitVec 8
  killn : Bool
  rstn  : Bool
  csn   : Bool
  sck   : Bool
  sdi   : Bool
  deriving DecidableEq, Repr, Inhabited

/-- The pins with nothing happening: line recessive, no demand, no kill, no reset, port not selected. -/
def Pins.idle : Pins :=
  { shr := .recessive, dem := 0, killn := true, rstn := true, csn := true, sck := false, sdi := false }

namespace Config

/-- FREE VALUE (log 5): the pin levels the outside world sets, CLK period by CLK period, where the list
State.inputs holds none. Nothing constrains them. -/
opaque pinLevels : Nat → Pins

/-- FREE VALUE (log 6): which of several events of one instant is taken first. Nothing constrains it. -/
opaque orderChoice : Nat → Nat

/-- BT in microseconds by the code of BIT_TIME (R2). A code above 4 never passes LOCK (R162). -/
def bitTimeUs : Nat → Nat
  | 0 => 5
  | 1 => 10
  | 2 => 20
  | 3 => 50
  | _ => 100

/-- CLK periods in one microsecond of the time base (00, pin description: 4 MHz). -/
def clksPerUs : Nat := 4

/-- The gap and settling count: 12 consecutive recessive bit times (R4, R5, R13). -/
def gapBits : Nat := 12

/-- Length of this station's OPEN pulse in bit times (R16). -/
def openBits : Nat := 4

/-- A dominant run of this length where an OPEN is expected is malformed (R8). -/
def malformedRun : Nat := 7

/-- The silence timer's end, in bit times (R141). -/
def silenceEnd : Nat := 512

/-- The elapsed timer's stop, 2.55 s in us (R92). -/
def elapsedMax : Nat := 2550000

/-- The on-since and off-since timers' stop, 255 s in us (R75, R79). -/
def sinceMax : Nat := 255000000

/-- 100 ms in us: the step of LINGER, YIELD_HOLDOFF and wait-to-yield (R160). -/
def tenthSecond : Nat := 100000

/-- 10 ms in us: the step of BUS_LOSS and stagger (R160). -/
def hundredthSecond : Nat := 10000

/-- One second in us: the step of min on and min off (R160). -/
def second : Nat := 1000000

/-- One millisecond in us: the filters' sample period (R67). -/
def milliSecond : Nat := 1000

/-- Places of the transmit queue (R122), the receive ring (R134) and the fence list (R87). -/
def txPlaces : Nat := 4
def ringPlaces : Nat := 16
def fencePlaces : Nat := 4

/-- The conflict run that reports CLASH (R62) and the join count that enters ACTIVE (R142). -/
def clashRun : Nat := 3
def joinRolls : Nat := 2

/-- The loss run saturates here (R51). -/
def lossRunMax : Nat := 255

end Config
end Sys2Proof
end

