-- ==== Sys2Proof/Syntax.lean ====
section
/-! DEFINITION. The commands: one constructor of Instr per row of spec/opcode_table.json, with the
operands that the spec's words give the step (log 1). -/

namespace Sys2Proof

/-- The phase of the bit a DRIVE report is about (R18, R19). -/
inductive Phase where
  | openPulse
  | hold
  | claim
  | take
  | flag
  | notice
  deriving DecidableEq, Repr, Inhabited

/-- A phase that belongs to the winner alone, where a peer's dominant bit is a conflict (R18). -/
inductive OwnPhase where
  | take
  | flag
  | notice
  deriving DecidableEq, Repr, Inhabited

/-- The four forms of a notice end (R130). -/
inductive NoticeForm where
  | complete
  | cut
  | damaged
  | stuck
  deriving DecidableEq, Repr, Inhabited

/-- What ended a roll: FLAG read recessive (R14), the check character (R12), the 12th recessive bit
time of TRAILING (R13), a stuck line (R17). -/
inductive RollEndCause where
  | flag
  | check
  | trailing
  | stuck
  deriving DecidableEq, Repr, Inhabited

/-- At one roll end the spare-binding check, the end of the roll's notice and a pending request may be taken in any
order (R117, R145; log 6): the check first, or the Station Controller's part first, with the notice end before or after
both as its own row; or the notice end between the check and the Station Controller's part. -/
inductive RollEndOrder where
  | checkFirst
  | requestFirst
  | noticeBetween
  deriving DecidableEq, Repr, Inhabited

/-- The operand part of one SPI transaction: the complete bytes after the command byte, and the number
of bits of a last byte that was not completed (R164, R165; log 23). -/
structure Operands where
  bytes : List Byte
  tail  : Nat
  deriving DecidableEq, Repr, Inhabited

/-- The commands. The comment on each gives its row's mnemonic. -/
inductive Instr where
  | por                                        -- POR
  | reset                                      -- RESET
  | killnLow                                   -- KILLN_LOW
  | killnHigh                                  -- KILLN_HIGH
  | filteredLevelChange (pins : BitVec 8)      -- FILTERED_LEVEL_CHANGE: the pins whose filtered level changes at this sample
  | settlingEnd                                -- SETTLING_END
  | openRoll                                   -- OPEN_ROLL
  | rollStart                                  -- ROLL_START
  | malformedOpen                              -- MALFORMED_OPEN
  | holdComplete (units : List Nat)            -- HOLD_COMPLETE: the units whose HOLD slot read dominant
  | arbitrationLost (bit : Nat)                -- ARBITRATION_LOST: claim bit j
  | claimResolved (word : BitVec 10)           -- CLAIM_RESOLVED: the ten bits read, bit j at place 9 - j, 1 recessive
  | takeComplete (units : List Nat)            -- TAKE_COMPLETE: the units whose TAKE slot read dominant
  | flagReading (level : Level)                -- FLAG_READING
  | noticeCharacter (index : Nat) (data : Byte) (framing marker : Bool)  -- NOTICE_CHARACTER
  | noticeEnd (form : NoticeForm)              -- NOTICE_END
  | rollEnd (cause : RollEndCause) (order : RollEndOrder)  -- ROLL_END
  | driveReport (phase : Phase) (position : Nat)  -- DRIVE_REPORT: the phase and the position of the bit (R19)
  | conflict (phase : OwnPhase)                -- CONFLICT
  | stuckLine                                  -- STUCK_LINE
  | silenceTimerExpiry                         -- SILENCE_TIMER_EXPIRY
  | busLossExpiry                              -- BUS_LOSS_EXPIRY
  | lingerExpiry (unit : Nat)                  -- LINGER_EXPIRY
  | waitTimerExpiry (c : Chan)                 -- WAIT_TIMER_EXPIRY
  | minOnExpiry (c : Chan)                     -- MIN_ON_EXPIRY
  | minOffExpiry (c : Chan)                    -- MIN_OFF_EXPIRY
  | fenceExpiry (sender : BitVec 6)            -- FENCE_EXPIRY: the entry by its sender (one entry a sender, R87)
  | yieldHoldoffExpiry                         -- YIELD_HOLDOFF_EXPIRY
  | staggerReached                             -- STAGGER_REACHED
  | statusCapture                              -- STATUS_CAPTURE
  | cfgWrite (t : Operands)                    -- CFG_WRITE
  | cfgRead (t : Operands)                     -- CFG_READ
  | lock (t : Operands)                        -- LOCK
  | demandSet (t : Operands)                   -- DEMAND_SET
  | demandClear (t : Operands)                 -- DEMAND_CLEAR
  | park (t : Operands)                        -- PARK
  | unpark (t : Operands)                      -- UNPARK
  | send (t : Operands)                        -- SEND
  | yield (t : Operands)                       -- YIELD
  | pop (t : Operands)                         -- POP
  | readUnit (t : Operands)                    -- READ_UNIT
  | readChannel (t : Operands)                 -- READ_CHANNEL
  | readQueue (t : Operands)                   -- READ_QUEUE
  | readStation (t : Operands)                 -- READ_STATION
  | readIncident (t : Operands)                -- READ_INCIDENT
  | readEvents (t : Operands)                  -- READ_EVENTS
  | clearEvents (t : Operands)                 -- CLEAR_EVENTS
  | setEnables (t : Operands)                  -- SET_ENABLES
  | join (t : Operands)                        -- JOIN
  | leave (t : Operands)                       -- LEAVE
  | quiet (t : Operands)                       -- QUIET
  | clearFault (t : Operands)                  -- CLEAR_FAULT
  | softReset (t : Operands)                   -- SOFT_RESET
  | unknownCommand (code : Byte)               -- UNKNOWN_COMMAND: the code received
  | candidateOpen                              -- CANDIDATE_OPEN
  | openNoise (run : Nat)                      -- OPEN_NOISE: the run's length, 0 to 2
  | csnRise                                    -- CSN_RISE
  deriving DecidableEq, Repr, Inhabited

end Sys2Proof
end

