-- ==== Sys2Proof/Decode.lean ====
section
/-! DEFINITION. The local port's command list (R174), and the host's decoding of a table word. The
opcode table gives no row any bits, so no word spells a command (log 19). -/

namespace Sys2Proof

/-- The commands of the local port, in the order of the command list (R174). -/
inductive Command where
  | cfgWrite | cfgRead | lock
  | demandSet | demandClear | park | unpark
  | send | yield | pop
  | readUnit | readChannel | readQueue | readStation | readIncident
  | readEvents | clearEvents | setEnables
  | join | leave | quiet | clearFault | softReset
  deriving DecidableEq, Repr, Inhabited

/-- The command that a command byte names, or none (R174, command list). -/
def Command.ofCode (code : Byte) : Option Command :=
  match code.toNat with
  | 0x10 => some .cfgWrite
  | 0x11 => some .cfgRead
  | 0x12 => some .lock
  | 0x20 => some .demandSet
  | 0x21 => some .demandClear
  | 0x22 => some .park
  | 0x23 => some .unpark
  | 0x30 => some .send
  | 0x31 => some .yield
  | 0x32 => some .pop
  | 0x40 => some .readUnit
  | 0x41 => some .readChannel
  | 0x42 => some .readQueue
  | 0x43 => some .readStation
  | 0x44 => some .readIncident
  | 0x50 => some .readEvents
  | 0x51 => some .clearEvents
  | 0x52 => some .setEnables
  | 0x60 => some .join
  | 0x61 => some .leave
  | 0x62 => some .quiet
  | 0x63 => some .clearFault
  | 0x64 => some .softReset
  | _ => none

/-- The commands that return data: they act in the middle of their transaction (R165, R174). -/
def Command.isRead : Command → Bool
  | .cfgRead | .pop | .readUnit | .readChannel | .readQueue | .readStation | .readIncident
  | .readEvents => true
  | _ => false

/-- The payload length that SEND's operand bytes announce: the length operand when it is 0 to 6, and 0
when it is greater (R164). -/
def sendLength (bytes : List Byte) : Nat :=
  match bytes[1]? with
  | some l => if l.toNat ≤ 6 then l.toNat else 0
  | none => 0

/-- The operand count of a command (R164, R174); SEND's is 2 + L, which its second byte settles. -/
def Command.operandCount (k : Command) (bytes : List Byte) : Nat :=
  match k with
  | .cfgWrite => 2
  | .cfgRead => 1
  | .demandSet | .demandClear | .park | .unpark => 1
  | .send => 2 + sendLength bytes
  | .yield => 3
  | .readUnit | .readChannel => 1
  | .clearEvents | .setEnables => 2
  | _ => 0

/-- The table row of a local-port command, with the operands of its transaction. -/
def Command.toInstr (k : Command) (t : Operands) : Instr :=
  match k with
  | .cfgWrite => .cfgWrite t
  | .cfgRead => .cfgRead t
  | .lock => .lock t
  | .demandSet => .demandSet t
  | .demandClear => .demandClear t
  | .park => .park t
  | .unpark => .unpark t
  | .send => .send t
  | .yield => .yield t
  | .pop => .pop t
  | .readUnit => .readUnit t
  | .readChannel => .readChannel t
  | .readQueue => .readQueue t
  | .readStation => .readStation t
  | .readIncident => .readIncident t
  | .readEvents => .readEvents t
  | .clearEvents => .clearEvents t
  | .setEnables => .setEnables t
  | .join => .join t
  | .leave => .leave t
  | .quiet => .quiet t
  | .clearFault => .clearFault t
  | .softReset => .softReset t

/-- The command that a word spells by the opcode table's bits: the table gives none (log 19). -/
def decodeTableWord (_nbits _w : Nat) : Option Instr := none

end Sys2Proof
end

