-- ==== Sys2Proof/Machine/State.lean ====
section
/-! DEFINITION. The station's state as plain data, block by block (00, Block diagram), and its value after
power-on reset. Every timer that counts ms or s is held in microseconds (log 25). -/

namespace Sys2Proof.Machine

/-- No command stops the machine: what the spec calls a fault is a station state (R151, R152). -/
inductive Fault where
  deriving DecidableEq, Repr

/-- Why a command has no meaning. -/
inductive Refusal where
  /-- Raised by an arm of exec whose row has no meaning yet; safe. No arm raises it. -/
  | notModelled (mnemonic : String)
  deriving DecidableEq, Repr

/-! ### Line Interface and Roll Tracker -/

/-- Line Interface: the SHD drive state, the sampled value, bit alignment, dominant-run count and the
stuck-line report's armed state (R1, R2, R3, R6, R17). SHD is pulled low exactly when `drive` is dominant. -/
structure LineIf where
  drive      : Option Level
  value      : Level
  phase      : Nat
  samples    : List Level
  domRun     : Nat
  stuckArmed : Bool
  deriving DecidableEq, Repr

/-- The Roll Tracker's six states (R4). -/
inductive RollState where
  | off
  | settling
  | idle
  | opening
  | inRoll
  | trailing
  deriving DecidableEq, Repr, Inhabited

/-- What a notice's header character said (R12). -/
inductive Header where
  | good (length : Nat)
  | damaged
  deriving DecidableEq, Repr

/-- Roll Tracker: where the line stands (R4 to R17). -/
structure RollTracker where
  state     : RollState
  position  : Nat
  openWish  : Bool
  gap       : Nat
  recessive : Nat
  valid     : Bool
  parsing   : Bool
  openLeft  : Nat
  openFault : Bool
  holdRead  : List Nat
  claimRead : BitVec 10
  takeRead  : List Nat
  flag      : Option Level
  header    : Option Header
  charBits  : List Level
  endDue    : Bool
  deriving DecidableEq, Repr

/-! ### Unit Table -/

/-- A unit's view, with the fields that exist in that view only (R27): the channel of an OWN unit, the
linger left of a SPARE unit in us. -/
inductive View where
  | dead
  | unknown
  | free
  | peer
  | own (c : Chan)
  | spare (linger : Nat)
  | releasing
  deriving DecidableEq, Repr

/-- One unit record (R27). -/
structure UnitRec where
  view   : View
  window : Option Win
  deriving DecidableEq, Repr

/-- Unit Table: one record a unit, the drive set, the free set of the last HOLD, the per-roll skew mark
(R23 to R31). -/
structure UnitTable where
  recs     : List UnitRec
  driveSet : List Nat
  freeSet  : List Nat
  skewMark : Bool
  deriving DecidableEq, Repr

/-! ### Contention Unit -/

/-- The three sources of an outgoing notice (R48, R122). -/
inductive NoticeSource where
  | presence
  | yieldSlot
  | txHead
  deriving DecidableEq, Repr

/-- The bid of a roll (R45 to R50). -/
inductive Bid where
  | nothing
  | channel (c : Chan) (chosen : List Nat) (attached : Option NoticeSource) (priority : Nat)
      (word : BitVec 10)
  | notice (source : NoticeSource) (priority : Nat) (word : BitVec 10)
  deriving DecidableEq, Repr

/-- The claim outcome (R45). -/
inductive ClaimOutcome where
  | noBid
  | bidding
  | lost (bit : Nat)
  | won
  | noWinner
  | abandoned
  deriving DecidableEq, Repr

/-- The last claim: its outcome, with the bit at which it was lost, and the winning word read (R45). -/
structure LastClaim where
  outcome : ClaimOutcome
  word    : BitVec 10
  deriving DecidableEq, Repr

/-- Contention Unit (R45). -/
structure Contention where
  bid          : Bid
  outcome      : ClaimOutcome
  conflictMark : Bool
  lossRun      : Nat
  conflictRun  : Nat
  last         : LastClaim
  deriving DecidableEq, Repr

/-! ### Channel Controller -/

/-- A channel's state, with the fields that exist in that state only (R66, R70). WAITING: the entry time
as a stamp (log 16) and the wait timer in us, absent where the channel has none (R72). ON: the
stop-pending mark and the on-since timer in us. -/
inductive ChState where
  | off
  | waiting (entry : Nat) (wait : Option Nat)
  | starting
  | on (stopPending : Bool) (onSince : Nat)
  | cooldown
  | parked
  | disabled
  deriving DecidableEq, Repr

/-- Shed causes (R83). -/
inductive ShedCause where
  | none
  | overlap
  | yield
  | busLoss
  | stuck
  | drive
  | clash
  | kill
  | leave
  | quiet
  | park
  | reset
  deriving DecidableEq, Repr

/-- A channel's run part (R66) and its demand filter (R67). The off-since timer is in us; `none` is the
spec's own value "none" (R79). -/
structure ChannelRec where
  state    : ChState
  offSince : Option Nat
  lastShed : ShedCause
  soft     : Bool
  park     : Bool
  level    : Bool
  run      : Nat
  deriving DecidableEq, Repr

/-- A fence (R87). -/
structure Fence where
  sender   : BitVec 6
  priority : Nat
  mask     : BitVec 4
  left     : Nat
  deriving DecidableEq, Repr

/-- Channel Controller (R65 to R90); `entries` counts entries to WAITING and stamps them (log 16). -/
structure Channels where
  recs    : Vector ChannelRec 8
  queue   : List Chan
  fences  : List Fence
  entries : Nat
  deriving DecidableEq, Repr

/-! ### Start Sequencer and Output Latch -/

/-- Start Sequencer and Output Latch (R91, R92, R98). -/
structure Sequencer where
  startList : List Chan
  elapsed   : Nat
  latch     : BitVec 8
  deriving DecidableEq, Repr

/-! ### Notice Unit -/

/-- The origin of a yield request (R105). -/
inductive Origin where
  | auto
  | fromPort
  deriving DecidableEq, Repr

/-- A yield request (R105). -/
structure YieldReq where
  priority  : Nat
  mask      : BitVec 4
  wanted    : Nat
  origin    : Origin
  requester : Option Chan
  deriving DecidableEq, Repr

/-- A USER notice of the transmit queue (R122); its length is its payload's. -/
structure UserNotice where
  priority : Nat
  payload  : List Byte
  deriving DecidableEq, Repr

/-- The send record (R125). For a yield it keeps the request whose characters were fixed. -/
structure SendRecord where
  source  : NoticeSource
  header  : Byte
  payload : List Byte
  check   : Byte
  driven  : Nat
  request : Option YieldReq
  deriving DecidableEq, Repr

/-- One received character with its flags (R11). -/
structure RxChar where
  data    : Byte
  framing : Bool
  marker  : Bool
  deriving DecidableEq, Repr

/-- The receive record of a roll (R130): the sender ID once the claim is resolved, and the characters. -/
structure RecvRecord where
  sender : Option (BitVec 6)
  chars  : List RxChar
  deriving DecidableEq, Repr

/-- The error set of a stored notice (R131). -/
structure ErrorSet where
  framing : Bool
  marker  : Bool
  check   : Bool
  length  : Bool
  cut     : Bool
  deriving DecidableEq, Repr

/-- A stored notice (R131); `header` is the header byte when one was received. -/
structure StoredNotice where
  sender  : BitVec 6
  header  : Option Byte
  payload : List Byte
  errors  : ErrorSet
  deriving DecidableEq, Repr

/-- Notice Unit (R105, R106, R122 to R137). The overrun flag is the OVERRUN event (R134). -/
structure NoticeUnit where
  presence : Bool
  slot     : Option YieldReq
  holdoff  : Nat
  tx       : List UserNotice
  send     : Option SendRecord
  recv     : Option RecvRecord
  ring     : List StoredNotice
  deriving DecidableEq, Repr

/-! ### Station Controller -/

/-- The seven station states (08). -/
inductive StationState where
  | config
  | joining
  | active
  | quiet
  | left
  | halted
  | faulted
  deriving DecidableEq, Repr

/-- A pending request (R138). -/
inductive Request where
  | leave
  | quiet
  deriving DecidableEq, Repr

/-- Incident causes (R158). -/
inductive IncidentCause where
  | drive
  | clash
  | busLoss
  | stuck
  | kill
  deriving DecidableEq, Repr

/-- The incident record (R158). -/
structure Incident where
  cause   : IncidentCause
  state   : StationState
  channel : Option Chan
  deriving DecidableEq, Repr

/-- Station Controller (R138); the bus-loss timer in us, `none` while stopped (R154); KILLN's latest
sample (R100, R172). -/
structure StationCtl where
  state     : StationState
  request   : Option Request
  joinCount : Nat
  countable : Bool
  silence   : Nat
  busLoss   : Option Nat
  incident  : Option Incident
  killnLow  : Bool
  deriving DecidableEq, Repr

/-! ### Local Port -/

/-- The replies of the local port (R166). -/
inductive Reply where
  | accepted
  | state
  | range
  | busy
  | full
  | empty
  | count
  | unknown
  | lockFailed (index : Nat)
  deriving DecidableEq, Repr

/-- The configuration image (R160): items 00h to 14h, and the nine fields of each channel. -/
structure Image where
  items    : Vector Byte 21
  channels : Vector (Vector Byte 9) 8
  deriving DecidableEq, Repr

/-- The stages of the SPI receive state (R164). -/
inductive RxStage where
  | idle
  | command
  | operands
  | data
  | drain
  deriving DecidableEq, Repr

/-- The SPI receive state (R164): the stage; the status byte and the reply register captured at the CSN
fall; the command byte; the complete bytes after it; the bits received of the byte in progress; the
data bytes still to return; the byte on its way out; the level of SDO, `none` for high impedance. -/
structure SpiRx where
  stage    : RxStage
  status   : Byte
  replyCap : Reply
  code     : Byte
  got      : List Byte
  bits     : Nat
  shift    : Byte
  out      : List Byte
  outByte  : Byte
  sdo      : Option Bool
  deriving DecidableEq, Repr

/-- Local Port (R160 to R173). -/
structure LocalPort where
  image   : Image
  locked  : Bool
  events  : Word
  enables : Word
  reply   : Reply
  rx      : SpiRx
  deriving DecidableEq, Repr

/-- The CLK to 1 us divider and the us since the last filter sample (R2, R67). -/
structure Clock where
  sub : Nat
  ms  : Nat
  deriving DecidableEq, Repr

/-! ### The station -/

/-- The whole state. `inputs` (log 5) and `free` (log 5, 6) are the model's own; `pending` is the queue
of waiting commands. -/
structure State where
  line    : LineIf
  roll    : RollTracker
  table   : UnitTable
  cont    : Contention
  chans   : Channels
  seq     : Sequencer
  notice  : NoticeUnit
  stn     : StationCtl
  port    : LocalPort
  clock   : Clock
  pins    : Pins
  inputs  : List Pins
  free    : Nat
  pending : List Instr
  deriving DecidableEq, Repr

/-- The outcome of a command. -/
abbrev Out := Host.Outcome State Fault Refusal

/-! ### Values after POR -/

/-- R1, R17 (the report armed). DESIGN CHOICE (log 10): no rule states a reset value for the value read, the bit position,
the samples or the dominant-run count; the count is 0 at POR, RESET and LOCK. -/
def LineIf.reset : LineIf :=
  { drive := none, value := .recessive, phase := 0, samples := [], domRun := 0,
    stuckArmed := true }

/-- R4: OFF, the counts 0, the flags clear. DESIGN CHOICE (log 10): R4 names the position apart from the counts and states
no reset value for it, nor for the reading buffers; the position is 0. -/
def RollTracker.reset : RollTracker :=
  { state := .off, position := 0, openWish := false, gap := 0, recessive := 0, valid := false,
    parsing := false, openLeft := 0, openFault := false, holdRead := [], claimRead := 0,
    takeRead := [], flag := none, header := none, charBits := [], endDue := false }

/-- R43: 64 records, all UNKNOWN, no window. -/
def UnitTable.reset : UnitTable :=
  { recs := List.replicate 64 { view := .unknown, window := none }, driveSet := [], freeSet := [],
    skewMark := false }

/-- R45. -/
def Contention.reset : Contention :=
  { bid := .nothing, outcome := .noBid, conflictMark := false, lossRun := 0, conflictRun := 0,
    last := { outcome := .noBid, word := 0 } }

/-- R67, R70, R79, R90. -/
def ChannelRec.reset : ChannelRec :=
  { state := .disabled, offSince := none, lastShed := .none, soft := false, park := false,
    level := false, run := 0 }

/-- R90. -/
def Channels.reset : Channels :=
  { recs := Vector.replicate 8 ChannelRec.reset, queue := [], fences := [], entries := 0 }

/-- R104. -/
def Sequencer.reset : Sequencer := { startList := [], elapsed := 0, latch := 0 }

/-- R137. -/
def NoticeUnit.reset : NoticeUnit :=
  { presence := false, slot := none, holdoff := 0, tx := [], send := none, recv := none, ring := [] }

/-- R138; log 9 for KILLN. -/
def StationCtl.reset : StationCtl :=
  { state := .config, request := none, joinCount := 0, countable := false, silence := 0,
    busLoss := none, incident := none, killnLow := false }

/-- R160: STATION_ID, BIT_TIME, UNITS, W0 to W3, SPARE_MAX, LINGER, BUS_LOSS, YIELD_HOLDOFF,
NOTICE_LEVEL, FILTER; then each channel's nine fields. -/
def Image.reset : Image :=
  { items := #v[63, 1, 16, 0, 15, 0, 1, 0, 0, 1, 0, 0, 1, 0, 0, 0, 0, 20, 10, 1, 2],
    channels := Vector.replicate 8 #v[0, 1, 1, 0, 0, 0, 1, 0, 0] }

/-- R164, R173. -/
def SpiRx.reset : SpiRx :=
  { stage := .idle, status := 0, replyCap := .accepted, code := 0, got := [], bits := 0, shift := 0,
    out := [], outByte := 0, sdo := none }

/-- R173. -/
def LocalPort.reset : LocalPort :=
  { image := Image.reset, locked := false, events := 0, enables := 0, reply := .accepted,
    rx := SpiRx.reset }

/-- The station right after POR, with nothing waiting. -/
def State.reset : State :=
  { line := LineIf.reset, roll := RollTracker.reset, table := UnitTable.reset,
    cont := Contention.reset, chans := Channels.reset, seq := Sequencer.reset,
    notice := NoticeUnit.reset, stn := StationCtl.reset, port := LocalPort.reset,
    clock := { sub := 0, ms := 0 }, pins := Pins.idle, inputs := [], free := 0, pending := [] }

/-! ### Writing one block -/

def State.setLine (s : State) (x : LineIf) : State := { s with line := x }
def State.setRoll (s : State) (x : RollTracker) : State := { s with roll := x }
def State.setTable (s : State) (x : UnitTable) : State := { s with table := x }
def State.setCont (s : State) (x : Contention) : State := { s with cont := x }
def State.setChans (s : State) (x : Channels) : State := { s with chans := x }
def State.setSeq (s : State) (x : Sequencer) : State := { s with seq := x }
def State.setNotice (s : State) (x : NoticeUnit) : State := { s with notice := x }
def State.setStn (s : State) (x : StationCtl) : State := { s with stn := x }
def State.setPort (s : State) (x : LocalPort) : State := { s with port := x }
def State.setClock (s : State) (x : Clock) : State := { s with clock := x }
def State.setPins (s : State) (x : Pins) : State := { s with pins := x }
def State.setInputs (s : State) (x : List Pins) : State := { s with inputs := x }
def State.setFree (s : State) (x : Nat) : State := { s with free := x }
def State.setPending (s : State) (x : List Instr) : State := { s with pending := x }

end Sys2Proof.Machine
end

