-- ==== Sys2Proof/Machine/Operands.lean ====
section
/-! DEFINITION. The configuration image by index and by item (R160), the ranges of its items (R160, R161),
the window decoding (R24), and the operand ranges of the local-port commands (R174). -/

namespace Sys2Proof.Machine

/-! ### The image by index -/

/-- Where an index of the image lies: an item 00h to 14h, or field f of channel n at 20h + 9n + f; every
other index names no item (R160). -/
inductive Place where
  | item (i : Fin 21)
  | field (c : Chan) (f : Fin 9)
  deriving DecidableEq, Repr

/-- R160, the index table. -/
def placeOf (index : Nat) : Option Place :=
  if h : index < 21 then some (.item ⟨index, h⟩)
  else if h : 0x20 ≤ index ∧ index < 0x68 then
    some (.field ⟨(index - 0x20) / 9, by omega⟩ ⟨(index - 0x20) % 9, by omega⟩)
  else none

/-- The byte at a place. -/
def Image.read (m : Image) : Place → Byte
  | .item i => m.items[i]
  | .field c f => m.channels[c][f]

/-- The image with one byte written. -/
def Image.write (m : Image) (p : Place) (b : Byte) : Image :=
  match p with
  | .item i => { m with items := m.items.set i b }
  | .field c f => { m with channels := m.channels.set c (m.channels[c].set f b) }

/-- The write range of an item (R160, R161): STATION_ID, BIT_TIME, UNITS and SPARE_MAX take 0 to 255, the
others their range at LOCK. -/
def writeRange : Place → Nat × Nat
  | .item i =>
    match i.val with
    | 0x00 | 0x01 | 0x02 | 0x0F => (0, 255)
    | 0x03 | 0x04 | 0x06 | 0x07 | 0x09 | 0x0A | 0x0C | 0x0D => (0, 63)
    | 0x05 | 0x08 | 0x0B | 0x0E => (0, 3)
    | 0x10 => (0, 255)
    | 0x11 | 0x12 => (1, 255)
    | 0x13 => (1, 16)
    | _ => (0, 15)
  | .field _ f =>
    match f.val with
    | 0 => (0, 1)
    | 1 => (1, 8)
    | 2 => (1, 15)
    | 3 => (0, 3)
    | 6 => (1, 255)
    | 7 => (0, 2)
    | _ => (0, 255)

/-- The value lies in the item's write range. -/
def inWriteRange (p : Place) (b : Byte) : Bool :=
  decide ((writeRange p).1 ≤ b.toNat) && decide (b.toNat ≤ (writeRange p).2)

/-! ### The image by item -/

def Image.item (m : Image) (i : Fin 21) : Nat := m.items[i].toNat
def Image.field (m : Image) (c : Chan) (f : Fin 9) : Nat := m.channels[c][f].toNat

/-- STATION_ID (00h). -/
def Image.stationId (m : Image) : Nat := m.item 0
/-- BIT_TIME (01h). -/
def Image.bitTime (m : Image) : Nat := m.item 1
/-- UNITS, the number U (02h, R23). -/
def Image.units (m : Image) : Nat := m.item 2

/-- First unit, last unit and reserve level of a window (03h to 0Eh). -/
def Image.winFirst (m : Image) (w : Win) : Nat := m.item ⟨3 + 3 * w.val, by omega⟩
def Image.winLast (m : Image) (w : Win) : Nat := m.item ⟨4 + 3 * w.val, by omega⟩
def Image.reserve (m : Image) (w : Win) : Nat := m.item ⟨5 + 3 * w.val, by omega⟩

/-- SPARE_MAX (0Fh); LINGER, BUS_LOSS and YIELD_HOLDOFF in us (10h to 12h); NOTICE_LEVEL (13h); FILTER (14h). -/
def Image.spareMax (m : Image) : Nat := m.item 15
def Image.lingerUs (m : Image) : Nat := m.item 16 * Config.tenthSecond
def Image.busLossUs (m : Image) : Nat := m.item 17 * Config.hundredthSecond
def Image.holdoffUs (m : Image) : Nat := m.item 18 * Config.tenthSecond
def Image.noticeLevel (m : Image) : Nat := m.item 19
def Image.filter (m : Image) : Nat := m.item 20

/-- The nine channel fields (R65, R160), times in us. -/
def Image.enabled (m : Image) (c : Chan) : Bool := m.field c 0 != 0
def Image.weight (m : Image) (c : Chan) : Nat := m.field c 1
def Image.mask (m : Image) (c : Chan) : BitVec 4 := (m.channels[c][2]).setWidth 4
def Image.priority (m : Image) (c : Chan) : Nat := m.field c 3
def Image.minOnUs (m : Image) (c : Chan) : Nat := m.field c 4 * Config.second
def Image.minOffUs (m : Image) (c : Chan) : Nat := m.field c 5 * Config.second
def Image.staggerUs (m : Image) (c : Chan) : Nat := m.field c 6 * Config.hundredthSecond
/-- Demand source: PIN 0, SOFT 1, EITHER 2 (R65, R160). -/
def Image.sourcePin (m : Image) (c : Chan) : Bool := m.field c 7 == 0 || m.field c 7 == 2
def Image.sourceSoft (m : Image) (c : Chan) : Bool := m.field c 7 == 1 || m.field c 7 == 2
def Image.waitToYieldUs (m : Image) (c : Chan) : Nat := m.field c 8 * Config.tenthSecond

/-! ### Windows (R24, R25) -/

/-- A window is on when its first unit is at most its last unit (R24). -/
def Image.winOn (m : Image) (w : Win) : Bool := decide (m.winFirst w ≤ m.winLast w)

/-- The lowest-numbered on window that contains the unit (R24); none for a DEAD unit. -/
def Image.windowOf (m : Image) (k : Nat) : Option Win :=
  allWins.find? fun w => m.winOn w && decide (m.winFirst w ≤ k) && decide (k ≤ m.winLast w)

/-- A window is open to a channel: the channel's mask names it and its reserve level is at most the
channel's priority (R25). -/
def Image.winUsable (m : Image) (c : Chan) (w : Win) : Bool :=
  (m.mask c).getLsbD w.val && decide (m.reserve w ≤ m.priority c)

/-- How many of the units 0 to U - 1 a channel may use, decoded as at LOCK (R162, 20h + 9n + 1). -/
def Image.usableCount (m : Image) (c : Chan) : Nat :=
  ((List.range m.units).filter fun k =>
    match m.windowOf k with
    | some w => m.winUsable c w
    | none => false).length

/-! ### PRESENCE's fields (R121) -/

/-- The low eight bits of the sum of the twelve window bytes (R121). -/
def Image.windowSum (m : Image) : Byte :=
  (allWins.map fun w => BitVec.ofNat 8 (m.winFirst w + m.winLast w + m.reserve w)).foldl (· + ·) 0

/-- W0's reserve level in the lowest two bits, W3's in the highest two (R121). -/
def Image.reserveByte (m : Image) : Byte :=
  BitVec.ofNat 2 (m.reserve 3) ++ BitVec.ofNat 2 (m.reserve 2) ++ BitVec.ofNat 2 (m.reserve 1)
    ++ BitVec.ofNat 2 (m.reserve 0)

/-- The three payload bytes of this station's PRESENCE (R121). -/
def Image.presencePayload (m : Image) : List Byte :=
  [BitVec.ofNat 8 m.units, m.windowSum, m.reserveByte]

/-! ### The checks of LOCK (R162) -/

/-- One check of LOCK: the index it belongs to, and whether it passes. -/
structure LockCheck where
  index : Nat
  ok    : Bool
  deriving DecidableEq, Repr

/-- A window's last unit is below U when the window is on (R162, 04h 07h 0Ah 0Dh). -/
def Image.windowCheck (m : Image) (w : Win) : LockCheck :=
  { index := 4 + 3 * w.val, ok := !m.winOn w || decide (m.winLast w < m.units) }

/-- An enabled channel may use at least its weight (R162, 20h + 9n + 1). -/
def Image.channelCheck (m : Image) (c : Chan) : LockCheck :=
  { index := 0x21 + 9 * c.val, ok := !m.enabled c || decide (m.weight c ≤ m.usableCount c) }

/-- The checks in index order (R162). -/
def Image.lockChecks (m : Image) : List LockCheck :=
  [{ index := 0x00, ok := decide (m.stationId ≤ 62) },
   { index := 0x01, ok := decide (m.bitTime ≤ 4) },
   { index := 0x02, ok := decide (8 ≤ m.units ∧ m.units ≤ 64 ∧ m.units % 8 = 0) }]
  ++ allWins.map m.windowCheck
  ++ [{ index := 0x0E, ok := allWins.any m.winOn },
      { index := 0x0F, ok := decide (m.spareMax ≤ 8) },
      { index := 0x11,
        ok := decide (4 * (116 + 2 * m.units) * Config.bitTimeUs m.bitTime ≤ m.busLossUs) }]
  ++ allChans.map m.channelCheck

/-- The lowest index whose check fails, if one fails (R162). -/
def Image.lockFailure (m : Image) : Option Nat :=
  (m.lockChecks.find? fun k => !k.ok).map LockCheck.index

/-! ### Operand ranges of commands (R110, R123, R174) -/

/-- YIELD: priority 0 to 3, window mask 1 to 15, units wanted 1 to 8 (R110). -/
def yieldInRange (priority mask wanted : Byte) : Bool :=
  decide (priority.toNat ≤ 3) && decide (1 ≤ mask.toNat) && decide (mask.toNat ≤ 15)
    && decide (1 ≤ wanted.toNat) && decide (wanted.toNat ≤ 8)

/-- SEND: length 0 to 6 (R123), priority 0 to 3 (R174; log 12). -/
def sendInRange (priority length : Byte) : Bool :=
  decide (priority.toNat ≤ 3) && decide (length.toNat ≤ 6)

end Sys2Proof.Machine
end

