-- ==== Sys2Proof/Machine/Flags.lean ====
section
/-! DEFINITION. The event word, its flags and IRQN (R169 to R171), the status byte (R172), the replies (R166),
and the codes of the named values (R174). -/

namespace Sys2Proof.Machine

/-- The thirteen event flags (R169). -/
inductive Event where
  | joined
  | shed
  | overlap
  | conflict
  | fault
  | busLoss
  | stuck
  | skew
  | yieldIn
  | yieldOut
  | noticeLevel
  | overrun
  | portError
  deriving DecidableEq, Repr

/-- A flag's position in the event word (R174). -/
def Event.bit : Event → Nat
  | .joined => 0
  | .shed => 1
  | .overlap => 2
  | .conflict => 3
  | .fault => 4
  | .busLoss => 5
  | .stuck => 6
  | .skew => 7
  | .yieldIn => 8
  | .yieldOut => 9
  | .noticeLevel => 10
  | .overrun => 11
  | .portError => 12

/-- The word with one flag set. -/
def Event.word (e : Event) : Word := BitVec.twoPow 16 e.bit

/-- The thirteen flag positions; bits 13 to 15 read 0 (R174). -/
def flagMask : Word := 0x1FFF

/-- Setting a flag: a single mark, not a count (R169). -/
def State.setEvent (s : State) (e : Event) : State :=
  s.setPort { s.port with events := s.port.events ||| e.word }

/-- A flag is set. -/
def State.hasEvent (s : State) (e : Event) : Bool := s.port.events.getLsbD e.bit

/-- IRQN is driven low while an enabled flag is set (R171). -/
def State.irqLow (s : State) : Bool := s.port.events &&& s.port.enables != 0

/-! ### Codes (R174) -/

def StationState.code : StationState → BitVec 3
  | .config => 0
  | .joining => 1
  | .active => 2
  | .quiet => 3
  | .left => 4
  | .halted => 5
  | .faulted => 6

def View.code : View → Byte
  | .dead => 0
  | .unknown => 1
  | .free => 2
  | .peer => 3
  | .own _ => 4
  | .spare _ => 5
  | .releasing => 6

def ChState.code : ChState → Byte
  | .off => 0
  | .waiting _ _ => 1
  | .starting => 2
  | .on _ _ => 3
  | .cooldown => 4
  | .parked => 5
  | .disabled => 6

def ShedCause.code : ShedCause → Byte
  | .none => 0
  | .overlap => 1
  | .yield => 2
  | .busLoss => 3
  | .stuck => 4
  | .drive => 5
  | .clash => 6
  | .kill => 7
  | .leave => 8
  | .quiet => 9
  | .park => 10
  | .reset => 11

def IncidentCause.code : IncidentCause → Byte
  | .drive => 1
  | .clash => 2
  | .busLoss => 3
  | .stuck => 4
  | .kill => 5

/-- The code of a claim outcome; `bidding` is never the last claim's and reads as no bid. -/
def ClaimOutcome.code : ClaimOutcome → BitVec 4
  | .noBid => 0
  | .bidding => 0
  | .lost _ => 1
  | .won => 2
  | .noWinner => 3
  | .abandoned => 4

/-- The bit at which a claim was lost, 0 when it was not lost (R45). -/
def ClaimOutcome.lostBit : ClaimOutcome → Nat
  | .lost j => j
  | _ => 0

def Request.code : Request → Byte
  | .leave => 1
  | .quiet => 2

def Reply.code : Reply → Byte
  | .accepted => 0x00
  | .state => 0x01
  | .range => 0x02
  | .busy => 0x03
  | .full => 0x04
  | .empty => 0x05
  | .count => 0x06
  | .unknown => 0x07
  | .lockFailed i => 0x80 + BitVec.ofNat 8 i

/-- Which replies set PORT_ERROR (R166). -/
def Reply.setsPortError : Reply → Bool
  | .accepted | .busy | .full | .empty => false
  | .state | .range | .count | .unknown | .lockFailed _ => true

/-- Which shed causes set the SHED event (R83). -/
def ShedCause.setsShed : ShedCause → Bool
  | .overlap | .yield | .busLoss | .stuck | .drive | .clash | .kill => true
  | .none | .leave | .quiet | .park | .reset => false

/-! ### The status byte (R172, R174) -/

def State.statusByte (s : State) : Byte :=
  s.stn.state.code ++ BitVec.ofBool s.irqLow ++ BitVec.ofBool (!s.notice.ring.isEmpty)
    ++ BitVec.ofBool (decide (s.notice.tx.length = Config.txPlaces)) ++ BitVec.ofBool s.stn.killnLow
    ++ BitVec.ofBool s.port.locked

/-! ### Pins (R1, R98, R171) -/

/-- SHD is pulled low while the value given for the bit is dominant (R1). -/
def State.shdLow (s : State) : Bool := s.line.drive == some .dominant

/-- OUTn is high when bit n of the latch is set (R98). -/
def State.outHigh (s : State) (c : Chan) : Bool := s.seq.latch.getLsbD c.val

end Sys2Proof.Machine
end

