-- ==== Sys2Proof/Machine/Ops.lean ====
section
/-! DEFINITION. The operations the blocks share: the Unit Table's changes of view, the start list and turn-on,
the demand queue and spare binding, stop and shed, the yield slot, and the changes of station state. -/

namespace Sys2Proof.Machine

/-! ### Reading the state -/

/-- The station is ACTIVE. -/
def State.isActive (s : State) : Bool := s.stn.state == .active

/-- The station is in JOINING, ACTIVE or QUIET, where the Unit Table takes readings and the clash check
is made (R28, R54). -/
def State.listens (s : State) : Bool :=
  match s.stn.state with
  | .joining | .active | .quiet => true
  | .config | .left | .halted | .faulted => false

/-- U (R23). -/
def State.numUnits (s : State) : Nat := s.port.image.units

/-- This station's ID as it stands in a claim word (R50). -/
def State.ownId (s : State) : BitVec 6 := BitVec.ofNat 6 s.port.image.stationId

/-- A roll is in flight (R4). -/
def State.inFlight (s : State) : Bool :=
  match s.roll.state with
  | .inRoll | .trailing => true
  | .off | .settling | .idle | .opening => false

/-- A channel record. -/
def State.chan (s : State) (c : Chan) : ChannelRec := s.chans.recs[c]

/-- Writing a channel record. -/
def State.setChan (s : State) (c : Chan) (r : ChannelRec) : State :=
  s.setChans { s.chans with recs := s.chans.recs.set c r }

/-- Writing a channel's state alone. -/
def State.setChState (s : State) (c : Chan) (x : ChState) : State :=
  s.setChan c { s.chan c with state := x }

def ChState.isOn : ChState → Bool
  | .on _ _ => true
  | _ => false

def ChState.isWaiting : ChState → Bool
  | .waiting _ _ => true
  | _ => false

/-- STARTING or ON: the states that hold units (R66). -/
def ChState.holdsUnits : ChState → Bool
  | .starting => true
  | .on _ _ => true
  | _ => false

/-! ### The Unit Table (R27 to R42) -/

def View.isSpare : View → Bool
  | .spare _ => true
  | _ => false

/-- OWN or SPARE: the views that are asserted in the next HOLD (R27, R29). -/
def View.held : View → Bool
  | .own _ => true
  | .spare _ => true
  | _ => false

/-- The units whose record meets a test, ascending. -/
def UnitTable.unitsWhere (t : UnitTable) (p : UnitRec → Bool) : List Nat :=
  (List.range t.recs.length).filter fun k => (t.recs[k]?).any p

/-- Changes views unit by unit; windows stay. -/
def UnitTable.mapViews (t : UnitTable) (f : Nat → View → View) : UnitTable :=
  { t with recs := t.recs.mapIdx fun k r => { r with view := f k r.view } }

/-- The bound units of a channel, ascending (R66). -/
def UnitTable.boundUnits (t : UnitTable) (c : Chan) : List Nat :=
  t.unitsWhere fun r => r.view == .own c

/-- The spare count (R27). -/
def UnitTable.spareCount (t : UnitTable) : Nat := t.recs.countP fun r => r.view.isSpare

/-- Some unit is OWN or SPARE (R15, R154). -/
def UnitTable.holdsAny (t : UnitTable) : Bool := t.recs.any fun r => r.view.held

/-- A unit is usable by a channel (R25). -/
def State.unitUsable (s : State) (c : Chan) (r : UnitRec) : Bool :=
  r.view != .dead &&
    match r.window with
    | some w => s.port.image.winUsable c w
    | none => false

/-- The units of the last free set that a channel may use, lowest first (R31, R47, R49). -/
def State.freeUsable (s : State) (c : Chan) : List Nat :=
  s.table.freeSet.filter fun k => (s.table.recs[k]?).any (s.unitUsable c)

/-- The SPARE units a channel may use, lowest first (R40). -/
def State.spareUsable (s : State) (c : Chan) : List Nat :=
  s.table.unitsWhere fun r => r.view.isSpare && s.unitUsable c r

/-- The units named become OWN for the channel (R35, R40). -/
def State.bindUnits (s : State) (c : Chan) (ks : List Nat) : State :=
  s.setTable (s.table.mapViews fun k v => if k ∈ ks then .own c else v)

/-- Every unit bound to the channel becomes RELEASING (R41, Shed). -/
def State.releaseUnits (s : State) (c : Chan) : State :=
  s.setTable (s.table.mapViews fun _ v => if v = .own c then .releasing else v)

/-- The units a stop keeps as spares: the lowest-numbered of the channel's, as many as LINGER and the room
under SPARE_MAX allow (R38). -/
def State.keptSpares (s : State) (c : Chan) : List Nat :=
  if s.port.image.lingerUs = 0 then []
  else (s.table.boundUnits c).take (s.port.image.spareMax - s.table.spareCount)

/-- A stop's return of units: the kept ones become SPARE with LINGER left, the others RELEASING (R38). -/
def State.returnUnits (s : State) (c : Chan) : State :=
  s.setTable (s.table.mapViews fun k v =>
    if v = .own c then
      if k ∈ s.keptSpares c then .spare s.port.image.lingerUs else .releasing
    else v)

/-- A record is a SPARE whose window is in a yield's mask (R41). -/
def UnitRec.spareIn (mask : BitVec 4) (r : UnitRec) : Bool :=
  r.view.isSpare &&
    match r.window with
    | some w => mask.getLsbD w.val
    | none => false

/-- The spares that a received yield releases (R41, Yield). -/
def UnitTable.sparesIn (t : UnitTable) (mask : BitVec 4) : List Nat :=
  t.unitsWhere (UnitRec.spareIn mask)

/-- Every SPARE unit whose window is in the mask becomes RELEASING (R41, Yield). -/
def State.releaseSpares (s : State) (mask : BitVec 4) : State :=
  s.setTable (s.table.mapViews fun k v => if k ∈ s.table.sparesIn mask then .releasing else v)

/-- The station-level drop: every view but DEAD becomes UNKNOWN, the free set and the drive set of any roll
in flight are emptied (R42). -/
def State.dropPicture (s : State) : State :=
  s.setTable
    { s.table.mapViews (fun _ v => if v = .dead then .dead else .unknown) with
      driveSet := [], freeSet := [] }

/-! ### Start list and outputs (R91 to R98) -/

/-- The head of the start list may turn on (R93): its stagger has passed, the station is ACTIVE, KILLN is
high. -/
def State.headReady (s : State) (c : Chan) : Bool :=
  decide (s.port.image.staggerUs c ≤ s.seq.elapsed) && s.isActive && !s.stn.killnLow

/-- A turn-on (R94): latch bit set, channel ON with on-since 0 and the mark clear, removed from the front,
elapsed timer 0. -/
def State.turnOn (s : State) (c : Chan) : State :=
  (s.setSeq { startList := s.seq.startList.tail, elapsed := 0,
              latch := s.seq.latch ||| BitVec.twoPow 8 c.val }).setChState c (.on false 0)

/-- The check of the head (R93). -/
def State.checkHead (s : State) : State :=
  match s.seq.startList with
  | [] => s
  | c :: _ => if s.headReady c then s.turnOn c else s

/-- An append to the start list, with its check (R91, R93). -/
def State.appendStart (s : State) (c : Chan) : State :=
  (s.setSeq { s.seq with startList := s.seq.startList ++ [c] }).checkHead

/-- A removal from the start list without turn-on (R95). Removing the head is a check of the new head,
except while the station is leaving ACTIVE (R95, last sentences). -/
def State.removeStart (s : State) (c : Chan) (leaving : Bool) : State :=
  let t := s.setSeq { s.seq with startList := s.seq.startList.filter (· ≠ c) }
  if s.seq.startList.head? = some c ∧ leaving = false then t.checkHead else t

/-- The output bit of a channel goes off (R76, R82). -/
def State.clearOutput (s : State) (c : Chan) : State :=
  s.setSeq { s.seq with latch := s.seq.latch &&& ~~~ BitVec.twoPow 8 c.val }

/-! ### Wait timer and yield slot (R72, R77, R105, R109) -/

/-- A channel's full wait-to-yield time, for a channel that has a wait timer (R72). -/
def State.fullWait (s : State) (c : Chan) : Option Nat :=
  if 1 ≤ s.port.image.priority c ∧ 0 < s.port.image.waitToYieldUs c then
    some (s.port.image.waitToYieldUs c)
  else none

/-- A WAITING channel's wait timer, where it has one, starts again from the full time (R77). -/
def State.restartWait (s : State) (c : Chan) : State :=
  match (s.chan c).state with
  | .waiting e (some _) => s.setChState c (.waiting e (s.fullWait c))
  | _ => s

def State.setSlot (s : State) (x : Option YieldReq) : State := s.setNotice { s.notice with slot := x }

/-- The channel leaves WAITING: the slot's request, if it is the channel's, loses its requester (R109). -/
def State.dropRequester (s : State) (c : Chan) : State :=
  match s.notice.slot with
  | some q => if q.requester = some c then s.setSlot (some { q with requester := none }) else s
  | none => s

/-- A request of the slot is sent, replaced or discarded: its requester's wait timer starts again (R77,
R105, R109, R111). -/
def State.freeRequester (s : State) : State :=
  match s.notice.slot with
  | some q =>
    match q.requester with
    | some c => s.restartWait c
    | none => s
  | none => s

/-- The slot is emptied (R105, R111). -/
def State.emptySlot (s : State) : State := s.freeRequester.setSlot none

/-! ### Demand queue, fences and spare binding (R72, R80, R81, R88) -/

/-- Insertion after every entry of equal or higher priority, before every entry of lower (R80). -/
def insertQueue (priority : Chan → Nat) (c : Chan) : List Chan → List Chan
  | [] => [c]
  | d :: rest =>
    if priority c ≤ priority d then d :: insertQueue priority c rest else c :: d :: rest

/-- A channel joins the demand queue and gets its entry time and its wait timer (R72). -/
def State.joinQueue (s : State) (c : Chan) : State :=
  (s.setChans { s.chans with
    queue := insertQueue s.port.image.priority c s.chans.queue
    entries := s.chans.entries + 1 }).setChState c (.waiting s.chans.entries (s.fullWait c))

/-- A channel leaves the demand queue, and WAITING with it (R80, R109). -/
def State.leaveQueue (s : State) (c : Chan) : State :=
  (s.setChans { s.chans with queue := s.chans.queue.filter (· ≠ c) }).dropRequester c

/-- A channel is fenced (R88). -/
def State.fenced (s : State) (c : Chan) : Bool :=
  s.chans.fences.any fun f =>
    decide (s.port.image.priority c < f.priority) && (f.mask &&& s.port.image.mask c != 0)

/-- Units are bound to a WAITING channel: it leaves the queue, enters STARTING and is appended to the start
list (R74). -/
def State.toStarting (s : State) (c : Chan) : State :=
  ((s.leaveQueue c).setChState c .starting).appendStart c

/-- The first queued channel that is not fenced and that the spares cover (R81). -/
def State.spareCandidate (s : State) : Option Chan :=
  s.chans.queue.find? fun c =>
    !s.fenced c && decide (s.port.image.weight c ≤ (s.spareUsable c).length)

/-- Spares bound to a channel: the lowest-numbered usable ones, exactly its weight (R40). -/
def State.bindSpares (s : State) (c : Chan) : State :=
  (s.bindUnits c ((s.spareUsable c).take (s.port.image.weight c))).toStarting c

/-- The walk of the spare-binding check, started again after each binding (R81). Each binding takes a
channel out of the queue, so the queue's length bounds the walks. -/
def spareWalk : Nat → State → State
  | 0, s => s
  | n + 1, s =>
    match s.spareCandidate with
    | none => s
    | some c => spareWalk n (s.bindSpares c)

/-- The spare-binding check, only while the station is ACTIVE (R81). -/
def State.spareCheck (s : State) : State :=
  if s.isActive then spareWalk s.chans.queue.length s else s

/-- Entry to WAITING (R72). The check is left out in a station-level shed (R84). -/
def State.enterWaiting (s : State) (c : Chan) (leaving : Bool) : State :=
  if leaving then s.joinQueue c else (s.joinQueue c).spareCheck

/-! ### Demand, stop and shed (R69 to R76, R82) -/

/-- Effective demand (R69). -/
def State.demand (s : State) (c : Chan) : Bool :=
  s.port.image.enabled c && !(s.chan c).park &&
    ((s.port.image.sourcePin c && (s.chan c).level)
      || (s.port.image.sourceSoft c && (s.chan c).soft))

/-- Writes the off-since timer to 0: the output has gone off (R79). -/
def State.startOffSince (s : State) (c : Chan) : State :=
  s.setChan c { s.chan c with offSince := some 0 }

/-- A stop (R76): voluntary, from ON or STARTING; in any other state nothing to stop. -/
def State.stopChan (s : State) (c : Chan) : State :=
  match (s.chan c).state with
  | .on _ _ =>
    (((s.clearOutput c).returnUnits c).startOffSince c).setChState c
      (if 0 < s.port.image.minOffUs c then .cooldown else .off)
  | .starting => ((s.returnUnits c).setChState c .off).removeStart c false
  | _ => s

/-- Writes the last shed cause (R82, 3). -/
def State.writeCause (s : State) (c : Chan) (cause : ShedCause) : State :=
  s.setChan c { s.chan c with lastShed := cause }

/-- A channel shed without min off to serve: WAITING if it has effective demand, OFF otherwise (R82, 4). -/
def State.shedNext (s : State) (c : Chan) (leaving : Bool) : State :=
  if s.demand c then s.enterWaiting c leaving else s

/-- A shed (R82). `leaving` marks a station-level shed: no spare-binding check (R84) and no turn-on of a
new head (R95). -/
def State.shedChan (s : State) (cause : ShedCause) (leaving : Bool) (c : Chan) : State :=
  match (s.chan c).state with
  | .on _ _ =>
    let t := (((s.clearOutput c).releaseUnits c).startOffSince c).writeCause c cause
    if cause = .park then t.setChState c .parked
    else if 0 < s.port.image.minOffUs c then t.setChState c .cooldown
    else (t.setChState c .off).shedNext c leaving
  | .starting =>
    let t := (s.releaseUnits c).writeCause c cause
    if cause = .park then (t.setChState c .parked).removeStart c leaving
    else ((t.setChState c .off).removeStart c leaving).shedNext c leaving
  | .waiting _ _ =>
    if cause = .park then ((s.leaveQueue c).writeCause c cause).setChState c .parked else s
  | _ => s

/-- Demand appears (R71, R75): OFF goes on to WAITING, a stop-pending mark is cleared. -/
def State.demandAppears (s : State) (c : Chan) : State :=
  match (s.chan c).state with
  | .off => s.enterWaiting c false
  | .on true t => s.setChState c (.on false t)
  | _ => s

/-- Demand disappears (R73, R74, R75). -/
def State.demandDisappears (s : State) (c : Chan) : State :=
  match (s.chan c).state with
  | .waiting _ _ => (s.leaveQueue c).setChState c .off
  | .starting => s.stopChan c
  | .on _ t =>
    if s.port.image.minOnUs c ≤ t then s.stopChan c else s.setChState c (.on true t)
  | _ => s

/-- Writes a record whose demand inputs may have changed, and takes the demand event if effective demand
changed (R69). -/
def State.writeInputs (s : State) (c : Chan) (r : ChannelRec) : State :=
  let t := s.setChan c r
  if s.demand c = t.demand c then t
  else if t.demand c then t.demandAppears c
  else t.demandDisappears c

/-- The channels of a mask, in channel-number order (R67, R68, R85, R86). -/
def chansIn (mask : BitVec 8) : List Chan := allChans.filter fun c => mask.getLsbD c.val

/-! ### Conditions that follow the state (R15, R99, R154) -/

/-- What sets the open-wish flag in ACTIVE (R15). -/
def State.wishes (s : State) : Bool :=
  s.table.holdsAny || s.chans.recs.any (fun r => r.state.isWaiting) || s.notice.presence
    || s.notice.slot.isSome || !s.notice.tx.isEmpty

/-- The open-wish flag follows its conditions; in JOINING it is the silence report's (R15). -/
def State.refreshWish (s : State) : State :=
  s.setRoll { s.roll with
    openWish :=
      match s.stn.state with
      | .active => s.wishes
      | .joining => s.roll.openWish
      | _ => false }

/-- When the bus-loss timer runs (R154). -/
def State.busLossRuns (s : State) : Bool :=
  s.isActive && (s.table.holdsAny || s.chans.recs.any (fun r => r.state.isOn))

/-- The bus-loss timer starts when its running condition becomes true and stops when it becomes false
(R154). -/
def State.refreshBusLoss (s : State) : State :=
  s.setStn { s.stn with
    busLoss :=
      if s.busLossRuns then some (s.stn.busLoss.getD s.port.image.busLossUs) else none }

/-- The hold-clear: the latch is 0 while KILLN is low or the station is not ACTIVE (R99). -/
def State.holdClear (s : State) : State :=
  if s.isActive && !s.stn.killnLow then s else s.setSeq { s.seq with latch := 0 }

/-- Every event that can change one of these conditions ends here (log 27). -/
def State.settle (s : State) : State := s.holdClear.refreshWish.refreshBusLoss

/-! ### Changes of station state (R84, R138 to R158) -/

/-- The Line Interface releases SHD and an OPEN pulse ends (R1). -/
def State.releaseLine (s : State) : State :=
  (s.setLine { s.line with drive := none }).setRoll { s.roll with openLeft := 0 }

/-- The station-level shed (R84), with the SHED event where its cause sets it and a channel was STARTING or
ON (R83). -/
def State.stationShed (s : State) (cause : ShedCause) : State :=
  let t := allChans.foldl (fun u c => u.shedChan cause true c) s
  if s.chans.recs.any (fun r => r.state.holdsUnits) && cause.setsShed then t.setEvent .shed else t

/-- The Contention Unit abandons its part when the station leaves ACTIVE with a roll in flight (R63, R143;
log 18). -/
def State.abandonClaim (s : State) : State :=
  if s.isActive && s.inFlight then
    s.setCont { s.cont with bid := .nothing, outcome := .abandoned }
  else s

/-- The notice has been driven to the end of its check character (R127). -/
def SendRecord.whole (r : SendRecord) : Bool := decide (r.driven = r.payload.length + 2)

/-- A send record whose check character has not been driven to its end is discarded (R125, R129). -/
def State.abandonSend (s : State) : State :=
  match s.notice.send with
  | some r => if r.whole then s else s.setNotice { s.notice with send := none }
  | none => s

/-- The Notice Unit's part of a departure (R105, R124, R129). -/
def State.departNotice (s : State) : State :=
  let t := s.abandonSend.emptySlot
  t.setNotice { t.notice with presence := false }

/-- The fence list is emptied at every departure (R87). -/
def State.dropFences (s : State) : State := s.setChans { s.chans with fences := [] }

/-- Entry into a state other than ACTIVE: SHD released (R1), the pending request discarded (R143); into
JOINING, join count 0, countable mark clear, and the silence report made at once when the timer has
expired (R140, R141). DESIGN CHOICE (log 38): a SOFT_RESET taken in JOINING counts as a departure from JOINING and an
entry to it, so the open-wish flag is set anew from the silence timer. -/
def State.enterState (s : State) (x : StationState) : State :=
  let t := s.releaseLine
  match x with
  | .joining =>
    (t.setStn { t.stn with state := x, request := none, joinCount := 0, countable := false }).setRoll
      { t.roll with openWish := decide (Config.silenceEnd ≤ s.stn.silence) }
  | _ =>
    (t.setStn { t.stn with state := x, request := none }).setRoll { t.roll with openWish := false }

/-- JOINING if KILLN is high, HALTED if it is low (R139, R153, R157). -/
def State.joinOrHalt (s : State) : StationState := if s.stn.killnLow then .halted else .joining

/-- The departure procedure (R143): station-level shed, station-level drop, the owning blocks' parts, the
new state. -/
def State.depart (s : State) (cause : ShedCause) (x : StationState) : State :=
  ((s.stationShed cause).dropPicture.abandonClaim.departNotice.dropFences).enterState x

/-- The incident record is written with the state the incident is taken in (R158). -/
def State.writeIncident (s : State) (cause : IncidentCause) (c : Option Chan) : State :=
  s.setStn { s.stn with incident := some { cause := cause, state := s.stn.state, channel := c } }

/-- A DRIVE fault (R151). -/
def State.faultDrive (s : State) (c : Option Chan) : State :=
  (((s.writeIncident .drive c).depart .drive .faulted)).setEvent .fault

/-- A CLASH fault (R152). -/
def State.faultClash (s : State) : State :=
  (((s.writeIncident .clash none).depart .clash .faulted)).setEvent .fault

/-- Entry to ACTIVE (R142). -/
def State.enterActive (s : State) : State :=
  let t := s.setEvent .joined
  ((t.setStn { t.stn with state := .active, request := none, busLoss := none }).setNotice
    { t.notice with presence := true }).setCont { t.cont with lossRun := 0, conflictRun := 0 }

/-- A pending request acts (R145): the station leaves ACTIVE to LEFT or QUIET. -/
def State.actRequest (s : State) : Request → State
  | .leave => s.depart .leave .left
  | .quiet => s.depart .quiet .quiet

end Sys2Proof.Machine
end

