-- ==== Sys2Proof/Machine/Line.lean ====
section
/-! DEFINITION. The rows of the share line outside a roll's phases: settling, OPEN, roll start, malformed
OPEN, stuck line, silence (R4 to R8, R15 to R17, R140, R141, R156). An event in a state in which the spec
says it cannot occur changes nothing (log 2). -/

namespace Sys2Proof.Machine

/-- The 12th recessive bit time in SETTLING (R4, R5, R17). -/
def State.takeSettlingEnd (s : State) : State :=
  if s.roll.state = .settling then
    (s.setRoll { s.roll with state := .idle, gap := Config.gapBits, recessive := 0 }).setLine
      { s.line with stuckArmed := true }
  else s

/-- SETTLING_END. -/
def execSettlingEnd (s : State) : Out := .next s.takeSettlingEnd

/-- The edge in IDLE that begins a candidate OPEN, with the bit boundary aligned to it (R3, R6). -/
def State.takeCandidateOpen (s : State) : State :=
  if s.roll.state = .idle then
    (s.setRoll { s.roll with state := .opening, openFault := false }).setLine
      { s.line with phase := 0, samples := [] }
  else s

/-- CANDIDATE_OPEN. -/
def execCandidateOpen (s : State) : Out := .next s.takeCandidateOpen

/-- A run of 0 to 2 dominant bit times ends as noise (R6). -/
def State.takeOpenNoise (s : State) (run : Nat) : State :=
  if s.roll.state = .opening ∧ run ≤ 2 then
    s.setRoll { s.roll with
      state := .idle
      gap := if run = 0 then min Config.gapBits (s.roll.gap + 1) else 1
      openFault := false }
  else s

/-- OPEN_NOISE. -/
def execOpenNoise (run : Nat) (s : State) : Out := .next (s.takeOpenNoise run)

/-- The station drives in its present state: ACTIVE, or JOINING for the OPEN pulse alone (R1). -/
def State.mayOpen (s : State) : Bool :=
  match s.stn.state with
  | .active | .joining => true
  | _ => false

/-- A station with the open-wish flag set opens in IDLE at gap 12, or merges into a candidate run below 4
bit times; one that is driving its pulse already does neither again (R16). -/
def State.openReady (s : State) : Bool :=
  s.mayOpen && s.roll.openWish && decide (s.roll.openLeft = 0) &&
    match s.roll.state with
    | .idle => decide (s.roll.gap = Config.gapBits)
    | .opening => decide (s.line.domRun < Config.openBits)
    | _ => false

/-- Dominant from this bit boundary until 4 bit times after the edge (R16). -/
def State.takeOpenRoll (s : State) : State :=
  if s.openReady then
    (s.setRoll { s.roll with
      openLeft := Config.openBits - (if s.roll.state = .opening then s.line.domRun else 0) }).setLine
      { s.line with drive := some .dominant }
  else s

/-- OPEN_ROLL. -/
def execOpenRoll (s : State) : Out := .next s.takeOpenRoll

/-- The Roll Tracker at SYNC (R7, R21): IN ROLL at position 0, valid unless this OPEN carried a DRIVE report,
nothing read yet; in JOINING the open-wish flag is cleared (R15). -/
def RollTracker.start (r : RollTracker) (joining : Bool) : RollTracker :=
  { r with
    state := .inRoll
    position := 0
    openWish := if joining then false else r.openWish
    valid := !r.openFault
    parsing := true
    openLeft := 0
    openFault := false
    holdRead := []
    claimRead := 0
    takeRead := []
    flag := none
    header := none
    charBits := []
    endDue := false }

/-- The roll start at every block that acts on it (R7, R26, R29, R45, R130, R140, R141). -/
def State.takeRollStart (s : State) : State :=
  if s.roll.state = .opening then
    ((((((s.setRoll (s.roll.start (s.stn.state == .joining))).setLine { s.line with drive := none }).setTable
      { s.table with
        driveSet := s.table.unitsWhere (fun r => r.view.held), skewMark := false }).setCont
      { s.cont with bid := .nothing, outcome := .noBid, conflictMark := false }).setNotice
      { s.notice with send := none, recv := some { sender := none, chars := [] } }).setStn
      { s.stn with
        silence := 0
        countable := if s.stn.state = .joining then true else s.stn.countable })
  else s

/-- ROLL_START. -/
def execRollStart (s : State) : Out := .next s.takeRollStart.settle

/-- A dominant run of 7 bit times where an OPEN is expected (R8); in JOINING the join count becomes 0
(R140). -/
def State.takeMalformedOpen (s : State) : State :=
  if s.roll.state = .opening then
    ((s.setRoll { s.roll with state := .settling, recessive := 0, openLeft := 0, openFault := false }).setLine
      { s.line with drive := none }).setStn
      { s.stn with joinCount := if s.stn.state = .joining then 0 else s.stn.joinCount }
  else s

/-- MALFORMED_OPEN. -/
def execMalformedOpen (s : State) : Out := .next s.takeMalformedOpen

/-- The Station Controller takes a stuck-line report (R156). -/
def State.stuckReport (s : State) : State :=
  match s.stn.state with
  | .active => ((s.writeIncident .stuck none).depart .stuck .joining).setEvent .stuck
  | .joining | .quiet => (s.setStn { s.stn with joinCount := 0 }).setEvent .stuck
  | .left | .halted | .faulted => s.setEvent .stuck
  | .config => s

/-- The Roll Tracker and the Line Interface at a stuck line (R17, R21): SETTLING; a roll in flight is ended
and its roll end is due (log 17); it is invalid unless FLAG had settled it; SHD is released. DESIGN CHOICE (log 39): a line
found stuck in IDLE takes the Roll Tracker to SETTLING too. -/
def State.stuckTracker (s : State) : State :=
  let t := s.releaseLine
  t.setRoll { t.roll with
    state := .settling
    recessive := 0
    openFault := false
    valid := t.roll.valid && (!s.inFlight || t.roll.flag.isSome)
    endDue := t.roll.endDue || s.inFlight }

/-- A stuck line is reported once, while the report is armed (R17). -/
def State.takeStuckLine (s : State) : State :=
  if s.roll.state ≠ .off ∧ s.line.stuckArmed = true then
    ((s.setLine { s.line with stuckArmed := false }).stuckReport).stuckTracker
  else s

/-- STUCK_LINE. -/
def execStuckLine (s : State) : Out := .next s.takeStuckLine.settle

/-- The silence timer reaches 512 BT; in JOINING the open-wish flag is set (R15, R141). -/
def State.takeSilenceExpiry (s : State) : State :=
  if s.roll.state ≠ .off then
    (s.setStn { s.stn with silence := Config.silenceEnd }).setRoll
      { s.roll with openWish := if s.stn.state = .joining then true else s.roll.openWish }
  else s

/-- SILENCE_TIMER_EXPIRY. -/
def execSilenceTimerExpiry (s : State) : Out := .next s.takeSilenceExpiry

end Sys2Proof.Machine
end

