-- ==== Sys2Proof/Machine/Claim.lean ====
section
/-! DEFINITION. The phases of a roll in flight: HOLD, CLAIM, TAKE, FLAG, and the readback reports
(R9, R26 to R37, R45 to R64, R18 to R20, R151). A phase event acts in IN ROLL, while the roll's parsing goes
on and before its position has passed (R9, R17, R19; log 2). -/

namespace Sys2Proof.Machine

/-- The phase event of position q may be taken. -/
def State.phaseDue (s : State) (q : Nat) : Bool :=
  decide (s.roll.state = .inRoll) && s.roll.parsing && decide (s.roll.position < q)

/-- The Roll Tracker's position after a phase event. -/
def State.toPosition (s : State) (q : Nat) : State := s.setRoll { s.roll with position := q }

/-- The station takes part in bits of the roll in flight: ACTIVE, and no conflict reported (R10, R20). -/
def State.takesPart (s : State) : Bool :=
  s.isActive && !s.cont.conflictMark && s.roll.parsing

/-! ### HOLD complete (R26, R30, R31) -/

/-- A DEAD unit was read dominant: SKEW, at most once a roll (R26). -/
def State.markSkew (s : State) (units : List Nat) : State :=
  if s.table.skewMark = false ∧
      (units.any fun k => (s.table.recs[k]?).any fun r => r.view == .dead) = true then
    (s.setTable { s.table with skewMark := true }).setEvent .skew
  else s

/-- The view of unit k after a HOLD complete (R30). -/
def holdView (driveSet units : List Nat) (k : Nat) (v : View) : View :=
  if v = .dead then .dead
  else if k ∈ driveSet then v
  else if v.held then v
  else if k ∈ units then .peer
  else .free

/-- The units that a HOLD complete makes FREE (R31). -/
def UnitTable.freed (t : UnitTable) (units : List Nat) : List Nat :=
  (List.range t.recs.length).filter fun k =>
    (t.recs[k]?).any fun r =>
      decide (holdView t.driveSet units k r.view = .free) && !decide (k ∈ t.driveSet)

/-- The Unit Table takes HOLD complete (R30, R31). -/
def State.holdViews (s : State) (units : List Nat) : State :=
  let t := s.markSkew units
  t.setTable { t.table.mapViews (holdView t.table.driveSet units) with
               freeSet := t.table.freed units }

/-! ### The bid (R46 to R51) -/

/-- The notice pending at the Notice Unit (R48). -/
def State.pendingNotice (s : State) : Option NoticeSource :=
  if s.notice.presence then some .presence
  else if s.notice.slot.isSome then some .yieldSlot
  else if s.notice.tx.isEmpty then none
  else some .txHead

/-- A notice's own priority (R48). -/
def State.noticePriority (s : State) : NoticeSource → Nat
  | .presence => 0
  | .yieldSlot => (s.notice.slot.map YieldReq.priority).getD 0
  | .txHead => (s.notice.tx.head?.map UserNotice.priority).getD 0

/-- The age class of a loss run (R51). -/
def ageClass (lossRun : Nat) : Nat :=
  if lossRun = 0 then 0 else if lossRun ≤ 3 then 1 else if lossRun ≤ 15 then 2 else 3

/-- The claim word: inverted priority, inverted age class, station ID, most significant first (R50). -/
def claimWord (priority lossRun : Nat) (id : BitVec 6) : BitVec 10 :=
  BitVec.ofNat 2 (3 - priority) ++ BitVec.ofNat 2 (3 - ageClass lossRun) ++ id

/-- The ID field of a claim word: its six low bits (R50, R174). -/
def idField (word : BitVec 10) : BitVec 6 := word.setWidth 6

/-- The header byte: kind, priority, payload length (R120, R174). -/
def headerByte (kind priority length : Nat) : Byte :=
  BitVec.ofNat 3 kind ++ BitVec.ofNat 2 priority ++ BitVec.ofNat 3 length

/-- The eight-bit sum of some bytes (R120). -/
def byteSum (bytes : List Byte) : Byte := bytes.foldl (· + ·) 0

/-- The check byte: header, payload and check sum to FFh (R120). -/
def checkByte (header : Byte) (payload : List Byte) : Byte := 0xFF - byteSum (header :: payload)

/-- The YIELD payload byte: units wanted minus 1 in bits 6 to 4, the mask in bits 3 to 0 (R121, R174). -/
def yieldByte (q : YieldReq) : Byte := BitVec.ofNat 4 (q.wanted - 1) ++ q.mask

/-- A send record with its check (R125). -/
def mkSend (source : NoticeSource) (kind priority : Nat) (payload : List Byte)
    (request : Option YieldReq) : SendRecord :=
  { source := source
    header := headerByte kind priority payload.length
    payload := payload
    check := checkByte (headerByte kind priority payload.length) payload
    driven := 0
    request := request }

/-- The characters of the named notice, fixed at HOLD complete (R125). -/
def State.fixNotice (s : State) : NoticeSource → Option SendRecord
  | .presence => some (mkSend .presence 0 0 s.port.image.presencePayload none)
  | .yieldSlot => s.notice.slot.map fun q => mkSend .yieldSlot 1 q.priority [yieldByte q] (some q)
  | .txHead => s.notice.tx.head?.map fun n => mkSend .txHead 2 n.priority n.payload none

/-- The first-fit walk over the demand queue (R47). -/
def State.bidChannel (s : State) : Option Chan :=
  s.chans.queue.find? fun c =>
    !s.fenced c && decide (s.port.image.weight c ≤ (s.freeUsable c).length)

/-- The bid that the station forms (R46 to R50); the units chosen are the lowest usable ones of the free
set, as many as the weight (R49). -/
def State.nextBid (s : State) : Bid :=
  match s.bidChannel with
  | some c =>
    .channel c ((s.freeUsable c).take (s.port.image.weight c)) s.pendingNotice
      (s.port.image.priority c) (claimWord (s.port.image.priority c) s.cont.lossRun s.ownId)
  | none =>
    match s.pendingNotice with
    | some n =>
      .notice n (s.noticePriority n) (claimWord (s.noticePriority n) s.cont.lossRun s.ownId)
    | none => .nothing

/-- A bid may be formed (R46). -/
def State.mayBid (s : State) : Bool := s.isActive && s.stn.request.isNone && !s.stn.killnLow

/-- The Contention Unit takes HOLD complete: bid, outcome and the Notice Unit's send record (R46, R125). -/
def State.formBid (s : State) : State :=
  let b := if s.mayBid then s.nextBid else .nothing
  (s.setCont { s.cont with
      bid := b
      outcome :=
        if s.cont.outcome = .abandoned then .abandoned
        else if b = .nothing then .noBid else .bidding }).setNotice
    { s.notice with
      send := if b = .nothing then none else s.pendingNotice.bind s.fixNotice }

/-- HOLD complete (R28, R30, R46). -/
def State.takeHoldComplete (s : State) (units : List Nat) : State :=
  if s.phaseDue s.numUnits then
    let t := s.toPosition s.numUnits
    (if t.listens then t.holdViews units else t).formBid
  else s

/-- HOLD_COMPLETE. -/
def execHoldComplete (units : List Nat) (s : State) : Out := .next (s.takeHoldComplete units).settle

/-! ### The claim (R51 to R54) -/

/-- A still-bidding station reads dominant where it drove recessive (R18, R52). -/
def State.takeArbitrationLost (s : State) (bit : Nat) : State :=
  if s.phaseDue (s.numUnits + 10) ∧ s.cont.outcome = .bidding then
    (s.setCont { s.cont with outcome := .lost bit }).setLine { s.line with drive := none }
  else s

/-- ARBITRATION_LOST. -/
def execArbitrationLost (bit : Nat) (s : State) : Out := .next (s.takeArbitrationLost bit)

/-- The bid's claim word. -/
def Bid.word : Bid → Option (BitVec 10)
  | .nothing => none
  | .channel _ _ _ _ w => some w
  | .notice _ _ w => some w

/-- The first claim bit in which two words differ (log 11). -/
def firstDifference (a b : BitVec 10) : Nat :=
  ((List.range 10).find? fun j => a.getMsbD j != b.getMsbD j).getD 9

/-- The outcome at claim resolved (R53; log 11 for a bidding station that reads another word). -/
def resolveOutcome (bid : Bid) (outcome : ClaimOutcome) (word : BitVec 10) : ClaimOutcome :=
  match outcome with
  | .bidding =>
    match bid.word with
    | some w => if word = w then .won else .lost (firstDifference w word)
    | none => .noBid
  | .lost j => .lost j
  | .abandoned => .abandoned
  | .noBid | .won | .noWinner => if idField word = 63 then .noWinner else .noBid

/-- The loss run after claim resolved in ACTIVE (R51). -/
def lossRunAfter (outcome : ClaimOutcome) (lossRun : Nat) : Nat :=
  match outcome with
  | .lost _ => min Config.lossRunMax (lossRun + 1)
  | .abandoned => lossRun
  | .won | .noBid | .noWinner | .bidding => 0

/-- The Contention Unit and the Notice Unit take the winning word (R45, R51, R53, R125, R130). -/
def State.settleClaim (s : State) (word : BitVec 10) : State :=
  let o := resolveOutcome s.cont.bid s.cont.outcome word
  (s.setCont { s.cont with
      outcome := o
      last := { outcome := o, word := word }
      lossRun := if s.isActive then lossRunAfter o s.cont.lossRun else s.cont.lossRun }).setNotice
    { s.notice with
      send := if o = .won then s.notice.send else none
      recv := s.notice.recv.map fun r => { r with sender := some (idField word) } }

/-- The word read carries this station's ID and this station did not win it, where the check is made (R54). -/
def State.seesTwin (s : State) (word : BitVec 10) : Bool :=
  s.listens && decide (idField word = s.ownId) && !decide (s.cont.outcome = .won)

/-- Claim resolved (R53, R54). -/
def State.takeClaimResolved (s : State) (word : BitVec 10) : State :=
  if s.phaseDue (s.numUnits + 10) then
    let t := (s.toPosition (s.numUnits + 10)).settleClaim word
    if t.seesTwin word then t.faultClash else t
  else s

/-- CLAIM_RESOLVED. -/
def execClaimResolved (word : BitVec 10) (s : State) : Out := .next (s.takeClaimResolved word).settle

/-! ### TAKE complete (R32 to R37, R58) -/

/-- The view of unit k after a TAKE that another station drove (R32, R33, R34). -/
def takeView (units : List Nat) (k : Nat) (v : View) : View :=
  if v = .dead then .dead else if k ∈ units then .peer else v

/-- The channels with an OWN unit read dominant, in channel order (R34). -/
def State.overlapped (s : State) (units : List Nat) : List Chan :=
  allChans.filter fun c => (s.table.boundUnits c).any fun k => decide (k ∈ units)

/-- Some SPARE or OWN unit was read dominant (R33, R34). -/
def State.overlaps (s : State) (units : List Nat) : Bool :=
  (s.table.unitsWhere fun r => r.view.held).any fun k => decide (k ∈ units)

/-- A TAKE reading that is not this station's own take (R32, R33, R34): each channel with a unit read
dominant is shed once with cause OVERLAP. DESIGN CHOICE (log 31): several channels are shed one after the other in
channel order, each shed whole by R82 with its head check (R95) and its spare-binding check (R72) before the next. -/
def State.takeByPeer (s : State) (units : List Nat) : State :=
  let cs := s.overlapped units
  let t := if s.overlaps units then s.setEvent .overlap else s
  let t := t.setTable (t.table.mapViews (takeView units))
  let u := cs.foldl (fun u c => u.shedChan .overlap false c) t
  if cs.any (fun c => (s.chan c).state.holdsUnits) then u.setEvent .shed else u

/-- The chosen units go to a view: FREE for a discarded take (R36), RELEASING for a returned one (R37). -/
def State.chosenTo (s : State) (chosen : List Nat) (v : View) : State :=
  s.setTable (s.table.mapViews fun k w => if k ∈ chosen then v else w)

/-- The winner's TAKE complete (R35, R36, R37, R58, R59). DESIGN CHOICE (log 32): a bid channel counts as still
WAITING by its state at TAKE complete, also where it left WAITING after HOLD complete and entered it again. -/
def State.takeByWinner (s : State) (units : List Nat) : State :=
  match s.cont.bid with
  | .channel c chosen _ _ _ =>
    if s.cont.conflictMark then
      (s.chosenTo chosen .free).takeByPeer (units.filter fun k => !decide (k ∈ chosen))
    else if (s.chan c).state.isWaiting then (s.bindUnits c chosen).toStarting c
    else s.chosenTo chosen .releasing
  | .notice _ _ _ => if s.cont.conflictMark then s.takeByPeer units else s
  | .nothing => s.takeByPeer units

/-- TAKE complete (R26, R28, R32 to R37, R58). -/
def State.takeTakeComplete (s : State) (units : List Nat) : State :=
  if s.phaseDue (2 * s.numUnits + 10) then
    let t := s.toPosition (2 * s.numUnits + 10)
    if t.listens then
      let u := t.markSkew units
      if u.isActive && decide (u.cont.outcome = .won) then u.takeByWinner units
      else u.takeByPeer units
    else t
  else s

/-- TAKE_COMPLETE. -/
def execTakeComplete (units : List Nat) (s : State) : Out := .next (s.takeTakeComplete units).settle

/-! ### FLAG and the readback reports -/

/-- The FLAG reading (R9, R14, R21): from here on the roll-valid flag is settled. -/
def State.takeFlagReading (s : State) (level : Level) : State :=
  if s.phaseDue (2 * s.numUnits + 11) then
    s.setRoll { s.roll with position := 2 * s.numUnits + 11, flag := some level }
  else s

/-- FLAG_READING. -/
def execFlagReading (level : Level) (s : State) : Out := .next (s.takeFlagReading level)

/-- A conflict's effects short of CLASH (R20, R59, R60, R61): mark, event, run, SHD released, the roll invalid
for TAKE and FLAG, the notice aborted for NOTICE (R128). -/
def State.conflictEffects (s : State) (phase : OwnPhase) : State :=
  (((((s.setCont { s.cont with
      conflictMark := true
      conflictRun := min Config.clashRun (s.cont.conflictRun + 1) }).setEvent .conflict).setLine
    { s.line with drive := none }).setRoll
    { s.roll with valid := if phase = .notice then s.roll.valid else false }).setNotice
    { s.notice with send := if phase = .notice then none else s.notice.send })

/-- A conflict: only a winner that takes part meets one, the first of its roll (R18, R20, R62). Reaching 3
reports CLASH at once (R62, R152). -/
def State.takeConflict (s : State) (phase : OwnPhase) : State :=
  if s.roll.state = .inRoll ∧ s.takesPart = true ∧ s.cont.outcome = .won then
    let t := s.conflictEffects phase
    if t.cont.conflictRun = Config.clashRun then t.faultClash else t
  else s

/-- CONFLICT. -/
def execConflict (phase : OwnPhase) (s : State) : Out := .next (s.takeConflict phase).settle

/-- The channel bound to the unit of a failed HOLD slot, if that unit is OWN (R19, R151). Slot k stands at
position 1 + k (R9). -/
def State.driveChannel (s : State) (phase : Phase) (position : Nat) : Option Chan :=
  match phase with
  | .hold =>
    match s.table.recs[position - 1]? with
    | some r =>
      match r.view with
      | .own c => some c
      | _ => none
    | none => none
  | _ => none

/-- A DRIVE report can arise: in ACTIVE in any phase of a roll in flight and in the OPEN pulse, in JOINING
in the OPEN pulse alone (R18, R151). -/
def State.mayReportDrive (s : State) (phase : Phase) : Bool :=
  match s.stn.state with
  | .active => decide (phase = .openPulse) || decide (s.roll.state = .inRoll)
  | .joining => decide (phase = .openPulse)
  | _ => false

/-- The Roll Tracker at a DRIVE report (R19, R21): the roll is invalid and its parsing ends; a report in OPEN
leaves its mark for the roll start. -/
def RollTracker.driveReport (r : RollTracker) (phase : Phase) : RollTracker :=
  if phase = .openPulse then { r with valid := false, openFault := true }
  else { r with valid := false, parsing := false }

/-- A roll whose parsing ends at a DRIVE report stores nothing: its receive record is given up (R130). -/
def State.dropRecv (s : State) (phase : Phase) : State :=
  if phase = .openPulse then s else s.setNotice { s.notice with recv := none }

/-- A DRIVE report (R19, R151). -/
def State.takeDriveReport (s : State) (phase : Phase) (position : Nat) : State :=
  if s.mayReportDrive phase then
    ((s.setRoll (s.roll.driveReport phase)).dropRecv phase).faultDrive (s.driveChannel phase position)
  else s

/-- DRIVE_REPORT. -/
def execDriveReport (phase : Phase) (position : Nat) (s : State) : Out :=
  .next (s.takeDriveReport phase position).settle

end Sys2Proof.Machine
end

