-- ==== Sys2Proof/Machine/NoticeRx.lean ====
section
/-! DEFINITION. The receive side of the Notice Unit: characters, the stored notice and its error set, its
disposal, and the handling of a received yield (R11 to R13, R113 to R117, R130 to R136). -/

namespace Sys2Proof.Machine

/-! ### The parts of a received notice (R120, R174) -/

def headerKind (h : Byte) : Nat := (h >>> 5).toNat
def headerPriority (h : Byte) : Nat := ((h >>> 3) &&& 3).toNat
def headerLength (h : Byte) : Nat := (h &&& 7).toNat

/-- A header is good when its framing and marker flags are clear and its length is 0 to 6 (R12). -/
def readHeader (h : Byte) (framing marker : Bool) : Header :=
  if framing = false ∧ marker = false ∧ headerLength h ≤ 6 then .good (headerLength h) else .damaged

/-- A length that fits its kind; kinds 3 to 7 fit none (R121, R131). -/
def lengthFits (kind length : Nat) : Bool :=
  match kind with
  | 0 => decide (length = 3)
  | 1 => decide (length = 1)
  | 2 => decide (length ≤ 6)
  | _ => false

/-! ### Characters (R11, R12, R126, R130) -/

/-- The position of character i's stop bit (R11). -/
def State.charEnd (s : State) (index : Nat) : Nat := 2 * s.numUnits + 22 + 11 * index

/-- The Roll Tracker expects character i: the header first, then by a good header's count, or on and on after a
damaged header (R12, R13). -/
def RollTracker.expects (r : RollTracker) (index : Nat) : Bool :=
  match r.header with
  | none => decide (index = 0)
  | some (.good l) => decide (1 ≤ index) && decide (index < l + 2)
  | some .damaged => decide (1 ≤ index)

/-- The Roll Tracker at the end of a character's stop bit; it follows the characters whether or not it still
hands them on (R12, R19). -/
def State.trackCharacter (s : State) (index : Nat) (data : Byte) (framing marker : Bool) : State :=
  s.setRoll { s.roll with
    position := s.charEnd index
    header := if index = 0 then some (readHeader data framing marker) else s.roll.header
    charBits := [] }

/-- This station is the one that sends the notice of this roll (R126). -/
def State.sending (s : State) : Bool := s.takesPart && decide (s.cont.outcome = .won)

/-- One more character of its own notice has been driven (R125). -/
def SendRecord.advance (r : SendRecord) : SendRecord :=
  { r with driven := min (r.payload.length + 2) (r.driven + 1) }

/-- The Notice Unit at a character: the receive record grows (R130), and the send record where this station
drives the notice (R125). -/
def State.storeCharacter (s : State) (data : Byte) (framing marker : Bool) : State :=
  s.setNotice { s.notice with
    recv := s.notice.recv.map fun r =>
      { r with chars := r.chars ++ [{ data := data, framing := framing, marker := marker }] }
    send := if s.sending then s.notice.send.map SendRecord.advance else s.notice.send }

/-- A notice character (R11). -/
def State.takeNoticeCharacter (s : State) (index : Nat) (data : Byte) (framing marker : Bool) : State :=
  if s.phaseDue (s.charEnd index) ∧ s.roll.flag = some .dominant ∧ s.roll.expects index = true then
    (s.trackCharacter index data framing marker).storeCharacter data framing marker
  else s

/-- NOTICE_CHARACTER. -/
def execNoticeCharacter (index : Nat) (data : Byte) (framing marker : Bool) (s : State) : Out :=
  .next (s.takeNoticeCharacter index data framing marker)

/-! ### The stored notice (R131) -/

/-- The header's length field of the characters received, 0 where none was. -/
def charsLength (chars : List RxChar) : Nat := (chars.head?.map fun c => headerLength c.data).getD 0

/-- CUT (R131). -/
def cutError (form : NoticeForm) (chars : List RxChar) : Bool :=
  match form with
  | .cut | .stuck => true
  | .damaged => decide (chars.length < charsLength chars + 2)
  | .complete => false

/-- LENGTH (R131). -/
def lengthError (form : NoticeForm) (chars : List RxChar) : Bool :=
  match chars with
  | [] => false
  | h :: _ =>
    !lengthFits (headerKind h.data) (headerLength h.data)
      || decide (form = .damaged ∧ headerLength h.data + 2 < chars.length)

/-- CHECK (R131): judged when the whole count was received, over characters 0 to L + 1. -/
def checkError (chars : List RxChar) : Bool :=
  match chars with
  | [] => false
  | _ :: _ =>
    decide (charsLength chars ≤ 6) && decide (charsLength chars + 2 ≤ chars.length)
      && byteSum ((chars.take (charsLength chars + 2)).map RxChar.data) != 0xFF

/-- The error set (R131). -/
def errorSet (form : NoticeForm) (chars : List RxChar) : ErrorSet :=
  { framing := chars.any RxChar.framing
    marker := chars.any RxChar.marker
    check := checkError chars
    length := lengthError form chars
    cut := cutError form chars }

/-- The stored notice of a receive record (R131). -/
def storedNotice (form : NoticeForm) (sender : BitVec 6) (chars : List RxChar) : StoredNotice :=
  { sender := sender
    header := chars.head?.map RxChar.data
    payload := ((chars.drop 1).take (min (charsLength chars) 6)).map RxChar.data
    errors := errorSet form chars }

/-- A notice is valid when its error set is empty (R131). -/
def StoredNotice.valid (n : StoredNotice) : Bool :=
  !n.errors.framing && !n.errors.marker && !n.errors.check && !n.errors.length && !n.errors.cut

/-! ### A received yield (R87, R113 to R117) -/

/-- What a valid YIELD notice asks for (R113). -/
structure YieldIn where
  sender   : BitVec 6
  priority : Nat
  mask     : BitVec 4
  wanted   : Nat
  deriving DecidableEq, Repr

/-- The yield of a header and a payload byte; the payload's top bit plays no part (R113, R174). -/
def readYield (sender : BitVec 6) (header payload : Byte) : YieldIn :=
  { sender := sender
    priority := headerPriority header
    mask := payload.setWidth 4
    wanted := ((payload >>> 4) &&& 7).toNat + 1 }

/-- The fence list with an entry written or refreshed at the newest end; the oldest leaves a full list that
holds none of the sender's (R87). -/
def writeFence (fences : List Fence) (f : Fence) : List Fence :=
  let rest := fences.filter fun g => g.sender ≠ f.sender
  rest.drop (rest.length + 1 - Config.fencePlaces) ++ [f]

/-- A channel the yield may shed, by priority and mask (R114). -/
def State.yieldReaches (s : State) (y : YieldIn) (c : Chan) : Bool :=
  decide (s.port.image.priority c < y.priority) && (s.port.image.mask c &&& y.mask != 0)

/-- The first of the list with no later one better. -/
def bestBy (better : Chan → Chan → Bool) : List Chan → Option Chan
  | [] => none
  | c :: rest =>
    match bestBy better rest with
    | none => some c
    | some d => if better d c then some d else some c

/-- An ON channel's on-since timer. -/
def ChState.onSince : ChState → Nat
  | .on _ t => t
  | _ => 0

/-- The next STARTING candidate: lowest priority, then nearest the back of the start list (R115). -/
def State.startingCandidate (s : State) (y : YieldIn) : Option Chan :=
  bestBy (fun d c => decide (s.port.image.priority d < s.port.image.priority c))
    (s.seq.startList.reverse.filter fun c => s.yieldReaches y c)

/-- An ON channel whose min on has elapsed and that has no stop pending (R114). -/
def State.onCandidate (s : State) (y : YieldIn) (c : Chan) : Bool :=
  match (s.chan c).state with
  | .on false t => decide (s.port.image.minOnUs c ≤ t) && s.yieldReaches y c
  | _ => false

/-- The next ON candidate: lowest priority, then the smallest on-since timer, then the higher number (R115). -/
def State.nextOnCandidate (s : State) (y : YieldIn) : Option Chan :=
  bestBy
    (fun d c =>
      decide (s.port.image.priority d < s.port.image.priority c)
        || (decide (s.port.image.priority d = s.port.image.priority c)
            && decide ((s.chan d).state.onSince < (s.chan c).state.onSince)))
    (allChans.reverse.filter (s.onCandidate y))

/-- The next candidate: STARTING ones first (R115). -/
def State.yieldCandidate (s : State) (y : YieldIn) : Option Chan :=
  match s.startingCandidate y with
  | some c => some c
  | none => s.nextOnCandidate y

/-- Candidates are shed one at a time, the count checked after each, SHED with the first (R115, R116). A shed
channel is fenced and off, so no channel is shed twice and eight turns suffice (log 14). -/
def yieldSheds (y : YieldIn) : Nat → Nat → State → State
  | 0, _, s => s
  | n + 1, count, s =>
    if y.wanted ≤ count then s
    else
      match s.yieldCandidate y with
      | none => s
      | some c =>
        yieldSheds y n (count + s.port.image.weight c) ((s.shedChan .yield false c).setEvent .shed)

/-- The fence a yield writes (R87, R114). -/
def State.fenceFor (s : State) (y : YieldIn) : State :=
  s.setChans { s.chans with
    fences := writeFence s.chans.fences
      { sender := y.sender, priority := y.priority, mask := y.mask, left := s.port.image.holdoffUs } }

/-- The handling of a received yield, one event (R113, R114). A mask of 0 names no window: YIELD_IN alone. -/
def State.handleYield (s : State) (y : YieldIn) : State :=
  if y.mask = 0 then s.setEvent .yieldIn
  else
    let t := (s.fenceFor y).setEvent .yieldIn
    yieldSheds y 8 (t.table.sparesIn y.mask).length (t.releaseSpares y.mask)

/-! ### Disposal (R132 to R136) -/

/-- An arrival at the ring (R134, R136). -/
def State.ringAppend (s : State) (n : StoredNotice) : State :=
  if s.notice.ring.length < Config.ringPlaces then
    let t := s.setNotice { s.notice with ring := s.notice.ring ++ [n] }
    if s.port.image.noticeLevel ≤ s.notice.ring.length + 1 then t.setEvent .noticeLevel else t
  else s.setEvent .overrun

/-- A peer's PRESENCE is compared with this station's own values (R133). -/
def State.comparePresence (s : State) (payload : List Byte) : State :=
  if payload = s.port.image.presencePayload then s else s.setEvent .skew

/-- The hand-off of a valid notice by its kind (R113, R132). -/
def State.handOff (s : State) (n : StoredNotice) : State :=
  if n.valid = true ∧ n.sender ≠ 63 then
    match n.header with
    | none => s
    | some h =>
      match headerKind h with
      | 0 => s.comparePresence n.payload
      | 1 =>
        match s.isActive, n.payload with
        | true, [b] => s.handleYield (readYield n.sender h b)
        | _, _ => s
      | _ => s
  else s

/-- The disposal of a stored notice (R132): the station's own is discarded, and every other outside JOINING,
ACTIVE and QUIET. -/
def State.dispose (s : State) (n : StoredNotice) : State :=
  if n.sender = s.ownId ∨ s.listens = false then s else (s.ringAppend n).handOff n

/-- The notice end of this form can be taken now (R12, R13, R17, R130). A complete one comes with its roll's
end, a stuck one with the stuck line and the roll end it makes, each before or after them (R145; log 6); a cut or
damaged one while its characters are read. -/
def State.endFits (s : State) (form : NoticeForm) (chars : List RxChar) : Bool :=
  match form with
  | .complete =>
    match s.roll.header with
    | some (.good l) => decide (chars.length = l + 2)
    | _ => false
  | .cut =>
    decide (s.roll.state = .inRoll) && s.roll.parsing &&
      match s.roll.header with
      | none => true
      | some (.good l) => decide (chars.length < l + 2)
      | some .damaged => false
  | .damaged =>
    decide (s.roll.state = .inRoll) && s.roll.parsing && decide (s.roll.header = some .damaged)
  | .stuck => decide (s.roll.state = .settling) || (decide (s.roll.state = .inRoll) && s.roll.parsing)

/-- The Roll Tracker at a notice end: a cut or damaged one begins TRAILING, its start-bit time the first
recessive one (R13). -/
def RollTracker.noticeEnd (r : RollTracker) (form : NoticeForm) : RollTracker :=
  match form with
  | .cut | .damaged => { r with state := .trailing, recessive := 1 }
  | .complete | .stuck => r

/-- A notice end (R130 to R132). The receive record is used up by it. -/
def State.takeNoticeEnd (s : State) (form : NoticeForm) : State :=
  match s.notice.recv with
  | some { sender := some id, chars := chars } =>
    if s.roll.flag = some .dominant ∧ s.endFits form chars = true then
      ((s.setRoll (s.roll.noticeEnd form)).setNotice { s.notice with recv := none }).dispose
        (storedNotice form id chars)
    else s
  | _ => s

/-- NOTICE_END. -/
def execNoticeEnd (form : NoticeForm) (s : State) : Out := .next (s.takeNoticeEnd form).settle

end Sys2Proof.Machine
end

