-- ==== Sys2Proof/Machine/PortBase.lean ====
section
/-! DEFINITION. What every local-port command shares: when it acts or is discarded, its reply, PORT_ERROR and the
receive state (R164 to R166). -/

namespace Sys2Proof

/-- Operand byte i of a transaction. -/
def Operands.byte (t : Operands) (i : Nat) : Byte := t.bytes.getD i 0

/-- The transaction holds exactly the command's operand count of complete bytes (R165). -/
def Operands.exactly (t : Operands) (n : Nat) : Bool := decide (t.bytes.length = n) && decide (t.tail = 0)

/-- A two-byte operand, most significant byte first (R174). -/
def Operands.word (t : Operands) : Word := t.byte 0 ++ t.byte 1

end Sys2Proof

namespace Sys2Proof.Machine

/-- A number as a byte. -/
def toByte (n : Nat) : Byte := BitVec.ofNat 8 n

/-- A list filled up with 00h to n bytes (R174: an absent field reads 00h). -/
def padBytes (n : Nat) (l : List Byte) : List Byte := (l ++ List.replicate n 0).take n

/-- Time left, in steps rounded up (R174). -/
def stepsUp (step t : Nat) : Byte := toByte ((t + step - 1) / step)

/-- Time elapsed, in steps rounded down (R174). -/
def stepsDown (step t : Nat) : Byte := toByte (t / step)

/-- The receive state back in IDLE, SDO high impedance (R164). -/
def State.rxIdle (s : State) : State := s.setPort { s.port with rx := SpiRx.reset }

/-- PORT_ERROR where the reply sets it (R166). -/
def State.errorFor (s : State) (r : Reply) : State :=
  if r.setsPortError then s.setEvent .portError else s

/-- The end of a write command: its reply stored, PORT_ERROR where the reply sets it, the receive state in IDLE
(R164, R165, R166). -/
def State.finishWrite (s : State) (r : Reply) : State :=
  ((s.setPort { s.port with reply := r }).errorFor r).rxIdle

/-- A write command (R165, R166): COUNT where the count is wrong, else the verdict, and the effect where it is
ACCEPTED. -/
def State.writeCommand (s : State) (t : Operands) (n : Nat) (verdict : Reply) (effect : State → State) :
    State :=
  if t.exactly n then
    if verdict = .accepted then (effect s).finishWrite .accepted else s.finishWrite verdict
  else s.finishWrite .count

/-- The reply and data of a read stand ready to be shifted out; data follows ACCEPTED alone (R164, R166). -/
def State.stageData (s : State) (r : Reply) (data : List Byte) : State :=
  s.setPort { s.port with
    rx := { s.port.rx with
      stage := .data
      got := []
      bits := 0
      out := r.code :: if r = .accepted then data else [] } }

/-- A read command (R165, R166): it acts once its operand bytes are complete; ended before that it is discarded
with COUNT. The reply register is left as it was. -/
def State.readCommand (s : State) (t : Operands) (n : Nat) (verdict : Reply) (data : List Byte)
    (effect : State → State) : State :=
  if n ≤ t.bytes.length then
    if verdict = .accepted then (effect s).stageData .accepted data
    else (s.errorFor verdict).stageData verdict []
  else s.finishWrite .count

/-- The station is in CONFIG (R139). -/
def State.inConfig (s : State) : Bool := s.stn.state == .config

/-- The verdict of a command taken in every state after LOCK (R167). -/
def State.afterLock (s : State) : Reply := if s.inConfig then .state else .accepted

end Sys2Proof.Machine
end

