-- ==== Sys2Proof/Machine/PortConfig.lean ====
section
/-! DEFINITION. CFG_WRITE, CFG_READ and LOCK (R160 to R163), with what LOCK sets in every block (R43, R45, R90,
R104, R137, R138, R139, R173). -/

namespace Sys2Proof.Machine

/-! ### CFG_WRITE and CFG_READ -/

/-- STATE outside CONFIG; RANGE for an index that names no item or a value outside the write range (R161). -/
def State.cfgWriteVerdict (s : State) (index value : Byte) : Reply :=
  if s.inConfig then
    match placeOf index.toNat with
    | some p => if inWriteRange p value then .accepted else .range
    | none => .range
  else .state

/-- The value is stored (R161). -/
def State.storeItem (s : State) (index value : Byte) : State :=
  match placeOf index.toNat with
  | some p => s.setPort { s.port with image := s.port.image.write p value }
  | none => s

/-- CFG_WRITE (R161). -/
def State.takeCfgWrite (s : State) (t : Operands) : State :=
  s.writeCommand t 2 (s.cfgWriteVerdict (t.byte 0) (t.byte 1)) fun u => u.storeItem (t.byte 0) (t.byte 1)

/-- CFG_WRITE. -/
def execCfgWrite (t : Operands) (s : State) : Out := .next (s.takeCfgWrite t)

/-- CFG_READ (R160). -/
def State.takeCfgRead (s : State) (t : Operands) : State :=
  match placeOf (t.byte 0).toNat with
  | some p => s.readCommand t 1 .accepted [s.port.image.read p] id
  | none => s.readCommand t 1 .range [] id

/-- CFG_READ. -/
def execCfgRead (t : Operands) (s : State) : Out := .next (s.takeCfgRead t)

/-! ### LOCK -/

/-- STATE outside CONFIG; the lowest index whose check fails; ACCEPTED (R162). -/
def State.lockVerdict (s : State) : Reply :=
  if s.inConfig then
    match s.port.image.lockFailure with
    | some i => .lockFailed i
    | none => .accepted
  else .state

/-- The record of unit k after LOCK: DEAD where no on window contains it, else UNKNOWN with its window
(R24, R43). -/
def Image.unitRec (m : Image) (k : Nat) : UnitRec :=
  match m.windowOf k with
  | some w => { view := .unknown, window := some w }
  | none => { view := .dead, window := none }

/-- The Unit Table after LOCK (R23, R43). -/
def Image.unitTable (m : Image) : UnitTable :=
  { recs := (List.range m.units).map m.unitRec, driveSet := [], freeSet := [], skewMark := false }

/-- The channel records after LOCK: OFF where enabled (R70, R90). -/
def Image.channelRecs (m : Image) : Vector ChannelRec 8 :=
  Vector.ofFn fun c => { ChannelRec.reset with state := if m.enabled c then .off else .disabled }

/-- The Station Controller after LOCK (R138, R139). -/
def State.lockStation (s : State) : StationCtl :=
  { s.stn with
    state := s.joinOrHalt
    request := none
    joinCount := 0
    countable := false
    silence := 0
    busLoss := none }

/-- An accepted LOCK, one event: each block takes its configuration and starts as its LOCK column says (R163).
DESIGN CHOICE (log 33): the filters' millisecond starts at LOCK, so their first sample falls 1 ms after it (R67). -/
def State.lockBlocks (s : State) : State :=
  { s with
    line := LineIf.reset
    roll := { RollTracker.reset with state := .settling }
    table := s.port.image.unitTable
    cont := Contention.reset
    chans := { Channels.reset with recs := s.port.image.channelRecs }
    seq := Sequencer.reset
    notice := NoticeUnit.reset
    stn := s.lockStation
    port := { s.port with locked := true }
    clock := { s.clock with ms := 0 } }

/-- LOCK (R162, R163). -/
def State.takeLock (s : State) (t : Operands) : State :=
  s.writeCommand t 0 s.lockVerdict State.lockBlocks

/-- LOCK. -/
def execLock (t : Operands) (s : State) : Out := .next (s.takeLock t)

end Sys2Proof.Machine
end

