-- ==== Sys2Proof/Machine/PortDemand.lean ====
section
/-! DEFINITION. DEMAND_SET, DEMAND_CLEAR, PARK and UNPARK (R68, R85, R86). Each takes the channels of its mask one
at a time in channel-number order. -/

namespace Sys2Proof.Machine

/-- One channel's soft demand bit is written (R68). -/
def State.writeSoft (b : Bool) (s : State) (c : Chan) : State :=
  s.writeInputs c { s.chan c with soft := b }

/-- DEMAND_SET (R68). -/
def State.takeDemandSet (s : State) (t : Operands) : State :=
  s.writeCommand t 1 s.afterLock fun u => ((chansIn (t.byte 0)).foldl (State.writeSoft true) u).settle

/-- DEMAND_SET. -/
def execDemandSet (t : Operands) (s : State) : Out := .next (s.takeDemandSet t)

/-- DEMAND_CLEAR (R68). -/
def State.takeDemandClear (s : State) (t : Operands) : State :=
  s.writeCommand t 1 s.afterLock fun u => ((chansIn (t.byte 0)).foldl (State.writeSoft false) u).settle

/-- DEMAND_CLEAR. -/
def execDemandClear (t : Operands) (s : State) : Out := .next (s.takeDemandClear t)

/-- PARK of one channel: its bit, then by state (R85). -/
def State.parkChan (s : State) (c : Chan) : State :=
  let t := s.setChan c { s.chan c with park := true }
  match (s.chan c).state with
  | .off | .cooldown => t.setChState c .parked
  | .waiting _ _ | .starting | .on _ _ => t.shedChan .park false c
  | .parked | .disabled => t

/-- PARK (R85). -/
def State.takePark (s : State) (t : Operands) : State :=
  s.writeCommand t 1 s.afterLock fun u => ((chansIn (t.byte 0)).foldl State.parkChan u).settle

/-- PARK. -/
def execPark (t : Operands) (s : State) : Out := .next (s.takePark t)

/-- Min off has run out: the off-since timer has reached it, or is "none", which counts as longer than any min
off (R79). -/
def State.minOffOver (s : State) (c : Chan) : Bool :=
  match (s.chan c).offSince with
  | none => true
  | some t => decide (s.port.image.minOffUs c ≤ t)

/-- UNPARK of one channel: its bit, then for a PARKED one COOLDOWN, OFF, or on to WAITING (R86). -/
def State.unparkChan (s : State) (c : Chan) : State :=
  let t := s.setChan c { s.chan c with park := false }
  match (s.chan c).state with
  | .parked =>
    if t.minOffOver c then
      let u := t.setChState c .off
      if u.demand c then u.enterWaiting c false else u
    else t.setChState c .cooldown
  | _ => t

/-- UNPARK (R86). -/
def State.takeUnpark (s : State) (t : Operands) : State :=
  s.writeCommand t 1 s.afterLock fun u => ((chansIn (t.byte 0)).foldl State.unparkChan u).settle

/-- UNPARK. -/
def execUnpark (t : Operands) (s : State) : Out := .next (s.takeUnpark t)

end Sys2Proof.Machine
end

