-- ==== Sys2Proof/Machine/PortNotice.lean ====
section
/-! DEFINITION. SEND, YIELD and POP (R110, R123, R135). -/

namespace Sys2Proof.Machine

/-! ### SEND -/

/-- SEND is accepted in JOINING, ACTIVE and QUIET (R123), which are also the listening states. -/
def State.sendVerdict (s : State) (priority length : Byte) : Reply :=
  if s.listens = false then .state
  else if sendInRange priority length = false then .range
  else if Config.txPlaces ≤ s.notice.tx.length then .full
  else .accepted

/-- The notice is appended at the back of the transmit queue (R122, R123). -/
def State.appendTx (s : State) (priority : Byte) (payload : List Byte) : State :=
  s.setNotice { s.notice with
    tx := s.notice.tx ++ [{ priority := priority.toNat, payload := payload }] }

/-- SEND (R123); its count is 2 + L (R164). -/
def State.takeSend (s : State) (t : Operands) : State :=
  s.writeCommand t (2 + sendLength t.bytes) (s.sendVerdict (t.byte 0) (t.byte 1)) fun u =>
    (u.appendTx (t.byte 0) (t.bytes.drop 2)).settle

/-- SEND. -/
def execSend (t : Operands) (s : State) : Out := .next (s.takeSend t)

/-! ### YIELD -/

/-- STATE outside ACTIVE, RANGE, then BUSY with the slot filled (R110, R166). -/
def State.yieldVerdict (s : State) (priority mask wanted : Byte) : Reply :=
  if s.isActive = false then .state
  else if yieldInRange priority mask wanted = false then .range
  else if s.notice.slot.isSome then .busy
  else .accepted

/-- The request of the YIELD command: origin LOCAL, no requester (R110). -/
def portRequest (priority mask wanted : Byte) : YieldReq :=
  { priority := priority.toNat
    mask := mask.setWidth 4
    wanted := wanted.toNat
    origin := .fromPort
    requester := none }

/-- YIELD (R110). -/
def State.takeYield (s : State) (t : Operands) : State :=
  s.writeCommand t 3 (s.yieldVerdict (t.byte 0) (t.byte 1) (t.byte 2)) fun u =>
    (u.setSlot (some (portRequest (t.byte 0) (t.byte 1) (t.byte 2)))).settle

/-- YIELD. -/
def execYield (t : Operands) (s : State) : Out := .next (s.takeYield t)

/-! ### POP -/

/-- The error set as a byte (R174): FRAMING, MARKER, CHECK, LENGTH, CUT from bit 0. DESIGN CHOICE (log 34): bits 7 to
5, which no field names, read 0. -/
def ErrorSet.byte (e : ErrorSet) : Byte :=
  (0 : BitVec 3) ++ BitVec.ofBool e.cut ++ BitVec.ofBool e.length ++ BitVec.ofBool e.check
    ++ BitVec.ofBool e.marker ++ BitVec.ofBool e.framing

/-- The ten bytes of a ring entry (R174). DESIGN CHOICE (log 34): bit 6 of byte 0, which no field names, reads 0. -/
def StoredNotice.entry (n : StoredNotice) : List Byte :=
  [BitVec.ofBool n.header.isSome ++ (0 : BitVec 1) ++ n.sender, n.header.getD 0, n.errors.byte,
   toByte n.payload.length] ++ padBytes 6 n.payload

/-- STATE in CONFIG, EMPTY on an empty ring (R135). -/
def State.popVerdict (s : State) : Reply :=
  if s.inConfig then .state else if s.notice.ring.isEmpty then .empty else .accepted

/-- The oldest entry's bytes. -/
def State.popData (s : State) : List Byte := (s.notice.ring.head?.map StoredNotice.entry).getD []

/-- POP (R135). -/
def State.takePop (s : State) (t : Operands) : State :=
  s.readCommand t 0 s.popVerdict s.popData fun u =>
    u.setNotice { u.notice with ring := u.notice.ring.tail }

/-- POP. -/
def execPop (t : Operands) (s : State) : Out := .next (s.takePop t)

end Sys2Proof.Machine
end

