-- ==== Sys2Proof/Machine/PortRead.lean ====
section
/-! DEFINITION. The table reads with their record layouts (R44, R66, R80, R103, R159, R168, R174), READ_EVENTS,
CLEAR_EVENTS and SET_ENABLES (R168, R170). A field absent in the record reads 00h. -/

namespace Sys2Proof.Machine

/-! ### READ_UNIT (R44) -/

/-- The four bytes of a unit record. -/
def UnitRec.bytes (r : UnitRec) : List Byte :=
  [r.view.code, (r.window.map fun w => toByte w.val).getD 0,
   match r.view with
   | .own c => toByte c.val
   | _ => 0,
   match r.view with
   | .spare t => stepsUp Config.tenthSecond t
   | _ => 0]

/-- READ_UNIT: 0 to 63 before LOCK, 0 to U - 1 after it; another number is refused with RANGE (R167). -/
def State.takeReadUnit (s : State) (t : Operands) : State :=
  match s.table.recs[(t.byte 0).toNat]? with
  | some r => s.readCommand t 1 .accepted r.bytes id
  | none => s.readCommand t 1 .range [] id

/-- READ_UNIT. -/
def execReadUnit (t : Operands) (s : State) : Out := .next (s.takeReadUnit t)

/-! ### READ_CHANNEL (R66) -/

/-- The wait timer runs: present, the station ACTIVE, and not held at 0 (R72, R77; log 13). -/
def State.waitRunning (s : State) (c : Chan) : Bool :=
  match (s.chan c).state with
  | .waiting _ (some _) =>
    s.isActive &&
      match s.notice.slot with
      | some q => !decide (q.requester = some c)
      | none => true
  | _ => false

/-- Byte 10 of a channel record (R174). DESIGN CHOICE (log 34): bit 7, which no field names, reads 0. -/
def State.channelFlags (s : State) (c : Chan) : Byte :=
  let r := s.chan c
  (0 : BitVec 1) ++ BitVec.ofBool r.level ++ BitVec.ofBool (s.waitRunning c)
    ++ BitVec.ofBool (match r.state with | .waiting _ w => w.isSome | _ => false)
    ++ BitVec.ofBool r.offSince.isNone ++ BitVec.ofBool r.park ++ BitVec.ofBool r.soft
    ++ BitVec.ofBool (match r.state with | .on m _ => m | _ => false)

/-- The twenty-four bytes of a channel record. -/
def State.channelBytes (s : State) (c : Chan) : List Byte :=
  let r := s.chan c
  let bound := s.table.boundUnits c
  s.port.image.channels[c].toList
    ++ [r.state.code, s.channelFlags c, toByte bound.length]
    ++ padBytes 8 (bound.map toByte)
    ++ [match r.state with
        | .on _ t => stepsDown Config.second t
        | _ => 0,
        stepsDown Config.second (r.offSince.getD 0),
        match r.state with
        | .waiting _ (some w) => stepsUp Config.tenthSecond w
        | _ => 0,
        r.lastShed.code]

/-- READ_CHANNEL: 0 to 7; another number is refused with RANGE (R167). -/
def State.takeReadChannel (s : State) (t : Operands) : State :=
  if h : (t.byte 0).toNat < 8 then
    s.readCommand t 1 .accepted (s.channelBytes ⟨(t.byte 0).toNat, h⟩) id
  else s.readCommand t 1 .range [] id

/-- READ_CHANNEL. -/
def execReadChannel (t : Operands) (s : State) : Out := .next (s.takeReadChannel t)

/-! ### READ_QUEUE (R80, R87) -/

/-- The four bytes of a fence. -/
def Fence.bytes (f : Fence) : List Byte :=
  [f.sender.setWidth 8, toByte f.priority, f.mask.setWidth 8, stepsUp Config.tenthSecond f.left]

/-- The twenty-six bytes of the queue and the fences. -/
def State.queueBytes (s : State) : List Byte :=
  toByte s.chans.queue.length :: padBytes 8 (s.chans.queue.map fun c => toByte c.val)
    ++ toByte s.chans.fences.length :: padBytes 16 (s.chans.fences.flatMap Fence.bytes)

/-- READ_QUEUE. -/
def State.takeReadQueue (s : State) (t : Operands) : State := s.readCommand t 0 .accepted s.queueBytes id

/-- READ_QUEUE. -/
def execReadQueue (t : Operands) (s : State) : Out := .next (s.takeReadQueue t)

/-! ### READ_STATION (R103, R105, R138, R174) -/

/-- Bytes 0 to 10: Station Controller, Contention Unit, Unit Table, latch. -/
def State.stationHead (s : State) : List Byte :=
  [s.stn.state.code.setWidth 8, (s.stn.request.map Request.code).getD 0, toByte s.stn.joinCount,
   stepsUp Config.hundredthSecond (s.stn.busLoss.getD 0), toByte s.cont.lossRun,
   toByte s.cont.conflictRun, s.cont.last.outcome.code ++ BitVec.ofNat 4 s.cont.last.outcome.lostBit,
   (s.cont.last.word.setWidth 16 >>> 8).setWidth 8, s.cont.last.word.setWidth 8,
   toByte s.table.spareCount, s.seq.latch]

/-- Bytes 11 to 20: the start list and the elapsed timer. -/
def State.stationStart (s : State) : List Byte :=
  toByte s.seq.startList.length :: padBytes 8 (s.seq.startList.map fun c => toByte c.val)
    ++ [stepsDown Config.hundredthSecond s.seq.elapsed]

/-- Bytes 21 to 25: the yield slot (R174). DESIGN CHOICE (log 34): bits 7 to 3 of byte 21, which no field names,
read 0. -/
def slotBytes : Option YieldReq → List Byte
  | none => [0, 0, 0, 0, 0]
  | some q =>
    [(0 : BitVec 5) ++ BitVec.ofBool q.requester.isSome ++ BitVec.ofBool (decide (q.origin = .fromPort))
       ++ BitVec.ofBool true,
     toByte q.priority, q.mask.setWidth 8, toByte q.wanted, (q.requester.map fun c => toByte c.val).getD 0]

/-- Bytes 26 to 30: holdoff, transmit queue, presence, ring, reply register. -/
def State.stationTail (s : State) : List Byte :=
  [stepsUp Config.tenthSecond s.notice.holdoff, toByte s.notice.tx.length,
   (BitVec.ofBool s.notice.presence).setWidth 8, toByte s.notice.ring.length, s.port.reply.code]

/-- The thirty-one bytes of the station record. -/
def State.stationBytes (s : State) : List Byte :=
  s.stationHead ++ s.stationStart ++ slotBytes s.notice.slot ++ s.stationTail

/-- READ_STATION. -/
def State.takeReadStation (s : State) (t : Operands) : State :=
  s.readCommand t 0 .accepted s.stationBytes id

/-- READ_STATION. -/
def execReadStation (t : Operands) (s : State) : Out := .next (s.takeReadStation t)

/-! ### READ_INCIDENT (R159) -/

/-- The three bytes of the incident record; all 00h when it is empty (R174). DESIGN CHOICE (log 34): bits 6 to 3 of
byte 2, which no field names, read 0. -/
def incidentBytes : Option Incident → List Byte
  | none => [0, 0, 0]
  | some i =>
    [i.cause.code, i.state.code.setWidth 8,
     match i.channel with
     | some c => BitVec.ofBool true ++ BitVec.ofNat 7 c.val
     | none => 0]

/-- READ_INCIDENT: returns the record and empties it (R159). -/
def State.takeReadIncident (s : State) (t : Operands) : State :=
  s.readCommand t 0 .accepted (incidentBytes s.stn.incident) fun u =>
    u.setStn { u.stn with incident := none }

/-- READ_INCIDENT. -/
def execReadIncident (t : Operands) (s : State) : Out := .next (s.takeReadIncident t)

/-! ### Events (R168, R170) -/

/-- READ_EVENTS: the event word, most significant byte first (R168, R174). -/
def State.takeReadEvents (s : State) (t : Operands) : State :=
  s.readCommand t 0 .accepted [(s.port.events >>> 8).setWidth 8, s.port.events.setWidth 8] id

/-- READ_EVENTS. -/
def execReadEvents (t : Operands) (s : State) : Out := .next (s.takeReadEvents t)

/-- CLEAR_EVENTS: every flag whose position holds 1 in the mask is cleared (R170). -/
def State.takeClearEvents (s : State) (t : Operands) : State :=
  s.writeCommand t 2 .accepted fun u =>
    u.setPort { u.port with events := u.port.events &&& ~~~ t.word }

/-- CLEAR_EVENTS. -/
def execClearEvents (t : Operands) (s : State) : Out := .next (s.takeClearEvents t)

/-- SET_ENABLES: the enable word is replaced; its flagless positions read 0 (R170). -/
def State.takeSetEnables (s : State) (t : Operands) : State :=
  s.writeCommand t 2 .accepted fun u =>
    u.setPort { u.port with enables := t.word &&& flagMask }

/-- SET_ENABLES. -/
def execSetEnables (t : Operands) (s : State) : Out := .next (s.takeSetEnables t)

end Sys2Proof.Machine
end

