-- ==== Sys2Proof/Machine/PortStation.lean ====
section
/-! DEFINITION. JOIN, LEAVE, QUIET, CLEAR_FAULT and SOFT_RESET (R144, R148, R153, R157). -/

namespace Sys2Proof.Machine

/-! ### JOIN -/

/-- Taken in QUIET and LEFT (R148). -/
def State.joinVerdict (s : State) : Reply :=
  match s.stn.state with
  | .quiet | .left => .accepted
  | .config | .joining | .active | .halted | .faulted => .state

/-- JOIN (R146, R147, R148). -/
def State.takeJoin (s : State) (t : Operands) : State :=
  s.writeCommand t 0 s.joinVerdict fun u => (u.enterState .joining).settle

/-- JOIN. -/
def execJoin (t : Operands) (s : State) : Out := .next (s.takeJoin t)

/-! ### LEAVE and QUIET -/

/-- A request taken in ACTIVE: pending, or acting at once when no roll is in flight (R144). -/
def State.request (s : State) (q : Request) : State :=
  if s.inFlight then s.setStn { s.stn with request := some q } else s.actRequest q

/-- LEAVE is taken in JOINING, ACTIVE and QUIET (R148). -/
def State.leaveVerdict (s : State) : Reply :=
  match s.stn.state with
  | .joining | .active | .quiet => .accepted
  | .config | .left | .halted | .faulted => .state

/-- LEAVE acting: pending in ACTIVE, at once elsewhere, with shed and drop (R144, R146, R148). -/
def State.leaveEffect (s : State) : State :=
  if s.isActive then s.request .leave else s.depart .leave .left

/-- LEAVE (R144, R148). -/
def State.takeLeave (s : State) (t : Operands) : State :=
  s.writeCommand t 0 s.leaveVerdict fun u => u.leaveEffect.settle

/-- LEAVE. -/
def execLeave (t : Operands) (s : State) : Out := .next (s.takeLeave t)

/-- QUIET is taken in JOINING and ACTIVE (R148). -/
def State.quietVerdict (s : State) : Reply :=
  match s.stn.state with
  | .joining | .active => .accepted
  | .config | .quiet | .left | .halted | .faulted => .state

/-- QUIET acting: pending in ACTIVE; in JOINING at once, without shed or drop (R144, R148). -/
def State.quietEffect (s : State) : State :=
  if s.isActive then s.request .quiet else s.enterState .quiet

/-- QUIET (R144, R148). -/
def State.takeQuiet (s : State) (t : Operands) : State :=
  s.writeCommand t 0 s.quietVerdict fun u => u.quietEffect.settle

/-- QUIET. -/
def execQuiet (t : Operands) (s : State) : Out := .next (s.takeQuiet t)

/-! ### CLEAR_FAULT -/

/-- Taken in FAULTED (R148). -/
def State.clearFaultVerdict (s : State) : Reply :=
  match s.stn.state with
  | .faulted => .accepted
  | .config | .joining | .active | .quiet | .left | .halted => .state

/-- CLEAR_FAULT: JOINING, or HALTED while KILLN is low; event and incident record stay (R153). -/
def State.takeClearFault (s : State) (t : Operands) : State :=
  s.writeCommand t 0 s.clearFaultVerdict fun u => (u.enterState u.joinOrHalt).settle

/-- CLEAR_FAULT. -/
def execClearFault (t : Operands) (s : State) : Out := .next (s.takeClearFault t)

/-! ### SOFT_RESET -/

/-- The values SOFT_RESET sets beside the departure (R157): counts and runs, the elapsed timer, the transmit queue
and the send record; the event word last. -/
def State.softValues (s : State) : State :=
  ((((s.setNotice { s.notice with tx := [], send := none }).setStn
    { s.stn with joinCount := 0, countable := false }).setCont
    { s.cont with lossRun := 0, conflictRun := 0 }).setSeq
    { s.seq with elapsed := 0 }).setPort
    { s.port with events := 0 }

/-- SOFT_RESET (R157): shed and drop with cause RESET, sources and fences emptied, JOINING or HALTED. -/
def State.softReset (s : State) : State := (s.depart .reset s.joinOrHalt).softValues.settle

/-- SOFT_RESET (R148, R157). -/
def State.takeSoftReset (s : State) (t : Operands) : State :=
  s.writeCommand t 0 s.afterLock State.softReset

/-- SOFT_RESET. -/
def execSoftReset (t : Operands) (s : State) : Out := .next (s.takeSoftReset t)

end Sys2Proof.Machine
end

