-- ==== Sys2Proof/Machine/Port.lean ====
section
/-! DEFINITION. The edges of a transaction: STATUS_CAPTURE, CSN_RISE, UNKNOWN_COMMAND (R164, R165, R172). -/

namespace Sys2Proof.Machine

/-- CSN falls: COMMAND stage, the status byte and the reply register captured, the status byte's first bit on SDO
(R164, R172; log 24). -/
def State.takeStatusCapture (s : State) : State :=
  s.setPort { s.port with
    rx :=
      { stage := .command
        status := s.statusByte
        replyCap := s.port.reply
        code := 0
        got := []
        bits := 0
        shift := 0
        out := []
        outByte := s.statusByte
        sdo := some s.statusByte.msb } }

/-- STATUS_CAPTURE. -/
def execStatusCapture (s : State) : Out := .next s.takeStatusCapture

/-- A command code that names no command (R165, R166). -/
def State.takeUnknown (s : State) (code : Byte) : State :=
  if (Command.ofCode code).isNone then s.finishWrite .unknown else s

/-- UNKNOWN_COMMAND. -/
def execUnknownCommand (code : Byte) (s : State) : Out := .next (s.takeUnknown code)

/-- A command of the list at its acting point, with the operand part of its transaction. -/
def State.runCommand (s : State) (k : Command) (t : Operands) : State :=
  match k with
  | .cfgWrite => s.takeCfgWrite t
  | .cfgRead => s.takeCfgRead t
  | .lock => s.takeLock t
  | .demandSet => s.takeDemandSet t
  | .demandClear => s.takeDemandClear t
  | .park => s.takePark t
  | .unpark => s.takeUnpark t
  | .send => s.takeSend t
  | .yield => s.takeYield t
  | .pop => s.takePop t
  | .readUnit => s.takeReadUnit t
  | .readChannel => s.takeReadChannel t
  | .readQueue => s.takeReadQueue t
  | .readStation => s.takeReadStation t
  | .readIncident => s.takeReadIncident t
  | .readEvents => s.takeReadEvents t
  | .clearEvents => s.takeClearEvents t
  | .setEnables => s.takeSetEnables t
  | .join => s.takeJoin t
  | .leave => s.takeLeave t
  | .quiet => s.takeQuiet t
  | .clearFault => s.takeClearFault t
  | .softReset => s.takeSoftReset t

/-- What the CSN rise settles of a transaction whose command byte is complete and whose read has not acted
(R165): an unknown code, a write command, or a read ended before its operands. -/
def State.closeTransaction (s : State) : State :=
  match Command.ofCode s.port.rx.code with
  | none => s.takeUnknown s.port.rx.code
  | some k =>
    if k.isRead then s.finishWrite .count
    else s.runCommand k { bytes := s.port.rx.got, tail := s.port.rx.bits }

/-- CSN rises: the receive state returns to IDLE in every stage (R164), after what R165 settles. -/
def State.takeCsnRise (s : State) : State :=
  match s.port.rx.stage with
  | .operands | .drain => s.closeTransaction.rxIdle
  | .idle | .command | .data => s.rxIdle

/-- CSN_RISE. -/
def execCsnRise (s : State) : Out := .next s.takeCsnRise

end Sys2Proof.Machine
end

