-- ==== Sys2Proof/Machine/Reset.lean ====
section
/-! DEFINITION. POR, RESET and the KILLN rows (R43, R45, R90, R104, R137, R138, R149, R150, R173). -/

namespace Sys2Proof.Machine

/-- What no reset of the part reaches: the pins and their latest KILLN sample, the CLK divider, the
environment's list, the model's counter, the waiting commands (log 8). -/
def State.keepOutside (s : State) (r : State) : State :=
  { r with
    stn := { r.stn with killnLow := s.stn.killnLow }
    clock := s.clock
    pins := s.pins
    inputs := s.inputs
    free := s.free
    pending := s.pending }

/-- Every block at its POR values, the incident record empty (R138). -/
def State.afterPor (s : State) : State := s.keepOutside State.reset

/-- As POR, but the incident record is kept (R138, R159). -/
def State.afterReset (s : State) : State :=
  let r := s.keepOutside State.reset
  r.setStn { r.stn with incident := s.stn.incident }

/-- POR. -/
def execPor (s : State) : Out := .next s.afterPor

/-- RESET. -/
def execReset (s : State) : Out := .next s.afterReset

/-- KILLN reads low (R100, R149): hold-clear, and from JOINING, ACTIVE, QUIET or LEFT an incident record,
a KILL shed, the drop and HALTED. In CONFIG and FAULTED no state changes; in HALTED it is already low. -/
def State.takeKillnLow (s : State) : State :=
  let t := (s.setStn { s.stn with killnLow := true }).holdClear
  match t.stn.state with
  | .joining | .active | .quiet | .left => (t.writeIncident .kill none).depart .kill .halted
  | .config | .halted | .faulted => t

/-- KILLN_LOW. -/
def execKillnLow (s : State) : Out := .next s.takeKillnLow.settle

/-- KILLN reads high (R150): from HALTED the station enters JOINING. -/
def State.takeKillnHigh (s : State) : State :=
  let t := s.setStn { s.stn with killnLow := false }
  match t.stn.state with
  | .halted => t.enterState .joining
  | _ => t

/-- KILLN_HIGH. -/
def execKillnHigh (s : State) : Out := .next s.takeKillnHigh.settle

end Sys2Proof.Machine
end

