-- ==== Sys2Proof/Machine/RollEnd.lean ====
section
/-! DEFINITION. The roll end at every block that takes it (R14, R21, R62, R81, R127, R140, R142, R145, R154). -/

namespace Sys2Proof.Machine

/-- The slot still holds the request that was sent; a channel that left WAITING since has only lost its
place as requester (R109, R111; log 15). -/
def State.slotHolds (s : State) (q : YieldReq) : Bool :=
  match s.notice.slot with
  | some p =>
    decide ({ p with requester := none } = ({ q with requester := none } : YieldReq))
  | none => false

/-- The send completion by its source (R111, R127). -/
def State.completeSource (s : State) (r : SendRecord) : State :=
  match r.source with
  | .presence => s.setNotice { s.notice with presence := false }
  | .txHead => s.setNotice { s.notice with tx := s.notice.tx.tail }
  | .yieldSlot =>
    let t := (s.setNotice { s.notice with holdoff := s.port.image.holdoffUs }).setEvent .yieldOut
    match r.request with
    | some q => if t.slotHolds q then t.emptySlot else t
    | none => t

/-- The Notice Unit at the roll end: the send completion of a notice driven whole (R127), and the send record
discarded (R125). -/
def State.endSend (s : State) : State :=
  match s.notice.send with
  | some r =>
    let t := if r.whole then s.completeSource r else s
    t.setNotice { t.notice with send := none }
  | none => s

/-- A roll whose FLAG was not read dominant has no notice: its receive record is discarded (R130). -/
def State.endRecv (s : State) : State :=
  if s.roll.flag = some .dominant then s
  else s.setNotice { s.notice with recv := none }

/-- The roll-valid flag that the roll end carries (R21): a stuck line before FLAG leaves the roll invalid. -/
def State.endValid (s : State) (cause : RollEndCause) : Bool :=
  s.roll.valid && (decide (cause ≠ .stuck) || s.roll.flag.isSome)

/-- The Roll Tracker at the roll end (R5, R12, R13, R14, R17). Where a stuck line has already taken it to
SETTLING, it stays there. -/
def RollTracker.finish (r : RollTracker) (inFlight : Bool) (cause : RollEndCause) (valid : Bool) :
    RollTracker :=
  let t := { r with valid := valid, endDue := false, parsing := false }
  if inFlight then
    match cause with
    | .flag | .check => { t with state := .idle, gap := 0 }
    | .trailing => { t with state := .idle, gap := Config.gapBits, recessive := 0 }
    | .stuck => { t with state := .settling, recessive := 0 }
  else t

/-- The Contention Unit at the roll end: a won roll without conflict resets the conflict run (R62). -/
def State.endConflictRun (s : State) : State :=
  if s.cont.outcome = .won ∧ s.cont.conflictMark = false then
    s.setCont { s.cont with conflictRun := 0 }
  else s

/-- The join count after a roll end in JOINING (R140). -/
def joinCountAfter (valid countable : Bool) (count : Nat) : Nat :=
  if valid then (if countable then count + 1 else count) else 0

/-- The Station Controller in JOINING (R140, R142). -/
def State.endJoining (s : State) (valid : Bool) : State :=
  let n := joinCountAfter valid s.stn.countable s.stn.joinCount
  let t := s.setStn { s.stn with joinCount := n, countable := false }
  if Config.joinRolls ≤ n then t.enterActive else t

/-- A valid roll end sets the running bus-loss timer back (R154). -/
def State.restartBusLoss (s : State) (valid : Bool) : State :=
  if valid then
    s.setStn { s.stn with busLoss := s.stn.busLoss.map fun _ => s.port.image.busLossUs }
  else s

/-- The Station Controller in ACTIVE: bus-loss timer, then the pending request (R145, R154). -/
def State.endActive (s : State) (valid : Bool) : State :=
  let t := s.restartBusLoss valid
  match t.stn.request with
  | some q => t.actRequest q
  | none => t

/-- The roll end clears the countable mark in every case (R140). -/
def State.clearMark (s : State) : State := s.setStn { s.stn with countable := false }

/-- The Station Controller at the roll end. Outside JOINING nothing is counted; the countable mark is cleared in
every state (R140). -/
def State.endStation (s : State) (valid : Bool) : State :=
  match s.stn.state with
  | .joining => s.endJoining valid
  | .active => (s.endActive valid).clearMark
  | .config | .quiet | .left | .halted | .faulted => s.clearMark

/-- The end of the notice in progress that falls with this roll end: the check character's, or a stuck line's
(R12, R17, R145). Where it has been taken already its record is gone, and nothing happens. -/
def State.noticeAtEnd (s : State) (cause : RollEndCause) : State :=
  match cause with
  | .check => s.takeNoticeEnd .complete
  | .stuck => s.takeNoticeEnd .stuck
  | .flag | .trailing => s

/-- The roll end at the blocks that act on it, in the order that the operand says (R117, R142, R145; log 6). -/
def State.endBlocks (s : State) (cause : RollEndCause) (valid : Bool) (order : RollEndOrder) : State :=
  match order with
  | .checkFirst => s.spareCheck.endStation valid
  | .requestFirst => (s.endStation valid).spareCheck
  | .noticeBetween => (s.spareCheck.noticeAtEnd cause).endStation valid

/-- Where a roll end of each cause can occur: at FLAG read recessive (R14), at the check character of a roll whose
FLAG was dominant (R12), out of TRAILING (R13), at a stuck line for the roll it has ended (R17). Past the end of
parsing the Roll Tracker finds the first three by itself (R19). -/
def State.endOccurs (s : State) (cause : RollEndCause) : Bool :=
  match cause with
  | .flag =>
    decide (s.roll.state = .inRoll) && (decide (s.roll.flag = some .recessive) || !s.roll.parsing)
  | .check =>
    decide (s.roll.state = .inRoll) && (decide (s.roll.flag = some .dominant) || !s.roll.parsing)
  | .trailing =>
    decide (s.roll.state = .trailing) || (decide (s.roll.state = .inRoll) && !s.roll.parsing)
  | .stuck => s.inFlight || s.roll.endDue

/-- The roll end (R14). -/
def State.takeRollEnd (s : State) (cause : RollEndCause) (order : RollEndOrder) : State :=
  if s.endOccurs cause then
    let valid := s.endValid cause
    let t := s.endConflictRun.endSend.endRecv
    let t := (t.setRoll (t.roll.finish s.inFlight cause valid)).setStn { t.stn with silence := 0 }
    t.endBlocks cause valid order
  else s

/-- ROLL_END. -/
def execRollEnd (cause : RollEndCause) (order : RollEndOrder) (s : State) : Out :=
  .next (s.takeRollEnd cause order).settle

end Sys2Proof.Machine
end

