-- ==== Sys2Proof/Machine/Timers.lean ====
section
/-! DEFINITION. The timer rows and the demand filters' row (R39, R67, R75, R77, R78, R87, R93, R106, R107, R108,
R155). An expiry puts its timer at its end and takes the effect (log 3); where the timer does not run, nothing
happens (log 2). -/

namespace Sys2Proof.Machine

/-! ### Bus loss (R154, R155) -/

/-- The bus-loss timer reaches 0. -/
def State.takeBusLossExpiry (s : State) : State :=
  if s.isActive = true ∧ s.stn.busLoss.isSome = true then
    ((s.writeIncident .busLoss none).depart .busLoss .joining).setEvent .busLoss
  else s

/-- BUS_LOSS_EXPIRY. -/
def execBusLossExpiry (s : State) : Out := .next s.takeBusLossExpiry.settle

/-! ### Linger (R39) -/

/-- A spare's linger reaches 0: SPARE becomes RELEASING. -/
def State.takeLingerExpiry (s : State) (unit : Nat) : State :=
  s.setTable (s.table.mapViews fun k v => if k = unit ∧ v.isSpare = true then .releasing else v)

/-- LINGER_EXPIRY. -/
def execLingerExpiry (unit : Nat) (s : State) : Out := .next (s.takeLingerExpiry unit).settle

/-! ### Wait timer and automatic request (R77, R107 to R109) -/

/-- The units wanted by an automatic request: weight less the usable units of the last free set, at least 1
(R108). -/
def State.unitsWanted (s : State) (c : Chan) : Nat :=
  max 1 (s.port.image.weight c - (s.freeUsable c).length)

/-- The request the Channel Controller offers for a channel (R107). -/
def State.autoRequest (s : State) (c : Chan) : YieldReq :=
  { priority := s.port.image.priority c
    mask := s.port.image.mask c
    wanted := s.unitsWanted c
    origin := .auto
    requester := some c }

/-- The Notice Unit writes an offered request when the holdoff has elapsed and the slot is empty or holds a
lower priority (R107). -/
def State.writesOffer (s : State) (c : Chan) : Bool :=
  decide (s.notice.holdoff = 0) &&
    match s.notice.slot with
    | none => true
    | some q => decide (q.priority < s.port.image.priority c)

/-- The channel's wait timer is held at 0 while the slot's request is its own (R77). -/
def State.waitHeld (s : State) (c : Chan) : Bool :=
  match s.notice.slot with
  | some q => decide (q.requester = some c)
  | none => false

/-- The offer (R77, R107, R109): written, with an old requester's timer restarted and this one held at 0; or
turned away, and this timer starts again. -/
def State.offer (s : State) (c : Chan) : State :=
  if s.writesOffer c then s.freeRequester.setSlot (some (s.autoRequest c)) else s.restartWait c

/-- A wait timer reaches 0 in ACTIVE (R77). A timer held at 0 expires no more. -/
def State.takeWaitExpiry (s : State) (c : Chan) : State :=
  match (s.chan c).state with
  | .waiting e (some _) =>
    if s.isActive = true ∧ s.waitHeld c = false then
      (s.setChState c (.waiting e (some 0))).offer c
    else s
  | _ => s

/-- WAIT_TIMER_EXPIRY. -/
def execWaitTimerExpiry (c : Chan) (s : State) : Out := .next (s.takeWaitExpiry c).settle

/-! ### Min on and min off (R75, R78, R79) -/

/-- An on-since timer reaches min on: a channel with its stop pending is stopped (R75). -/
def State.takeMinOnExpiry (s : State) (c : Chan) : State :=
  match (s.chan c).state with
  | .on m t =>
    let u := s.setChState c (.on m (max t (s.port.image.minOnUs c)))
    if m then u.stopChan c else u
  | _ => s

/-- MIN_ON_EXPIRY. -/
def execMinOnExpiry (c : Chan) (s : State) : Out := .next (s.takeMinOnExpiry c).settle

/-- An off-since timer reaches min off in COOLDOWN: WAITING with effective demand, OFF without (R78). -/
def State.takeMinOffExpiry (s : State) (c : Chan) : State :=
  match (s.chan c).state with
  | .cooldown =>
    let r := s.chan c
    let t := s.setChan c { r with
      state := .off
      offSince := r.offSince.map (max (s.port.image.minOffUs c)) }
    if t.demand c then t.enterWaiting c false else t
  | _ => s

/-- MIN_OFF_EXPIRY. -/
def execMinOffExpiry (c : Chan) (s : State) : Out := .next (s.takeMinOffExpiry c).settle

/-! ### Fences, holdoff, stagger (R87, R93, R106) -/

/-- A fence expires; the entries behind it keep their order (R87). -/
def State.takeFenceExpiry (s : State) (sender : BitVec 6) : State :=
  s.setChans { s.chans with fences := s.chans.fences.filter fun f => f.sender ≠ sender }

/-- FENCE_EXPIRY. -/
def execFenceExpiry (sender : BitVec 6) (s : State) : Out := .next (s.takeFenceExpiry sender)

/-- YIELD_HOLDOFF_EXPIRY (R106). -/
def execYieldHoldoffExpiry (s : State) : Out := .next (s.setNotice { s.notice with holdoff := 0 })

/-- The elapsed timer reaches the head's stagger (R93). -/
def State.takeStaggerReached (s : State) : State :=
  match s.seq.startList with
  | [] => s
  | c :: _ =>
    (s.setSeq { s.seq with elapsed := max s.seq.elapsed (s.port.image.staggerUs c) }).checkHead

/-- STAGGER_REACHED. -/
def execStaggerReached (s : State) : Out := .next s.takeStaggerReached.settle

/-! ### Demand filters (R67, R69) -/

/-- One filter's level changes, its run count starts at 0 again, and the channel takes what that does to its
demand. -/
def State.toggleLevel (s : State) (c : Chan) : State :=
  s.writeInputs c { s.chan c with level := !(s.chan c).level, run := 0 }

/-- The filtered levels that change at one sample, one channel at a time in channel order (R67); the filters
sample from LOCK on. -/
def State.takeLevelChange (s : State) (pins : BitVec 8) : State :=
  if s.port.locked then (chansIn pins).foldl State.toggleLevel s else s

/-- FILTERED_LEVEL_CHANGE. -/
def execFilteredLevelChange (pins : BitVec 8) (s : State) : Out := .next (s.takeLevelChange pins).settle

end Sys2Proof.Machine
end

