-- ==== Sys2Proof/Machine/Dispatch.lean ====
section
/-! DEFINITION. One arm per command: the meaning it has. -/

namespace Sys2Proof.Machine

def exec (i : Instr) (s : State) : Host.Outcome State Fault Refusal :=
  match i with
  | .por => Sys2Proof.Machine.execPor s
  | .reset => Sys2Proof.Machine.execReset s
  | .killnLow => Sys2Proof.Machine.execKillnLow s
  | .killnHigh => Sys2Proof.Machine.execKillnHigh s
  | .filteredLevelChange pins => Sys2Proof.Machine.execFilteredLevelChange pins s
  | .settlingEnd => Sys2Proof.Machine.execSettlingEnd s
  | .openRoll => Sys2Proof.Machine.execOpenRoll s
  | .rollStart => Sys2Proof.Machine.execRollStart s
  | .malformedOpen => Sys2Proof.Machine.execMalformedOpen s
  | .holdComplete units => Sys2Proof.Machine.execHoldComplete units s
  | .arbitrationLost bit => Sys2Proof.Machine.execArbitrationLost bit s
  | .claimResolved word => Sys2Proof.Machine.execClaimResolved word s
  | .takeComplete units => Sys2Proof.Machine.execTakeComplete units s
  | .flagReading level => Sys2Proof.Machine.execFlagReading level s
  | .noticeCharacter index data framing marker => Sys2Proof.Machine.execNoticeCharacter index data framing marker s
  | .noticeEnd form => Sys2Proof.Machine.execNoticeEnd form s
  | .rollEnd cause order => Sys2Proof.Machine.execRollEnd cause order s
  | .driveReport phase position => Sys2Proof.Machine.execDriveReport phase position s
  | .conflict phase => Sys2Proof.Machine.execConflict phase s
  | .stuckLine => Sys2Proof.Machine.execStuckLine s
  | .silenceTimerExpiry => Sys2Proof.Machine.execSilenceTimerExpiry s
  | .busLossExpiry => Sys2Proof.Machine.execBusLossExpiry s
  | .lingerExpiry unit => Sys2Proof.Machine.execLingerExpiry unit s
  | .waitTimerExpiry c => Sys2Proof.Machine.execWaitTimerExpiry c s
  | .minOnExpiry c => Sys2Proof.Machine.execMinOnExpiry c s
  | .minOffExpiry c => Sys2Proof.Machine.execMinOffExpiry c s
  | .fenceExpiry sender => Sys2Proof.Machine.execFenceExpiry sender s
  | .yieldHoldoffExpiry => Sys2Proof.Machine.execYieldHoldoffExpiry s
  | .staggerReached => Sys2Proof.Machine.execStaggerReached s
  | .statusCapture => Sys2Proof.Machine.execStatusCapture s
  | .cfgWrite t => Sys2Proof.Machine.execCfgWrite t s
  | .cfgRead t => Sys2Proof.Machine.execCfgRead t s
  | .lock t => Sys2Proof.Machine.execLock t s
  | .demandSet t => Sys2Proof.Machine.execDemandSet t s
  | .demandClear t => Sys2Proof.Machine.execDemandClear t s
  | .park t => Sys2Proof.Machine.execPark t s
  | .unpark t => Sys2Proof.Machine.execUnpark t s
  | .send t => Sys2Proof.Machine.execSend t s
  | .yield t => Sys2Proof.Machine.execYield t s
  | .pop t => Sys2Proof.Machine.execPop t s
  | .readUnit t => Sys2Proof.Machine.execReadUnit t s
  | .readChannel t => Sys2Proof.Machine.execReadChannel t s
  | .readQueue t => Sys2Proof.Machine.execReadQueue t s
  | .readStation t => Sys2Proof.Machine.execReadStation t s
  | .readIncident t => Sys2Proof.Machine.execReadIncident t s
  | .readEvents t => Sys2Proof.Machine.execReadEvents t s
  | .clearEvents t => Sys2Proof.Machine.execClearEvents t s
  | .setEnables t => Sys2Proof.Machine.execSetEnables t s
  | .join t => Sys2Proof.Machine.execJoin t s
  | .leave t => Sys2Proof.Machine.execLeave t s
  | .quiet t => Sys2Proof.Machine.execQuiet t s
  | .clearFault t => Sys2Proof.Machine.execClearFault t s
  | .softReset t => Sys2Proof.Machine.execSoftReset t s
  | .unknownCommand code => Sys2Proof.Machine.execUnknownCommand code s
  | .candidateOpen => Sys2Proof.Machine.execCandidateOpen s
  | .openNoise run => Sys2Proof.Machine.execOpenNoise run s
  | .csnRise => Sys2Proof.Machine.execCsnRise s

end Sys2Proof.Machine
end

