-- ==== Sys2Proof/Machine/Tick.lean ====
section
/-! DEFINITION. One CLK period with no command waiting (log 4): the pins are read, the timers and the bit time advance,
and the events that fall due are taken, each by the meaning of its row (R2, R3, R5, R9 to R19, R39, R67, R75, R77, R79,
R92, R100, R106, R141, R154, R164). -/

namespace Sys2Proof.Machine

/-- A command taken by its row's meaning. -/
def State.fire (s : State) (i : Instr) : State :=
  match exec i s with
  | .next t => t
  | .fault _ => s
  | .refused _ => s

/-! ### Pins -/

/-- The pin levels of this CLK period: the next of the list, or a free value (log 5). -/
def State.drawPins (s : State) : State :=
  match s.inputs with
  | p :: rest => (s.setInputs rest).setPins p
  | [] => (s.setPins (Config.pinLevels s.free)).setFree (s.free + 1)

/-! ### The bit time (R2, R3) -/

/-- A bit time in CLK periods. -/
def State.bitClks (s : State) : Nat := Config.bitTimeUs s.port.image.bitTime * Config.clksPerUs

/-- The majority of the samples taken; two that disagree read recessive (R2, R3). -/
def majority (samples : List Level) : Level :=
  if samples.length < 2 * samples.countP (· == .dominant) then .dominant else .recessive

/-- CLK period q of a bit time of n periods is a sample point: 40, 50 or 60 % (R2). -/
def samplePoint (n q : Nat) : Bool :=
  decide (5 * q = 2 * n) || decide (2 * q = n) || decide (5 * q = 3 * n)

/-- What the line does in one CLK period: nothing of note; a bit time restarted at an edge; the third sample, at which
a bit time's value is known; a bit time's end, with whether its value is only known by it, and whether an edge made
it. -/
inductive LineEvent where
  | quiet
  | restart
  | read (v : Level)
  | close (v : Level) (unread edge : Bool)
  deriving DecidableEq, Repr

/-- A bit time ends: with the value its third sample gave, or, ended early, with that of the samples taken (R3). -/
def LineIf.closing (l : LineIf) (edge : Bool) : LineEvent :=
  if l.samples.length < 3 then .close (majority l.samples) true edge else .close l.value false edge

/-- R2 and R3: an edge before the 50 % point restarts the bit time, a later one ends it, and so does its full
length. The samples taken before the edge count (log 7). -/
def State.lineEvent (s : State) (before : Level) : LineEvent :=
  let q := s.line.phase + 1
  let edge := before == .recessive && s.pins.shr == .dominant
  if s.roll.state = .off then .quiet
  else if s.bitClks ≤ q then s.line.closing edge
  else if edge then
    if 2 * q < s.bitClks then .restart else s.line.closing true
  else if 5 * q = 3 * s.bitClks then .read (majority (s.line.samples ++ [s.pins.shr]))
  else .quiet

/-- The bit position after this CLK period (R2, R3). -/
def State.advanceBit (s : State) (e : LineEvent) : State :=
  let q := s.line.phase + 1
  match e with
  | .quiet | .read _ =>
    if s.roll.state = .off then s
    else
      s.setLine { s.line with
        phase := q
        samples :=
          if samplePoint s.bitClks q then s.line.samples ++ [s.pins.shr] else s.line.samples }
  | .restart | .close _ _ _ => s.setLine { s.line with phase := 0, samples := [] }

/-! ### Driving the next bit (R1, R10, R11, R29, R52, R56, R57, R126) -/

/-- Bit b of character i of a notice, sent by R11. -/
def charBit (index bit : Nat) (data : Byte) : Level :=
  if bit = 0 then .dominant
  else if bit ≤ 8 then (if data.getLsbD (bit - 1) then .recessive else .dominant)
  else if bit = 9 then (if index = 0 then .recessive else .dominant)
  else .recessive

/-- The characters of a send record in order: header, payload, check (R120, R126). -/
def SendRecord.bytes (r : SendRecord) : List Byte := r.header :: r.payload ++ [r.check]

/-- A level is dominant exactly when the test holds. -/
def levelOf (dominant : Bool) : Level := if dominant then .dominant else .recessive

/-- The units the winner drives in TAKE (R56). -/
def Bid.chosen : Bid → List Nat
  | .channel _ chosen _ _ _ => chosen
  | _ => []

/-- A notice rides with the bid (R48). -/
def Bid.hasNotice : Bid → Bool
  | .nothing => false
  | .channel _ _ a _ _ => a.isSome
  | .notice _ _ _ => true

/-- The value given for position q of the roll in flight by the owner of its phase (R10). -/
def State.driveAt (s : State) (q : Nat) : Option Level :=
  let u := s.numUnits
  if s.takesPart = false ∨ s.roll.state ≠ .inRoll ∨ q = 0 then none
  else if q ≤ u then some (levelOf (decide (q - 1 ∈ s.table.driveSet)))
  else if q ≤ u + 10 then
    if s.cont.outcome = .bidding then
      s.cont.bid.word.map fun w => levelOf (!w.getMsbD (q - u - 1))
    else none
  else if s.cont.outcome ≠ .won then none
  else if q ≤ 2 * u + 10 then some (levelOf (decide (q - u - 11 ∈ s.cont.bid.chosen)))
  else if q = 2 * u + 11 then some (levelOf s.cont.bid.hasNotice)
  else
    let n := q - (2 * u + 12)
    match s.notice.send with
    | some r => (r.bytes[n / 11]?).map fun b => charBit (n / 11) (n % 11) b
    | none => none

/-- The value given for the bit time that begins: this station's OPEN pulse, or its part in the roll (R10, R16). -/
def State.nextDrive (s : State) : State :=
  s.setLine { s.line with
    drive :=
      if 0 < s.roll.openLeft ∧ s.mayOpen = true then some .dominant
      else s.driveAt (s.roll.position + 1) }

/-- One bit time of an OPEN pulse has passed; a station that is ready opens or merges at this boundary (R16). -/
def State.boundary (s : State) : State :=
  let t := s.setRoll { s.roll with openLeft := s.roll.openLeft - 1 }
  (if t.openReady then t.fire .openRoll else t).nextDrive

/-! ### Reading one bit (R5 to R14, R17 to R20) -/

/-- Where a position lies in the roll (R9). -/
def State.phaseAt (s : State) (q : Nat) : Phase :=
  if q ≤ s.numUnits then .hold
  else if q ≤ s.numUnits + 10 then .claim
  else if q ≤ 2 * s.numUnits + 10 then .take
  else if q = 2 * s.numUnits + 11 then .flag
  else .notice

/-- The report of a mismatch between the value driven and the value read (R18). -/
def State.report (s : State) (driven read : Level) : Option Instr :=
  let q := s.roll.position + 1
  match driven, read with
  | .dominant, .recessive =>
    if s.roll.state = .inRoll then some (.driveReport (s.phaseAt q) q)
    else some (.driveReport .openPulse 0)
  | .recessive, .dominant =>
    if s.roll.state = .inRoll then
      match s.phaseAt q with
      | .claim => some (.arbitrationLost (q - s.numUnits - 1))
      | .take => some (.conflict .take)
      | .flag => some (.conflict .flag)
      | .notice => some (.conflict .notice)
      | .hold | .openPulse => none
    else none
  | _, _ => none

/-- The readback comparison of a bit in which the station took part (R18). -/
def State.readback (s : State) (v : Level) : State :=
  match s.line.drive with
  | none => s
  | some d =>
    match s.report d v with
    | some i => s.fire i
    | none => s

/-- The dominant-run count after a bit time (R17). -/
def State.countRun (s : State) (v : Level) : State :=
  s.setLine { s.line with domRun := if v = .dominant then s.line.domRun + 1 else 0 }

/-- The silence timer at a reading (R5, R141). -/
def State.silenceReads (s : State) (v : Level) : State :=
  match v with
  | .dominant => s.setStn { s.stn with silence := 0 }
  | .recessive =>
    if s.stn.silence + 1 = Config.silenceEnd then s.fire .silenceTimerExpiry
    else s.setStn { s.stn with silence := min Config.silenceEnd (s.stn.silence + 1) }

/-- Several things of one instant, one after the other in a free order (log 6). The number bounds the turns. -/
def inFreeOrder : Nat → List (State → State) → State → State
  | _, [], s => s
  | _, [f], s => f s
  | 0, _ :: _ :: _, s => s
  | n + 1, f :: g :: rest, s =>
    let l := f :: g :: rest
    let k := Config.orderChoice s.free % l.length
    inFreeOrder n (l.eraseIdx k) (l.getD k f (s.setFree (s.free + 1)))

/-- A free choice of the order at one roll end (log 6). -/
def freeOrder (n : Nat) : RollEndOrder :=
  match Config.orderChoice n % 3 with
  | 0 => .checkFirst
  | 1 => .requestFirst
  | _ => .noticeBetween

/-- The roll end by its row; with a request pending, the order of the spare-binding check, the notice end and the
request is free (R117, R145, log 6). -/
def State.fireRollEnd (s : State) (cause : RollEndCause) : State :=
  if s.stn.request.isNone then s.fire (.rollEnd cause .checkFirst)
  else (s.setFree (s.free + 1)).fire (.rollEnd cause (freeOrder s.free))

/-- A complete notice ends with its roll (R12, R145). -/
def State.endWithNotice (s : State) : State :=
  if s.roll.parsing then
    inFreeOrder 2 [fun t => t.fire (.noticeEnd .complete), fun t => t.fireRollEnd .check] s
  else s.fireRollEnd .check

/-- A notice stopped before its count, or after a damaged header: TRAILING (R13). Past the end of parsing the Roll
Tracker follows alone (R19). -/
def State.stopNotice (s : State) : State :=
  let form : NoticeForm := if s.roll.header = some .damaged then .damaged else .cut
  let t := if s.roll.parsing then s.fire (.noticeEnd form) else s
  if t.roll.state = .inRoll then t.setRoll (t.roll.noticeEnd form) else t

/-- The byte of a character's bits: start, d0 to d7, marker, stop (R11). -/
def charData (bits : List Level) : Byte :=
  (List.range 8).foldl (fun b i =>
    if (bits[i + 1]?) = some .recessive then b ||| BitVec.twoPow 8 i else b) 0

/-- A character's stop bit has been read (R11, R12). DESIGN CHOICE (log 37): with the check character the end of its
stop bit, the notice end and the roll end are one event of the line, so a departure of the same instant comes before
the stop bit's end, and abandons the notice (R129), or after the roll end, which has completed it (R127). -/
def State.endCharacter (s : State) (index : Nat) (bits : List Level) : State :=
  let framing : Bool := bits[10]? == some .dominant
  let marker : Bool := bits[9]? == some (if index = 0 then .dominant else .recessive)
  let t :=
    if s.roll.parsing then s.fire (.noticeCharacter index (charData bits) framing marker)
    else s.trackCharacter index (charData bits) framing marker
  match t.roll.header with
  | some (.good l) => if index = l + 1 then t.endWithNotice else t
  | _ => t

/-- Bit n of the NOTICE phase (R11 to R13). -/
def State.noticeBit (s : State) (n : Nat) (v : Level) : State :=
  if n % 11 = 0 then
    match v with
    | .recessive => s.stopNotice
    | .dominant =>
      s.setRoll { s.roll with position := s.roll.position + 1, charBits := [v] }
  else if n % 11 = 10 then s.endCharacter (n / 11) (s.roll.charBits ++ [v])
  else
    s.setRoll { s.roll with
      position := s.roll.position + 1, charBits := s.roll.charBits ++ [v] }

/-- The Roll Tracker keeps a slot's reading. -/
def keepSlot (l : List Nat) (k : Nat) (v : Level) : List Nat :=
  if v = .dominant then l ++ [k] else l

/-- A claim bit joins the word read; recessive is 1 (R9, R174). -/
def keepClaim (w : BitVec 10) (v : Level) : BitVec 10 :=
  (w <<< 1) ||| (if v = .recessive then 1 else 0)

/-- The event of a phase's last position, while the roll is parsed (R9, R19). -/
def State.phaseEvent (s : State) (q last : Nat) (i : Instr) : State :=
  if q = last ∧ s.roll.parsing = true then s.fire i
  else s.setRoll { s.roll with position := q }

/-- The FLAG bit (R9, R14). -/
def State.flagBit (s : State) (q : Nat) (v : Level) : State :=
  let t :=
    if s.roll.parsing then s.fire (.flagReading v)
    else s.setRoll { s.roll with position := q, flag := some v }
  if v = .recessive then t.fireRollEnd .flag else t

/-- One position of a roll in IN ROLL (R9). -/
def State.rollBit (s : State) (v : Level) : State :=
  let u := s.numUnits
  let q := s.roll.position + 1
  match s.phaseAt q with
  | .hold | .openPulse =>
    let l := keepSlot s.roll.holdRead (q - 1) v
    (s.setRoll { s.roll with holdRead := l }).phaseEvent q u (.holdComplete l)
  | .claim =>
    let w := keepClaim s.roll.claimRead v
    (s.setRoll { s.roll with claimRead := w }).phaseEvent q (u + 10) (.claimResolved w)
  | .take =>
    let l := keepSlot s.roll.takeRead (q - u - 11) v
    (s.setRoll { s.roll with takeRead := l }).phaseEvent q (2 * u + 10) (.takeComplete l)
  | .flag => s.flagBit q v
  | .notice => s.noticeBit (q - (2 * u + 12)) v

/-- The Roll Tracker at a reading, by its state (R4 to R8, R13). `run` is the dominant run before this bit. DESIGN CHOICE
(log 40): a run that reached 7 before OPENING was entered, and ends there, is a malformed OPEN at its end. -/
def State.trackerBit (s : State) (run : Nat) (v : Level) : State :=
  match s.roll.state, v with
  | .off, _ => s
  | .settling, .recessive =>
    let t := s.setRoll { s.roll with recessive := s.roll.recessive + 1 }
    if Config.gapBits ≤ t.roll.recessive then t.fire .settlingEnd else t
  | .settling, .dominant => s.setRoll { s.roll with recessive := 0 }
  | .idle, .recessive => s.setRoll { s.roll with gap := min Config.gapBits (s.roll.gap + 1) }
  | .idle, .dominant => s.setRoll { s.roll with gap := 0 }
  | .opening, .dominant =>
    let t := s.setRoll { s.roll with gap := 0 }
    if Config.malformedRun ≤ run + 1 then t.fire .malformedOpen else t
  | .opening, .recessive =>
    if run ≤ 2 then s.fire (.openNoise run)
    else if run < Config.malformedRun then s.fire .rollStart
    else s.fire .malformedOpen
  | .inRoll, w => s.rollBit w
  | .trailing, .recessive =>
    let t := s.setRoll { s.roll with recessive := s.roll.recessive + 1 }
    if Config.gapBits ≤ t.roll.recessive then t.fireRollEnd .trailing else t
  | .trailing, .dominant => s.setRoll { s.roll with recessive := 0 }

/-- With this bit time the dominant run passes its limit, and the report is armed (R17). -/
def State.stuckNow (s : State) (v : Level) : Bool :=
  decide (v = .dominant) && decide (2 * s.numUnits + 32 < s.line.domRun + 1) && s.line.stuckArmed

/-- The end of a notice in progress at a stuck line (R17, R130). -/
def State.stuckNotice (s : State) : State :=
  if s.roll.flag = some .dominant then s.fire (.noticeEnd .stuck) else s

/-- A stuck line: the report, the end of a notice in progress and the end of a roll in flight, in a free order with
and without a request pending. R145 gives the orders of a request; R17 and R156 give none for the rest (log 6). -/
def State.stuckBit (s : State) : State :=
  if s.inFlight then
    inFreeOrder 3 [fun t => t.fire .stuckLine, State.stuckNotice, fun t => t.fireRollEnd .stuck] s
  else s.fire .stuckLine

/-- A bit time's value is known: the readback comparison and its report, then the stuck line (R2, R17, R18;
log 26). -/
def State.readLine (s : State) (v : Level) : State :=
  let t := (s.setLine { s.line with value := v }).readback v
  if t.stuckNow v then t.stuckBit else t

/-- A bit time ends: dominant run, silence timer, the Roll Tracker's step, then the next bit's drive (log 7, 26). -/
def State.closeBit (s : State) (v : Level) : State :=
  (((s.countRun v).silenceReads v).trackerBit s.line.domRun v).boundary

/-! ### The time base (R39, R67, R75, R77, R79, R87, R92, R100, R106, R154) -/

/-- An on-since timer reaches min on with this microsecond. -/
def State.minOnDue (s : State) (c : Chan) : Bool :=
  match (s.chan c).state with
  | .on _ t => decide (t + 1 = s.port.image.minOnUs c)
  | _ => false

/-- A channel's timers after one microsecond. An on-since timer that reaches min on does so in its own event. -/
def State.advanceChan (s : State) (c : Chan) : ChannelRec :=
  let r := s.chan c
  { r with
    state :=
      match r.state with
      | .waiting e w => .waiting e (if s.isActive then w.map (· - 1) else w)
      | .on m t => .on m (if s.minOnDue c then t else min Config.sinceMax (t + 1))
      | x => x
    offSince := r.offSince.map fun t => min Config.sinceMax (t + 1) }

/-- The linger of a spare after one microsecond (R39). -/
def View.advance : View → View
  | .spare t => .spare (t - 1)
  | v => v

/-- The elapsed timer reaches some channel's stagger with its next count (R92, R93). -/
def State.staggerEnds (s : State) : Bool :=
  allChans.any fun c => decide (s.seq.elapsed + 1 = s.port.image.staggerUs c)

/-- Every timer of the time base after one microsecond; the holdoff reaches 0, and the elapsed timer a stagger, in their
own events. -/
def State.advanceTimers (s : State) : State :=
  (((((s.setChans { s.chans with
        recs := Vector.ofFn s.advanceChan
        fences := s.chans.fences.map fun f => { f with left := f.left - 1 } }).setTable
      (s.table.mapViews fun _ v => v.advance)).setSeq
    { s.seq with
      elapsed := if s.staggerEnds then s.seq.elapsed else min Config.elapsedMax (s.seq.elapsed + 1) }).setNotice
    { s.notice with
      holdoff := if s.notice.holdoff = 1 then 1 else s.notice.holdoff - 1 }).setStn
    { s.stn with busLoss := s.stn.busLoss.map (· - 1) })

/-- A filter's run count after one sample (R67). -/
def State.sampleFilter (s : State) (c : Chan) : ChannelRec :=
  let r := s.chan c
  { r with run := if s.pins.dem.getLsbD c.val = r.level then 0 else r.run + 1 }

/-- All eight pins are sampled (R67). -/
def State.sampleFilters (s : State) : State :=
  s.setChans { s.chans with recs := Vector.ofFn s.sampleFilter }

/-- The pins whose change is accepted at this sample (R67). -/
def State.acceptedPins (s : State) : BitVec 8 :=
  (allChans.filter fun c => decide (s.port.image.filter < (s.chan c).run)).foldl
    (fun m c => m ||| BitVec.twoPow 8 c.val) 0

/-- A time event that is due and has not been made void by another of the same instant. -/
def State.stillDue (s : State) (i : Instr) : Bool :=
  match i with
  | .busLossExpiry => decide (s.stn.busLoss = some 0)
  | .lingerExpiry k => (s.table.recs[k]?).any fun r => decide (r.view = .spare 0)
  | .waitTimerExpiry c =>
    s.isActive && !s.waitHeld c &&
      match (s.chan c).state with
      | .waiting _ w => decide (w = some 0)
      | _ => false
  | .minOnExpiry c => s.minOnDue c
  | .minOffExpiry c =>
    match (s.chan c).state, (s.chan c).offSince with
    | .cooldown, some t => decide (s.port.image.minOffUs c ≤ t)
    | _, _ => false
  | .fenceExpiry x => s.chans.fences.any fun f => decide (f.sender = x ∧ f.left = 0)
  | .yieldHoldoffExpiry => decide (s.notice.holdoff = 1)
  | .staggerReached =>
    match s.seq.startList with
    | c :: _ => decide (s.seq.elapsed = s.port.image.staggerUs c)
    | [] => false
  | _ => true

/-- The time events that may fall due in one microsecond, apart from those that reach their end in their own
event. -/
def State.timeRows (s : State) : List Instr :=
  .busLossExpiry :: (List.range s.table.recs.length).map .lingerExpiry
    ++ allChans.map .waitTimerExpiry
    ++ allChans.map .minOffExpiry
    ++ s.chans.fences.map fun f => .fenceExpiry f.sender

/-- The events that reach their end in their own event: read before the timers advance. -/
def State.endRows (s : State) : List Instr :=
  (.yieldHoldoffExpiry :: allChans.map .minOnExpiry).filter s.stillDue
    ++ (if s.staggerEnds then [.staggerReached] else [])

/-- KILLN is sampled every microsecond (R100); a change from its latest sample is an event. -/
def State.killRows (s : State) : List Instr :=
  if s.pins.killn = s.stn.killnLow then [if s.pins.killn then .killnHigh else .killnLow] else []

/-- The demand filters' event of this sample (R67). -/
def State.filterRows (s : State) : List Instr :=
  if s.acceptedPins = 0 then [] else [.filteredLevelChange s.acceptedPins]

/-- One microsecond of a locked station: what falls due, and the state with its timers advanced. DESIGN CHOICE (log 36):
apart from those that reach their end in their own event (log 25), the timers count before any event of the instant is
taken, so an event taken ahead of an expiry finds that timer at its end already. -/
def State.lockedMicrosecond (s : State) : List Instr × State :=
  let t := s.advanceTimers
  let sample := decide (s.clock.ms + 1 = Config.milliSecond)
  let u := if sample then t.sampleFilters else t
  let w := u.setClock { u.clock with ms := if sample then 0 else s.clock.ms + 1 }
  (s.killRows ++ s.endRows ++ w.timeRows.filter w.stillDue ++ (if sample then w.filterRows else []), w)

/-- One microsecond (R100: KILLN is sampled in CONFIG too; the other timers start at LOCK). -/
def State.microsecond (s : State) : List Instr × State :=
  if s.port.locked then s.lockedMicrosecond else (s.killRows, s)

/-- The CLK divider (00: CLK is the source of the 1 us time base). -/
def State.timeBase (s : State) : List Instr × State :=
  if s.clock.sub + 1 = Config.clksPerUs then
    (s.setClock { s.clock with sub := 0 }).microsecond
  else ([], s.setClock { s.clock with sub := s.clock.sub + 1 })

/-! ### SPI pins (R164, R165) -/

/-- What follows a complete command byte (R164). -/
def State.commandByte (s : State) (code : Byte) : State :=
  let rx := { s.port.rx with code := code, got := [], bits := 0 }
  match Command.ofCode code with
  | none => s.setPort { s.port with rx := { rx with stage := .drain } }
  | some k =>
    if k.operandCount [] = 0 then
      let t := s.setPort { s.port with rx := { rx with stage := .drain } }
      if k.isRead then t.fire (k.toInstr { bytes := [], tail := 0 }) else t
    else s.setPort { s.port with rx := { rx with stage := .operands } }

/-- What follows a complete operand byte (R164, R165). -/
def State.operandByte (s : State) (b : Byte) : State :=
  let got := s.port.rx.got ++ [b]
  let rx := { s.port.rx with got := got, bits := 0 }
  match Command.ofCode s.port.rx.code with
  | none => s.setPort { s.port with rx := rx }
  | some k =>
    if got.length = k.operandCount got then
      let t := s.setPort { s.port with rx := { rx with stage := .drain } }
      if k.isRead then t.fire (k.toInstr { bytes := got, tail := 0 }) else t
    else s.setPort { s.port with rx := rx }

/-- A byte has been received (R164). -/
def State.byteIn (s : State) (b : Byte) : State :=
  match s.port.rx.stage with
  | .idle => s
  | .command => s.commandByte b
  | .operands => s.operandByte b
  | .data => s.setPort { s.port with rx := { s.port.rx with bits := 0 } }
  | .drain =>
    s.setPort { s.port with rx := { s.port.rx with got := s.port.rx.got ++ [b], bits := 0 } }

/-- SCK rises: SDI is sampled, most significant bit first (R164). -/
def State.sckRise (s : State) : State :=
  let rx := s.port.rx
  let b := (rx.shift <<< 1) ||| (BitVec.ofBool s.pins.sdi).setWidth 8
  let t := s.setPort { s.port with rx := { rx with shift := b, bits := rx.bits + 1 } }
  if rx.bits + 1 = 8 then t.byteIn b else t

/-- The byte that goes out next, at a byte's first falling edge (R164). -/
def SpiRx.load (rx : SpiRx) : SpiRx :=
  match rx.stage with
  | .idle | .command => rx
  | .operands => { rx with outByte := rx.replyCap.code }
  | .data => { rx with outByte := rx.out.headD 0, out := rx.out.tail }
  | .drain => { rx with outByte := 0 }

/-- SCK falls: SDO changes (R164). -/
def State.sckFall (s : State) : State :=
  let rx := if s.port.rx.bits = 0 then s.port.rx.load else s.port.rx
  s.setPort { s.port with rx := { rx with sdo := some (rx.outByte.getMsbD rx.bits) } }

/-- What the SPI pins do in one CLK period. -/
inductive PortEvent where
  | none
  | select
  | deselect
  | rise
  | fall
  deriving DecidableEq, Repr

/-- CSN's edges; SCK's while CSN is low and a transaction is open (R164). -/
def State.portEvent (s : State) (before : Pins) : PortEvent :=
  if before.csn = true ∧ s.pins.csn = false then .select
  else if before.csn = false ∧ s.pins.csn = true then .deselect
  else if s.pins.csn = true ∨ s.port.rx.stage = .idle then .none
  else if before.sck = false ∧ s.pins.sck = true then .rise
  else if before.sck = true ∧ s.pins.sck = false then .fall
  else .none

/-! ### One CLK period -/

/-- An event of one CLK period. -/
inductive TickEvent where
  | row (i : Instr)
  | line (e : LineEvent)
  | port (e : PortEvent)
  deriving DecidableEq, Repr

/-- The line's event: a restarted bit time, a value known, or a bit time's end and the edge that begins a candidate
OPEN (R2, R3, R6). DESIGN CHOICE (log 35): an edge that ends a bit time finds the Roll Tracker where that bit's end left
it, so that it begins a candidate OPEN where the bit took the tracker into IDLE. -/
def State.takeLine (s : State) (e : LineEvent) : State :=
  match e with
  | .quiet => s
  | .restart => s.fire .candidateOpen
  | .read v => s.readLine v
  | .close v unread edge =>
    let t := (if unread then s.readLine v else s).closeBit v
    if edge then t.fire .candidateOpen else t

/-- The port's event. -/
def State.takePort (s : State) (e : PortEvent) : State :=
  match e with
  | .none => s
  | .select => s.fire .statusCapture
  | .deselect => s.fire .csnRise
  | .rise => s.sckRise
  | .fall => s.sckFall

/-- The elapsed timer counts to a stagger, and the head whose stagger it so reaches is checked, as one event: a check
taken ahead of it finds the stagger not yet reached (R93, R96, R97). Where the timer has been set to 0 at this instant
it does not count. -/
def State.reachStagger (s : State) : State :=
  if s.staggerEnds then
    let t := s.setSeq { s.seq with elapsed := s.seq.elapsed + 1 }
    if t.stillDue .staggerReached then t.fire .staggerReached else t
  else s

/-- A time event is taken where it is still due. -/
def State.takeRow (s : State) (i : Instr) : State :=
  match i with
  | .staggerReached => s.reachStagger
  | i => if s.stillDue i then s.fire i else s

/-- An event is taken. -/
def State.takeEvent (s : State) (e : TickEvent) : State :=
  match e with
  | .row i => s.takeRow i
  | .line x => s.takeLine x
  | .port x => s.takePort x

/-- The events of one instant are taken one after the other, in a free order (log 6). -/
def State.takeEvents (s : State) (l : List TickEvent) : State :=
  inFreeOrder l.length (l.map fun e t => t.takeEvent e) s

/-- The line's event, where it can do something: a restart matters in IDLE alone (R3, R6). -/
def State.lineRows (s : State) (e : LineEvent) : List TickEvent :=
  match e with
  | .quiet => []
  | .restart => if s.roll.state = .idle then [.line .restart] else []
  | .read v => [.line (.read v)]
  | .close v unread edge => [.line (.close v unread edge)]

/-- The port's event, where there is one. -/
def portRows (e : PortEvent) : List TickEvent := if e = .none then [] else [.port e]

/-- One CLK period with RSTN high. -/
def State.clock1 (s : State) (before : Pins) : State :=
  let e := s.lineEvent before.shr
  let p := s.portEvent before
  let t := s.advanceBit e
  let m := t.timeBase
  m.2.takeEvents (s.lineRows e ++ portRows p ++ m.1.map .row)

/-- One CLK period (log 4): RSTN low holds the part in RESET (R139, R173; log 30). -/
def State.tick (s : State) : State :=
  let t := s.drawPins
  if t.pins.rstn then t.clock1 s.pins else t.fire .reset

end Sys2Proof.Machine
end

