-- ==== Sys2Proof/Safety.lean ====
section
/-! DEFINITION. What a safe run is: no load is on where the spec says outputs are off, and no command stops the
machine (R89, R99, R102). -/

namespace Sys2Proof.Machine

/-- Outputs are off while KILLN's latest sample is low or the station is not ACTIVE (R99, R102). -/
def State.outputsSafe (s : State) : Bool :=
  (s.isActive && !s.stn.killnLow) || decide (s.seq.latch = 0)

/-- A step that goes on and leaves the outputs safe. -/
def safeStep (s : State) : Bool :=
  match step s with
  | .next t => t.outputsSafe
  | .fault _ => false
  | .refused _ => false

end Sys2Proof.Machine
end

