-- ==== Sys2Proof/Certificates/Slice0/Obligations.lean ====
section
/-! DEFINITION. The statements for the provers. Each says what a command of the table, or every step, does by the
rules it cites. -/

open Sys2Proof Sys2Proof.Machine

namespace Sys2Proof.Machine

/-- What every departure from the line leaves behind, whatever its cause (R42, R63, R84, R87, R99, R105, R124, R129,
R143): the new state with nothing pending, no picture, no load, no output, SHD released; from ACTIVE with a roll in flight
the claim is abandoned and its bid dropped (that it is not touched without one is log 18); a send record not driven
whole is gone. -/
structure Departed (s t : State) (cause : ShedCause) (x : StationState) : Prop where
  state    : t.stn.state = x
  request  : t.stn.request = none
  busLoss  : t.stn.busLoss = none
  views    : ∀ r ∈ t.table.recs, r.view = .dead ∨ r.view = .unknown
  sets     : t.table.freeSet = [] ∧ t.table.driveSet = []
  windows  : t.table.recs.map UnitRec.window = s.table.recs.map UnitRec.window
  latch    : t.seq.latch = 0
  loads    : ∀ c, (t.chan c).state.holdsUnits = false
  causes   : ∀ c, (t.chan c).lastShed =
               if (s.chan c).state.holdsUnits then cause else (s.chan c).lastShed
  inputs   : ∀ c, (t.chan c).soft = (s.chan c).soft ∧ (t.chan c).park = (s.chan c).park ∧
               (t.chan c).level = (s.chan c).level
  line     : t.line.drive = none
  fences   : t.chans.fences = []
  slot     : t.notice.slot = none
  presence : t.notice.presence = false
  ring     : t.notice.ring = s.notice.ring
  claim    : s.stn.state = .active → s.roll.state ∈ [.inRoll, .trailing] →
               t.cont.bid = .nothing ∧ t.cont.outcome = .abandoned
  send     : ∀ r, t.notice.send = some r → r.driven = r.payload.length + 2

/-- SHED is set where a station-level shed finds a STARTING or ON channel and its cause sets it; the flags that were
set stay set (R83, R169). -/
def shedFlag (s : State) (cause : ShedCause) : Word :=
  if (∃ c, (s.chan c).state.holdsUnits = true) ∧ cause.setsShed = true then s.port.events ||| 0x0002
  else s.port.events

/-- The loss run, the conflict run and the last claim are as they were (R45, R63). -/
def RunsKept (s t : State) : Prop :=
  t.cont.lossRun = s.cont.lossRun ∧ t.cont.conflictRun = s.cont.conflictRun ∧ t.cont.last = s.cont.last

/-- t is s with the reply register, PORT_ERROR and the receive state written, and nothing else (R165, R166). -/
def RepliedOnly (s t : State) (r : Reply) : Prop :=
  t = { s with
    port := { s.port with
      reply := r
      events := if r.setsPortError then s.port.events ||| 0x1000 else s.port.events
      rx := t.port.rx } } ∧ t.port.rx.stage = .idle ∧ t.port.rx.sdo = none

/-- t is s with a read's bytes staged for SDO, and nothing else (R164 to R168). -/
def ReadOnly (s t : State) (out : List Byte) : Prop :=
  t = { s with port := { s.port with rx := t.port.rx } } ∧ t.port.rx.stage = .data ∧ t.port.rx.out = out

/-- The bytes of a transaction with nothing left over. -/
def whole (bytes : List Byte) : Operands := { bytes := bytes, tail := 0 }

/-- The phase event of position q comes next or later in a roll that is parsed (R9). -/
def InPhase (s : State) (q : Nat) : Prop :=
  s.roll.state = .inRoll ∧ s.roll.parsing = true ∧ s.roll.position < q

/-- Every unit's view becomes what f gives for its number and its view before; windows stay, and no record comes or
goes. -/
def ViewsBecome (s t : State) (f : Nat → View → View) : Prop :=
  ∀ k, t.table.recs[k]? = (s.table.recs[k]?).map fun r : UnitRec => { r with view := f k r.view }

/-- The view of a unit after a HOLD complete, by the table of R30. -/
def viewAfterHold (s : State) (units : List Nat) (k : Nat) (v : View) : View :=
  if v = .dead ∨ k ∈ s.table.driveSet ∨ v.held = true then v
  else if k ∈ units then .peer else .free

/-- The claim word as a number (R50). -/
def wordNumber (priority lossRun id : Nat) : Nat :=
  (3 - priority) * 256
    + (3 - (if lossRun = 0 then 0 else if lossRun ≤ 3 then 1 else if lossRun ≤ 15 then 2 else 3)) * 64 + id

/-- A notice end of this form comes now for a record with these characters, by the table of R130. -/
def NoticeDue (s : State) (form : NoticeForm) (chars : List RxChar) : Prop :=
  match form with
  | .complete => ∃ l, s.roll.header = some (.good l) ∧ chars.length = l + 2
  | .cut => s.roll.state = .inRoll ∧ s.roll.parsing = true ∧
      (s.roll.header = none ∨ ∃ l, s.roll.header = some (.good l) ∧ chars.length < l + 2)
  | .damaged => s.roll.state = .inRoll ∧ s.roll.parsing = true ∧ s.roll.header = some .damaged
  | .stuck => s.roll.state = .settling ∨ s.roll.state = .inRoll ∧ s.roll.parsing = true

/-- A roll end of this cause comes now (R12 to R14, R17). -/
def RollEndDue (s : State) (cause : RollEndCause) : Prop :=
  match cause with
  | .flag => s.roll.state = .inRoll ∧ s.roll.flag = some .recessive
  | .check => s.roll.state = .inRoll ∧ s.roll.flag = some .dominant
  | .trailing => s.roll.state = .trailing
  | .stuck => s.roll.state ∈ [.inRoll, .trailing] ∨ s.roll.endDue = true

/-- The validity that a roll end carries (R21). -/
def endsValid (s : State) (cause : RollEndCause) : Bool :=
  s.roll.valid && (decide (cause ≠ .stuck) || s.roll.flag.isSome)

/-- What every roll end leaves of the roll, whatever the station state (R5, R12 to R14, R17, R21, R130, R140): where the Roll
Tracker stands, the roll-valid flag settled and no roll end due, the silence timer at 0, the mark cleared, and no receive
record of a roll whose FLAG was not read dominant. A stuck line that has taken the Roll Tracker out of the roll before leaves
it where it stands (log 17). -/
structure RollEnded (s t : State) (cause : RollEndCause) (order : RollEndOrder) : Prop where
  idle     : cause = .flag ∨ cause = .check → t.roll.state = .idle ∧ t.roll.gap = 0
  trailing : cause = .trailing → t.roll.state = .idle ∧ t.roll.gap = 12
  stuck    : cause = .stuck → s.roll.state ∈ [.inRoll, .trailing] →
               t.roll.state = .settling ∧ t.roll.recessive = 0
  stays    : cause = .stuck → s.roll.state ∉ [.inRoll, .trailing] → t.roll.state = s.roll.state
  valid    : t.roll.valid = endsValid s cause
  done     : t.roll.endDue = false ∧ t.roll.parsing = false
  mark     : t.stn.countable = false
  silence  : t.stn.silence = 0
  noNotice : s.roll.flag ≠ some .dominant → t.notice.recv = none
  notice   : s.roll.flag = some .dominant → order ≠ .noticeBetween → t.notice.recv = s.notice.recv

/-- Fenced by R88. -/
def Fenced (s : State) (c : Chan) : Prop :=
  ∃ f ∈ s.chans.fences,
    s.port.image.priority c < f.priority ∧ f.mask &&& s.port.image.mask c ≠ 0

/-- Usable by R25. -/
def Usable (s : State) (c : Chan) (k : Nat) : Prop :=
  ∃ r w, s.table.recs[k]? = some r ∧ r.view ≠ .dead ∧ r.window = some w ∧
    (s.port.image.mask c).getLsbD w.val = true ∧ s.port.image.reserve w ≤ s.port.image.priority c

/-- The spares that a channel may use, lowest first, are l (R25, R40). -/
def SparesFor (s : State) (c : Chan) (l : List Nat) : Prop :=
  l.Pairwise (· < ·) ∧
    ∀ k, k ∈ l ↔ Usable s c k ∧ ∃ r, s.table.recs[k]? = some r ∧ r.view.isSpare = true

/-- The spares qualify this channel: it is not fenced, and its usable spares reach its weight (R81). -/
def SpareFits (s : State) (c : Chan) : Prop :=
  ¬ Fenced s c ∧ s.port.image.weight c ≤ (s.spareUsable c).length

/-- No queued channel can bid: each is fenced or not covered by the free set that HOLD complete left in t (R47). -/
def NoneCovered (s t : State) : Prop :=
  ∀ d ∈ s.chans.queue, Fenced s d ∨ (t.freeUsable d).length < s.port.image.weight d

/-- The pending notice in the order of R48, with its own priority, its header and payload (R120, R121, R174) and, for a
yield, its request. The bounds are those of the fields (R65, R105, R122). -/
def PendingIs (s : State) (n : NoticeSource) (p : Nat) (header : Byte) (payload : List Byte)
    (request : Option YieldReq) : Prop :=
  let m := s.port.image
  match n with
  | .presence =>
    s.notice.presence = true ∧ p = 0 ∧ request = none ∧ header = 0x03 ∧ (∀ w, m.reserve w ≤ 3) ∧
      payload = [BitVec.ofNat 8 m.units,
        BitVec.ofNat 8 ((allWins.map fun w => m.winFirst w + m.winLast w + m.reserve w).sum),
        BitVec.ofNat 8 (m.reserve 0 + 4 * m.reserve 1 + 16 * m.reserve 2 + 64 * m.reserve 3)]
  | .yieldSlot =>
    s.notice.presence = false ∧ ∃ q, s.notice.slot = some q ∧ request = some q ∧ p = q.priority ∧
      p ≤ 3 ∧ 1 ≤ q.wanted ∧ q.wanted ≤ 8 ∧ header = BitVec.ofNat 8 (0x21 + 8 * p) ∧
      payload = [BitVec.ofNat 8 (16 * (q.wanted - 1) + q.mask.toNat)]
  | .txHead =>
    s.notice.presence = false ∧ s.notice.slot = none ∧ request = none ∧
      ∃ u rest, s.notice.tx = u :: rest ∧ p = u.priority ∧ p ≤ 3 ∧ u.payload.length ≤ 6 ∧
        header = BitVec.ofNat 8 (0x40 + 8 * p + u.payload.length) ∧ payload = u.payload

/-- An OWN unit names a channel that holds units; a part of the invariant of UnitsMatchChannels. -/
def OwnersHold (s : State) : Prop :=
  ∀ r ∈ s.table.recs, ∀ c, r.view = .own c → (s.chan c).state.holdsUnits = true

/-- A unit of the channel is read dominant, and is none of the chosen ones. -/
def Hit (s : State) (units chosen : List Nat) (c : Chan) : Prop :=
  ∃ k ∈ units, k ∉ chosen ∧ ∃ r, s.table.recs[k]? = some r ∧ r.view = .own c

/-- What TAKE complete makes of the units outside the chosen ones when they are not this station's to bind (R26, R32 to
R34, R36, R82, R83): a unit read dominant is PEER but for a DEAD one; the other units of a channel with a unit so read
are RELEASING, and that channel is shed with cause OVERLAP; a SPARE is kept, or bound to a channel by the spare-binding
check of a shed that ends in WAITING; every other view stays. The chosen units are FREE. -/
structure PeerTaken (s t : State) (units chosen : List Nat) : Prop where
  views : ∀ k r, s.table.recs[k]? = some r → ∃ r', t.table.recs[k]? = some r' ∧ r'.window = r.window ∧
    (k ∈ chosen → r'.view = .free) ∧
    (k ∉ chosen → r.view = .dead → r'.view = .dead) ∧
    (k ∉ chosen → k ∈ units → r.view ≠ .dead → r'.view = .peer) ∧
    (k ∉ chosen → k ∉ units →
      (r.view.held = false → r'.view = r.view) ∧
      (∀ c, r.view = .own c → Hit s units chosen c → r'.view = .releasing) ∧
      (∀ c, r.view = .own c → ¬ Hit s units chosen c → r'.view = .own c) ∧
      (∀ n, r.view = .spare n → r'.view = .spare n ∨ ∃ c, r'.view = .own c))
  shed : ∀ c, Hit s units chosen c → (t.chan c).lastShed = .overlap ∧
    (∀ m n, (s.chan c).state = .on m n → (t.chan c).offSince = some 0 ∧
      (0 < s.port.image.minOffUs c → (t.chan c).state = .cooldown))
  kept : ∀ c, ¬ Hit s units chosen c → (s.chan c).state.isWaiting = false →
    (s.chan c).state ≠ .starting → t.chan c = s.chan c
  events : (t.port.events.getLsbD 2 = true ↔ s.port.events.getLsbD 2 = true ∨
      ∃ k ∈ units, k ∉ chosen ∧ ∃ r, s.table.recs[k]? = some r ∧ r.view.held = true) ∧
    (t.port.events.getLsbD 1 = true ↔
      s.port.events.getLsbD 1 = true ∨ ∃ c, Hit s units chosen c)
  quiet : (∀ c, ¬ Hit s units chosen c) → t.chans = s.chans ∧ t.seq.startList = s.seq.startList ∧
    t.seq.latch &&& s.seq.latch = t.seq.latch ∧
    ViewsBecome s t fun k v =>
      if k ∈ chosen then .free else if v = .dead then .dead else if k ∈ units then .peer else v

/-- The slot's request has lost its requester, where that was this channel (R109). -/
def withoutRequester (c : Chan) (x : Option YieldReq) : Option YieldReq :=
  x.map fun q => if q.requester = some c then { q with requester := none } else q

/-- A channel that a received yield may shed (R114): its priority is below the yield's, its mask shares a window with
the yield's, and it is STARTING, or ON with min on elapsed and no stop pending. -/
def Candidate (s : State) (priority : Nat) (mask : BitVec 4) (c : Chan) : Prop :=
  s.port.image.priority c < priority ∧ s.port.image.mask c &&& mask ≠ 0 ∧
    match (s.chan c).state with
    | .starting => True
    | .on false n => s.port.image.minOnUs c ≤ n
    | _ => False

/-- The on-since timer of an ON channel. -/
def onSince (s : State) (c : Chan) : Nat :=
  match (s.chan c).state with
  | .on _ n => n
  | _ => 0

/-- The order in which candidates are shed (R115): STARTING ones first; lower priority first; then, STARTING, nearest the
back of the start list, or, ON, the smaller on-since timer and after it the higher number. -/
abbrev ShedBefore (s : State) (c d : Chan) : Prop :=
  if (s.chan c).state = .starting then
    (s.chan d).state ≠ .starting ∨ s.port.image.priority c < s.port.image.priority d ∨
      s.port.image.priority c = s.port.image.priority d ∧
        s.seq.startList.idxOf d < s.seq.startList.idxOf c
  else
    (s.chan d).state ≠ .starting ∧ (s.port.image.priority c < s.port.image.priority d ∨
      s.port.image.priority c = s.port.image.priority d ∧
        (onSince s c < onSince s d ∨ onSince s c = onSince s d ∧ d < c))

/-- The weights of some channels together. -/
def weights (s : State) (l : List Chan) : Nat := (l.map s.port.image.weight).sum

/-- The unit lies in the window by R24: the lowest-numbered window that is on and contains it. -/
abbrev Decodes (m : Image) (k : Nat) (w : Win) : Prop :=
  m.winFirst w ≤ k ∧ k ≤ m.winLast w ∧ ∀ v < w, ¬ (m.winFirst v ≤ k ∧ k ≤ m.winLast v)

/-- The check of LOCK that belongs to index i fails, by the table of R162. -/
def LockCheckFails (m : Image) (i : Nat) : Prop :=
  (i = 0x00 ∧ 62 < m.stationId) ∨ (i = 0x01 ∧ 4 < m.bitTime) ∨
  (i = 0x02 ∧ m.units ∉ [8, 16, 24, 32, 40, 48, 56, 64]) ∨
  (∃ w : Win, i = 4 + 3 * w.val ∧ m.winFirst w ≤ m.winLast w ∧ m.units ≤ m.winLast w) ∨
  (i = 0x0E ∧ ∀ w, m.winLast w < m.winFirst w) ∨
  (i = 0x0F ∧ 8 < m.spareMax) ∨
  (i = 0x11 ∧ (m.item 17) * 10000 < 4 * (116 + 2 * m.units) * [5, 10, 20, 50, 100].getD m.bitTime 100) ∨
  (∃ c : Chan, i = 0x21 + 9 * c.val ∧ m.enabled c = true ∧
    ((List.range m.units).countP fun k =>
      allWins.any fun w => decide (Decodes m k w) && (m.mask c).getLsbD w.val &&
        decide (m.reserve w ≤ m.priority c)) < m.weight c)

/-- A number as one byte of a record. -/
def byteOf (n : Nat) : Byte := BitVec.ofNat 8 n

/-- Left-over time in steps, rounded up (R174). -/
def stepsLeft (step t : Nat) : Byte := byteOf ((t + step - 1) / step)

/-- The station state codes of R174. -/
def stateNumber : StationState → Nat
  | .config => 0 | .joining => 1 | .active => 2 | .quiet => 3 | .left => 4 | .halted => 5 | .faulted => 6

/-- The channel state codes of R174. -/
def channelNumber : ChState → Nat
  | .off => 0 | .waiting _ _ => 1 | .starting => 2 | .on _ _ => 3 | .cooldown => 4 | .parked => 5 | .disabled => 6

/-- The shed cause codes of R174. -/
def causeNumber : ShedCause → Nat
  | .none => 0 | .overlap => 1 | .yield => 2 | .busLoss => 3 | .stuck => 4 | .drive => 5 | .clash => 6 | .kill => 7
  | .leave => 8 | .quiet => 9 | .park => 10 | .reset => 11

/-- The reply codes of R174. -/
def replyNumber : Reply → Nat
  | .accepted => 0 | .state => 1 | .range => 2 | .busy => 3 | .full => 4 | .empty => 5 | .count => 6 | .unknown => 7
  | .lockFailed i => 0x80 + i

/-- A last claim's byte of the station record: the outcome code, and the bit at which it was lost (R174). -/
def claimNumber : ClaimOutcome → Nat
  | .noBid => 0x00 | .bidding => 0x00 | .lost j => 0x10 + j % 16 | .won => 0x20 | .noWinner => 0x30
  | .abandoned => 0x40

/-- A channel's entry time, as the model's stamp (log 16). -/
def entryStamp (s : State) (c : Chan) : Nat :=
  match (s.chan c).state with
  | .waiting e _ => e
  | _ => 0

/-- Where a new WAITING channel stands (R80): after every entry of equal or higher priority, before every entry of
lower. -/
def Inserted (s : State) (c : Chan) (q : List Chan) : Prop :=
  ∃ front back, s.chans.queue = front ++ back ∧ q = front ++ c :: back ∧
    (∀ d, front.getLast? = some d → s.port.image.priority c ≤ s.port.image.priority d) ∧
    (∀ d, back.head? = some d → s.port.image.priority d < s.port.image.priority c)

/-- Effective demand of a channel record, by R69 and the codes of R160: enabled, not parked, and the source's input set. -/
def Demands (m : Image) (c : Chan) (r : ChannelRec) : Prop :=
  m.field c 0 ≠ 0 ∧ r.park = false ∧
    (m.field c 7 ∈ [0, 2] ∧ r.level = true ∨ m.field c 7 ∈ [1, 2] ∧ r.soft = true)

/-- What one channel's event leaves alone when it touches that channel's record and nothing else. -/
def OthersStay (s t : State) (c : Chan) : Prop :=
  t.table = s.table ∧ t.chans.queue = s.chans.queue ∧ (∀ d, d ≠ c → t.chan d = s.chan d) ∧
  t.seq.startList = s.seq.startList ∧ t.seq.elapsed = s.seq.elapsed ∧
  (s.stn.state = .active → s.stn.killnLow = false → t.seq = s.seq)

/-- An entry to WAITING (R72, R80, R81), where the spares fitted no queued channel before: outside ACTIVE, and in ACTIVE
where they do not fit this channel either, it stands in the queue with its full wait timer, if it has one; in ACTIVE,
where they fit it, the lowest of them are bound to it, exactly its weight, and it is STARTING, or ON by its append. -/
structure EntersWaiting (s t : State) (c : Chan) : Prop where
  queued : (s.stn.state = .active → ¬ SpareFits s c ∧ ∀ d ∈ s.chans.queue, ¬ SpareFits s d) →
    (∃ e, (t.chan c).state = .waiting e
      (if 1 ≤ s.port.image.priority c ∧ 0 < s.port.image.waitToYieldUs c
        then some (s.port.image.waitToYieldUs c) else none)) ∧
    Inserted s c t.chans.queue ∧ t.table = s.table ∧ ∀ d, d ≠ c → t.chan d = s.chan d
  bound : s.stn.state = .active → SpareFits s c → (∀ d ∈ s.chans.queue, ¬ SpareFits s d) →
    t.chans.queue = s.chans.queue.filter (· ≠ c) ∧
    ((t.chan c).state = .starting ∨ (t.chan c).state = .on false 0) ∧
    (ViewsBecome s t fun k v =>
      if k ∈ (s.spareUsable c).take (s.port.image.weight c) then .own c else v) ∧
    ∀ d, d ≠ c → s.seq.startList.head? ≠ some d → t.chan d = s.chan d

/-- What a channel does when one of its demand inputs is written and its record becomes r (R69). Effective demand that
stays is no event. Demand that appears takes OFF to WAITING (R71), clears the stop-pending mark (R75), and is kept in
every other state. Demand that disappears takes WAITING to OFF (R73), stops STARTING with its off-since timer as it was
(R74), and stops ON once min on has elapsed (R75, R76), before that setting the mark alone; in every other state it
changes nothing. -/
structure DemandTaken (s t : State) (c : Chan) (r : ChannelRec) : Prop where
  same : (Demands s.port.image c (s.chan c) ↔ Demands s.port.image c r) → t.chan c = r ∧ OthersStay s t c
  appears : ¬ Demands s.port.image c (s.chan c) → Demands s.port.image c r →
    ((s.chan c).state = .off → EntersWaiting s t c) ∧
    (∀ n, (s.chan c).state = .on true n → t.chan c = { r with state := .on false n } ∧ OthersStay s t c) ∧
    ((s.chan c).state ≠ .off → (∀ n, (s.chan c).state ≠ .on true n) → t.chan c = r ∧ OthersStay s t c)
  waiting : Demands s.port.image c (s.chan c) → ¬ Demands s.port.image c r →
    ∀ e w, (s.chan c).state = .waiting e w →
      t.chan c = { r with state := .off } ∧ t.chans.queue = s.chans.queue.filter (· ≠ c) ∧
      t.notice.slot = withoutRequester c s.notice.slot ∧ t.table = s.table ∧
      ∀ d, d ≠ c → t.chan d = s.chan d
  starting : Demands s.port.image c (s.chan c) → ¬ Demands s.port.image c r → (s.chan c).state = .starting →
    t.chan c = { r with state := .off } ∧ c ∉ t.seq.startList ∧
    (∀ x ∈ t.table.recs, x.view ≠ .own c) ∧ t.chans.queue = s.chans.queue
  on : Demands s.port.image c (s.chan c) → ¬ Demands s.port.image c r → ∀ m n, (s.chan c).state = .on m n →
    (s.port.image.minOnUs c ≤ n →
      t.chan c = { r with
        state := if 0 < s.port.image.minOffUs c then .cooldown else .off, offSince := some 0 } ∧
      t.seq.latch.getLsbD c.val = false ∧ (∀ x ∈ t.table.recs, x.view ≠ .own c) ∧
      t.chans.queue = s.chans.queue ∧ t.seq.startList = s.seq.startList ∧ t.seq.elapsed = s.seq.elapsed ∧
      ∀ d, d ≠ c → t.chan d = s.chan d) ∧
    (n < s.port.image.minOnUs c → t.chan c = { r with state := .on true n } ∧ OthersStay s t c)
  other : Demands s.port.image c (s.chan c) → ¬ Demands s.port.image c r →
    (s.chan c).state ∈ [.off, .cooldown, .parked, .disabled] → t.chan c = r ∧ OthersStay s t c

/-- The image holds this byte at this index, by the index table of R160. -/
def Holds (m : Image) (index : Nat) (b : Byte) : Prop :=
  (∃ i : Fin 21, index = i.val ∧ m.items[i] = b) ∨
    ∃ (c : Chan) (f : Fin 9), index = 0x20 + 9 * c.val + f.val ∧ m.channels[c][f] = b

/-- The index names an item and the value lies in its write range (R160, R161). -/
def Writable (index value : Nat) : Prop :=
  (index ∈ [0x00, 0x01, 0x02, 0x0F, 0x10] ∧ value ≤ 255) ∨
  (index ∈ [0x03, 0x04, 0x06, 0x07, 0x09, 0x0A, 0x0C, 0x0D] ∧ value ≤ 63) ∨
  (index ∈ [0x05, 0x08, 0x0B, 0x0E] ∧ value ≤ 3) ∨
  (index ∈ [0x11, 0x12] ∧ 1 ≤ value ∧ value ≤ 255) ∨
  (index = 0x13 ∧ 1 ≤ value ∧ value ≤ 16) ∨ (index = 0x14 ∧ value ≤ 15) ∨
  ∃ n < 8,
    (index = 0x20 + 9 * n ∧ value ≤ 1) ∨ (index = 0x21 + 9 * n ∧ 1 ≤ value ∧ value ≤ 8) ∨
    (index = 0x22 + 9 * n ∧ 1 ≤ value ∧ value ≤ 15) ∨ (index = 0x23 + 9 * n ∧ value ≤ 3) ∨
    (index ∈ [0x24 + 9 * n, 0x25 + 9 * n, 0x28 + 9 * n] ∧ value ≤ 255) ∨
    (index = 0x26 + 9 * n ∧ 1 ≤ value ∧ value ≤ 255) ∨ (index = 0x27 + 9 * n ∧ value ≤ 2)

/-- The view codes of R174. -/
def viewNumber : View → Nat
  | .dead => 0 | .unknown => 1 | .free => 2 | .peer => 3 | .own _ => 4 | .spare _ => 5 | .releasing => 6

/-- The incident cause codes of R174. -/
def incidentNumber : IncidentCause → Nat
  | .drive => 1 | .clash => 2 | .busLoss => 3 | .stuck => 4 | .kill => 5

/-- t is s with a read's refusal staged for SDO and PORT_ERROR set, and nothing else (R166). -/
def ReadRefused (s t : State) (reply : Byte) : Prop :=
  t = { s with port := { s.port with events := s.port.events ||| 0x1000, rx := t.port.rx } } ∧
    t.port.rx.stage = .data ∧ t.port.rx.out = [reply]

/-- The line does nothing of note in this CLK period: no bit time is counted, or the period is no sample point, no bit
boundary and no edge (R2, R3). -/
def LineStill (s : State) (p : Pins) : Prop :=
  let n := 4 * [5, 10, 20, 50, 100].getD s.port.image.bitTime 100
  let q := s.line.phase + 1
  s.roll.state = .off ∨
    q < n ∧ 5 * q ≠ 2 * n ∧ 2 * q ≠ n ∧ 5 * q ≠ 3 * n ∧ ¬ (s.pins.shr = .recessive ∧ p.shr = .dominant)

/-- The state one CLK period on, with these pins, where neither the line nor the port nor the 1 us time base does
anything. -/
def afterPeriod (s : State) (p : Pins) (rest : List Pins) : State :=
  { s with
    pins := p
    inputs := rest
    clock := { s.clock with sub := s.clock.sub + 1 }
    line := if s.roll.state = .off then s.line else { s.line with phase := s.line.phase + 1 } }

/-- A channel's timers and its demand filter one microsecond on: the wait timer counts down in ACTIVE alone (R77), the
on-since and off-since timers count up to 255 s (R75, R79), and the filter samples its pin once a millisecond (R67). -/
def channelCounted (s : State) (p : Pins) (c : Chan) : ChannelRec :=
  let r := s.chan c
  { r with
    state :=
      match r.state with
      | .waiting e w => .waiting e (if s.stn.state = .active then w.map (· - 1) else w)
      | .on m n => .on m (min 255000000 (n + 1))
      | x => x
    offSince := r.offSince.map fun n => min 255000000 (n + 1)
    run :=
      if s.clock.ms + 1 = 1000 then (if p.dem.getLsbD c.val = r.level then 0 else r.run + 1) else r.run }

/-- The state of a locked station one microsecond on, with these pins: every timer has counted one, and nothing that ends
with it has been taken yet (R2, R39, R67, R75, R77, R79, R87, R92, R106, R154). -/
def afterMicrosecond (s : State) (p : Pins) (rest : List Pins) : State :=
  { afterPeriod s p rest with
    clock := { sub := 0, ms := if s.clock.ms + 1 = 1000 then 0 else s.clock.ms + 1 }
    stn := { s.stn with busLoss := s.stn.busLoss.map (· - 1) }
    seq := { s.seq with elapsed := min 2550000 (s.seq.elapsed + 1) }
    notice := { s.notice with holdoff := s.notice.holdoff - 1 }
    table := { s.table with
      recs := s.table.recs.map fun r =>
        match r.view with
        | .spare n => { r with view := .spare (n - 1) }
        | _ => r }
    chans := { s.chans with
      recs := Vector.ofFn (channelCounted s p)
      fences := s.chans.fences.map fun f => { f with left := f.left - 1 } } }

/-- KILLN's sample differs from the one before (R100). -/
def KillnMoves (s : State) (p : Pins) (i : Instr) : Prop :=
  i = .killnLow ∧ p.killn = false ∧ s.stn.killnLow = false ∨
    i = .killnHigh ∧ p.killn = true ∧ s.stn.killnLow = true

/-- What ends, or is seen, with this microsecond of a locked station: a timer at its end (R39, R75, R77, R78, R87, R106,
R154), the elapsed timer at some channel's stagger (R93, R97), filters whose run has reached FILTER + 1 (R67), a change of KILLN (R100). -/
def EndsNow (s : State) (p : Pins) (i : Instr) : Prop :=
  match i with
  | .busLossExpiry => ∃ n ≤ 1, s.stn.busLoss = some n
  | .staggerReached => ∃ c : Chan, s.seq.elapsed + 1 = s.port.image.staggerUs c
  | .lingerExpiry k => ∃ r n, s.table.recs[k]? = some r ∧ r.view = .spare n ∧ n ≤ 1
  | .waitTimerExpiry c => s.stn.state = .active ∧ (∀ q, s.notice.slot = some q → q.requester ≠ some c) ∧
      ∃ e n, (s.chan c).state = .waiting e (some n) ∧ n ≤ 1
  | .minOnExpiry c => ∃ m n, (s.chan c).state = .on m n ∧ n + 1 = s.port.image.minOnUs c
  | .minOffExpiry c => (s.chan c).state = .cooldown ∧
      ∃ n, (s.chan c).offSince = some n ∧ s.port.image.minOffUs c ≤ n + 1
  | .fenceExpiry x => ∃ f ∈ s.chans.fences, f.sender = x ∧ f.left ≤ 1
  | .yieldHoldoffExpiry => s.notice.holdoff = 1
  | .filteredLevelChange pins => s.clock.ms + 1 = 1000 ∧ pins ≠ 0 ∧
      ∀ c : Chan, pins.getLsbD c.val = true ↔ s.port.image.filter < (channelCounted s p c).run
  | .killnLow | .killnHigh => KillnMoves s p i
  | _ => False

/-- The command list of R174: code, command, operand count (SEND's without its payload), and whether it is a read. -/
def commandList : List (Byte × Command × Nat × Bool) :=
  [(0x10, .cfgWrite, 2, false), (0x11, .cfgRead, 1, true), (0x12, .lock, 0, false), (0x20, .demandSet, 1, false),
   (0x21, .demandClear, 1, false), (0x22, .park, 1, false), (0x23, .unpark, 1, false)] ++
  [(0x30, .send, 2, false), (0x31, .yield, 3, false), (0x32, .pop, 0, true), (0x40, .readUnit, 1, true),
   (0x41, .readChannel, 1, true), (0x42, .readQueue, 0, true), (0x43, .readStation, 0, true),
   (0x44, .readIncident, 0, true)] ++
  [(0x50, .readEvents, 0, true), (0x51, .clearEvents, 2, false), (0x52, .setEnables, 2, false), (0x60, .join, 0, false),
   (0x61, .leave, 0, false), (0x62, .quiet, 0, false), (0x63, .clearFault, 0, false), (0x64, .softReset, 0, false)]

/-- How many operand bytes the command takes after these; SEND's second byte settles its count (R164). -/
def OperandsOf (k : Command) (bytes : List Byte) (n : Nat) : Prop :=
  ∃ e ∈ commandList, e.2.1 = k ∧
    n = e.2.2.1 + (if k = .send then (match bytes[1]? with
      | some l => if l.toNat ≤ 6 then l.toNat else 0
      | none => 0) else 0)

/-- The byte that SDO shows next, at a byte's first falling edge: the status byte in COMMAND, the captured reply in
OPERANDS, the data in DATA, 00h past it and in DRAIN (R164). -/
def nextOut (x : SpiRx) : Byte :=
  if x.bits ≠ 0 then x.outByte
  else
    match x.stage with
    | .idle | .command => x.outByte
    | .operands => byteOf (replyNumber x.replyCap)
    | .data => x.out.headD 0
    | .drain => 0

/-- The lock flag is set in every state but CONFIG (R139, R163). -/
def LockFlag (s : State) : Prop := s.port.locked = true ↔ s.stn.state ≠ .config

/-- The three positions without a flag read 0 in both words (R169, R170, R174). -/
def FlaglessClear (s : State) : Prop := s.port.events &&& 0xE000 = 0 ∧ s.port.enables &&& 0xE000 = 0

/-- No incident is recorded in CONFIG, HALTED or FAULTED (R158). -/
def IncidentStates (s : State) : Prop :=
  ∀ i, s.stn.incident = some i → i.state ∈ [.joining, .active, .quiet, .left]

/-- Loads and station: while KILLN is low the station is in none of JOINING, ACTIVE, QUIET and LEFT, and it is low in
HALTED (R149, R150); a channel is STARTING or ON in ACTIVE alone (R89); an output is on exactly while its channel is ON
(R94, R98, R99, R102). -/
def LoadsMatch (s : State) : Prop :=
  (s.stn.state ∈ [.joining, .active, .quiet, .left] → s.stn.killnLow = false) ∧
  (s.stn.state = .halted → s.stn.killnLow = true) ∧
  (∀ c, (s.chan c).state.holdsUnits = true → s.stn.state = .active) ∧
  (∀ c, s.outHigh c = true ↔ (s.chan c).state.isOn = true)

/-- What sets the open-wish flag in ACTIVE: a unit OWN or SPARE, a channel WAITING, or a notice pending (R15). -/
def Wishes (s : State) : Prop :=
  (∃ r ∈ s.table.recs, r.view.held = true) ∨ (∃ c, (s.chan c).state.isWaiting = true) ∨
    s.notice.presence = true ∨ s.notice.slot ≠ none ∨ s.notice.tx ≠ []

/-- The running condition of the bus-loss timer: ACTIVE with a unit OWN or SPARE or a channel ON (R154). -/
def BusLossRuns (s : State) : Prop :=
  s.stn.state = .active ∧
    ((∃ r ∈ s.table.recs, r.view.held = true) ∨ ∃ c, (s.chan c).state.isOn = true)

/-- BUS_LOSS × 10 ms, in us (R154, R160). -/
def busLossSpan (s : State) : Nat := s.port.image.item 17 * 10000

/-- In ACTIVE the open-wish flag is set exactly when the conditions of R15 say so; the bus-loss timer runs exactly under
its running condition (R154). -/
def ConditionsHold (s : State) : Prop :=
  (s.stn.state = .active → (s.roll.openWish = true ↔ Wishes s)) ∧
  (s.stn.busLoss ≠ none ↔ BusLossRuns s)

/-- The stores and counts stay in their bounds (R45, R87, R122, R134, R138), the fence list holds one entry a sender
(R87), and the yield slot is filled in ACTIVE alone (R105, R119). -/
def StoresBounded (s : State) : Prop :=
  s.notice.tx.length ≤ 4 ∧ s.notice.ring.length ≤ 16 ∧ s.chans.fences.length ≤ 4 ∧
  (s.chans.fences.map Fence.sender).Nodup ∧ (s.stn.state ≠ .active → s.notice.slot = none) ∧
  s.cont.lossRun ≤ 255 ∧ s.cont.conflictRun ≤ 3 ∧ s.stn.joinCount ≤ 2 ∧
  (s.stn.state = .joining → s.stn.joinCount ≤ 1) ∧ s.stn.silence ≤ 512

/-- The demand queue holds each WAITING channel once and no other, highest priority first and, within one priority, the
earliest entry first; the start list holds each STARTING channel once and no other; in CONFIG every channel is DISABLED
(R70, R80, R91). -/
def QueuesMatchStates (s : State) : Prop :=
  s.chans.queue.Nodup ∧ (∀ c, c ∈ s.chans.queue ↔ (s.chan c).state.isWaiting = true) ∧
  s.chans.queue.Pairwise (fun c d => s.port.image.priority d ≤ s.port.image.priority c ∧
    (s.port.image.priority d = s.port.image.priority c → entryStamp s c < entryStamp s d)) ∧
  (∀ c ∈ s.chans.queue, entryStamp s c < s.chans.entries) ∧
  s.seq.startList.Nodup ∧ (∀ c, c ∈ s.seq.startList ↔ (s.chan c).state = .starting) ∧
  (s.stn.state = .config → ∀ c, (s.chan c).state = .disabled)

/-- The Unit Table and the channels agree: a channel has exactly its weight of OWN units while it is STARTING or ON and
none otherwise (R27, R66, R70); no more spares than SPARE_MAX (R38), and none in CONFIG, where no roll is followed (R4,
R43); the units chosen for a bid not yet taken are its channel's weight in number, all different, all in the table and
none of them held (R49, R56). -/
def UnitsMatch (s : State) : Prop :=
  (∀ c, (s.table.recs.countP fun r => r.view == .own c) =
    if (s.chan c).state.holdsUnits then s.port.image.weight c else 0) ∧
  (s.table.recs.countP fun r => r.view.isSpare) ≤ s.port.image.spareMax ∧
  (s.stn.state = .config → s.roll.state = .off ∧ ∀ r ∈ s.table.recs, r.view.isSpare = false) ∧
  (s.roll.state = .inRoll → s.roll.position < 2 * s.numUnits + 10 →
    match s.cont.bid with
    | .channel c chosen _ _ _ =>
      chosen.Nodup ∧ chosen.length = s.port.image.weight c ∧
        ∀ k ∈ chosen, ∃ r ∈ s.table.recs[k]?, r.view.held = false
    | _ => True)

/-! ### One bit, from its samples to the next bit's drive -/

/-- CLK periods of a bit time (R2). -/
def bitLength (s : State) : Nat := 4 * [5, 10, 20, 50, 100].getD s.port.image.bitTime 100

/-- One CLK period on an empty queue in which the line alone can do something: these pins, RSTN high, CSN high and steady,
no microsecond, and a station after LOCK. -/
def LinePeriod (s : State) (p : Pins) (rest : List Pins) : Prop :=
  s.pending = [] ∧ s.inputs = p :: rest ∧ p.rstn = true ∧ p.csn = true ∧ s.pins.csn = true ∧
    s.clock.sub + 1 ≠ 4 ∧ s.roll.state ≠ .off

/-- A recessive-to-dominant edge of SHR (R3). -/
abbrev Edge (s : State) (p : Pins) : Prop := s.pins.shr = .recessive ∧ p.shr = .dominant

/-- The majority of the samples taken; two that disagree read recessive (R2, R3). -/
def bitValue (samples : List Level) : Level :=
  if samples.length < 2 * samples.count .dominant then .dominant else .recessive

/-- A new bit time begins with this CLK period (R3). -/
def bitBegun (s : State) (p : Pins) (rest : List Pins) : State :=
  { afterPeriod s p rest with line := { s.line with phase := 0, samples := [] } }

/-- The report of a bit driven d and read v, by the table of R18, with the phase and the position of R19: outside a roll
in flight it is the OPEN pulse that is driven, and dominant alone. -/
def reportOf (s : State) (d v : Level) : Option Instr :=
  let u := s.numUnits
  let q := s.roll.position + 1
  if d = v then none
  else if s.roll.state ≠ .inRoll then (if d = .dominant then some (.driveReport .openPulse 0) else none)
  else if d = .dominant then
    some (.driveReport (if q ≤ u then .hold else if q ≤ u + 10 then .claim else if q ≤ 2 * u + 10 then .take
      else if q = 2 * u + 11 then .flag else .notice) q)
  else if q ≤ u then none
  else if q ≤ u + 10 then some (.arbitrationLost (q - u - 1))
  else some (.conflict (if q ≤ 2 * u + 10 then .take else if q = 2 * u + 11 then .flag else .notice))

/-- This dominant bit time is the one numbered 2U + 33 of its run, or a later one, and the report is armed (R17). -/
abbrev StuckBit (s : State) (v : Level) : Prop :=
  v = .dominant ∧ 2 * s.numUnits + 32 < s.line.domRun + 1 ∧ s.line.stuckArmed = true

/-- A bit's value v becomes known in s: what was driven is compared with it and the report of R18 taken, and then the stuck
line of R17, with the notice end and the roll end of a roll in flight in any order (log 6, log 26). -/
def ReadsBit (s : State) (v : Level) (t : State) : Prop :=
  let r0 := { s with line := { s.line with value := v } }
  ∃ r, (match s.line.drive.bind fun d => reportOf s d v with
      | none => r = r0
      | some i => exec i r0 = .next r) ∧
    (¬ StuckBit r v → t = r) ∧
    (StuckBit r v → r.roll.state ∉ [.inRoll, .trailing] → exec .stuckLine r = .next t) ∧
    (StuckBit r v → r.roll.state ∈ [.inRoll, .trailing] →
      t.roll.state = .settling ∧ t.roll.recessive = 0 ∧ t.roll.endDue = false ∧ t.line.stuckArmed = false ∧
        t.line.drive = none ∧ t.stn.countable = false ∧
        (r.stn.state ≠ .config → t.port.events.getLsbD 6 = true))

/-- The roll end of a cause is taken; with a request pending, in an order that is free (R117, R145, log 6). -/
def RollEnds (s : State) (cause : RollEndCause) (t : State) : Prop :=
  (s.stn.request = none → exec (.rollEnd cause .checkFirst) s = .next t) ∧
  (s.stn.request ≠ none → ∃ order, exec (.rollEnd cause order) { s with free := s.free + 1 } = .next t)

/-- The bit of a position that is not the last of its phase takes the Roll Tracker one further; the last one's event is
taken as its own row, but for a roll whose parsing has ended (R9, R17, R19). -/
def PhaseBit (s : State) (last : Nat) (i : Instr) (t : State) : Prop :=
  if s.roll.position + 1 = last ∧ s.roll.parsing = true then exec i s = .next t
  else t = { s with roll := { s.roll with position := s.roll.position + 1 } }

/-- The end of character i's stop bit, with the eleven bits as read (R11 to R13): the byte, the framing flag and the marker
flag of R11 go with NOTICE_CHARACTER; a roll that is not parsed any more has its header read all the same (R19). The check
character of a good header ends notice and roll, either first (R12, log 6, log 37). -/
def CharacterEnds (s : State) (i : Nat) (bits : List Level) (t : State) : Prop :=
  ∃ (b : Byte) (f : State),
    let framing := decide (bits[10]? = some .dominant)
    let marker := decide (bits[9]? = some (if i = 0 then .dominant else .recessive))
    let good := framing = false ∧ marker = false ∧ (b &&& 7 : Byte).toNat ≤ 6
    (∀ k < 8, b.getLsbD k = true ↔ bits[k + 1]? = some .recessive) ∧
    (if s.roll.parsing = true then exec (.noticeCharacter i b framing marker) s = .next f
      else f = { s with roll := { s.roll with
        position := 2 * s.numUnits + 22 + 11 * i
        header := if i = 0 then some (if good then .good (b &&& 7 : Byte).toNat else .damaged) else s.roll.header
        charBits := [] } }) ∧
    ((∀ l, f.roll.header = some (.good l) → i ≠ l + 1) → t = f) ∧
    (∀ l, f.roll.header = some (.good l) → i = l + 1 →
      (f.roll.parsing = false → RollEnds f .check t) ∧
      (f.roll.parsing = true →
        (∃ g, exec (.noticeEnd .complete) { f with free := f.free + 1 } = .next g ∧ RollEnds g .check t) ∨
        (∃ g, RollEnds { f with free := f.free + 1 } .check g ∧ exec (.noticeEnd .complete) g = .next t)))

/-- Bit n of NOTICE, read v (R11 to R13): a start bit read dominant begins a character; read recessive it ends the notice,
cut or after a damaged header, and takes the Roll Tracker to TRAILING with its first recessive bit time; data, marker and
stop bit are kept. -/
def NoticeBit (s : State) (n : Nat) (v : Level) (t : State) : Prop :=
  (n % 11 = 0 → v = .dominant →
    t = { s with roll := { s.roll with position := s.roll.position + 1, charBits := [v] } }) ∧
  (n % 11 = 0 → v = .recessive → ∃ f,
    (if s.roll.parsing = true then
        exec (.noticeEnd (if s.roll.header = some .damaged then .damaged else .cut)) s = .next f
      else f = s) ∧ t = { f with roll := { f.roll with state := .trailing, recessive := 1 } }) ∧
  (0 < n % 11 → n % 11 < 10 →
    t = { s with roll := { s.roll with
      position := s.roll.position + 1, charBits := s.roll.charBits ++ [v] } }) ∧
  (n % 11 = 10 → CharacterEnds s (n / 11) (s.roll.charBits ++ [v]) t)

/-- One position of a roll in IN ROLL, by the table of R9: the slots read dominant and the claim bits are kept and go with
HOLD complete, claim resolved and TAKE complete; FLAG read recessive ends the roll (R14). -/
def RollBit (s : State) (v : Level) (t : State) : Prop :=
  let u := s.numUnits
  let q := s.roll.position + 1
  let slot := fun k => if v = Level.dominant then [k] else []
  (q ≤ u →
    let held := s.roll.holdRead ++ slot (q - 1)
    PhaseBit { s with roll := { s.roll with holdRead := held } } u (.holdComplete held) t) ∧
  (u < q → q ≤ u + 10 →
    let word := BitVec.ofNat 10 (2 * s.roll.claimRead.toNat + if v = .recessive then 1 else 0)
    PhaseBit { s with roll := { s.roll with claimRead := word } } (u + 10) (.claimResolved word) t) ∧
  (u + 10 < q → q ≤ 2 * u + 10 →
    let taken := s.roll.takeRead ++ slot (q - u - 11)
    PhaseBit { s with roll := { s.roll with takeRead := taken } } (2 * u + 10) (.takeComplete taken) t) ∧
  (q = 2 * u + 11 → ∃ f,
    (if s.roll.parsing = true then exec (.flagReading v) s = .next f
      else f = { s with roll := { s.roll with position := q, flag := some v } }) ∧
    (v = .dominant → t = f) ∧ (v = .recessive → RollEnds f .flag t)) ∧
  (2 * u + 12 ≤ q → NoticeBit s (q - (2 * u + 12)) v t)

/-- The Roll Tracker's step at a bit time read v, after a dominant run of `run` bit times (R4 to R9, R13): 12 recessive bit
times end SETTLING and TRAILING; in IDLE the gap count goes on to 12; in OPENING a run of 0 to 2 is noise, one of 3 to 6 an
OPEN, and the 7th dominant bit time makes it malformed. That a run of 7 or more that ends in OPENING is malformed too is log
40. -/
def TrackerBit (s : State) (run : Nat) (v : Level) (t : State) : Prop :=
  match s.roll.state, v with
  | .off, _ => t = s
  | .settling, .dominant => t = { s with roll := { s.roll with recessive := 0 } }
  | .settling, .recessive =>
    let r := { s with roll := { s.roll with recessive := s.roll.recessive + 1 } }
    if r.roll.recessive < 12 then t = r else exec .settlingEnd r = .next t
  | .idle, .dominant => t = { s with roll := { s.roll with gap := 0 } }
  | .idle, .recessive => t = { s with roll := { s.roll with gap := min 12 (s.roll.gap + 1) } }
  | .opening, .dominant =>
    let r := { s with roll := { s.roll with gap := 0 } }
    if run + 1 < 7 then t = r else exec .malformedOpen r = .next t
  | .opening, .recessive =>
    exec (if run ≤ 2 then .openNoise run else if run ≤ 6 then .rollStart else .malformedOpen) s = .next t
  | .inRoll, v => RollBit s v t
  | .trailing, .dominant => t = { s with roll := { s.roll with recessive := 0 } }
  | .trailing, .recessive =>
    let r := { s with roll := { s.roll with recessive := s.roll.recessive + 1 } }
    if r.roll.recessive < 12 then t = r else RollEnds r .trailing t

/-- The counts at the end of a bit time read v: the dominant run (R17), the silence timer, and in JOINING the wish that its
512th bit time raises (R5, R141). -/
def bitCounted (s : State) (v : Level) : State :=
  { s with
    line := { s.line with domRun := if v = .dominant then s.line.domRun + 1 else 0 }
    stn := { s.stn with silence := if v = .dominant then 0 else min 512 (s.stn.silence + 1) }
    roll := { s.roll with
      openWish := s.roll.openWish ||
        decide (v = .recessive ∧ s.stn.silence = 511 ∧ s.stn.state = .joining) } }

/-- What the next bit time is driven with: an OPEN pulse begun, gone on with or merged (R16), else what the owner of its
phase gives (R10). -/
def NextBit (s t : State) : Prop :=
  ∃ w, exec .openRoll { s with roll := { s.roll with openLeft := s.roll.openLeft - 1 } } = .next w ∧
    t = { w with line := { w.line with
      drive := if 0 < w.roll.openLeft ∧ w.stn.state ∈ [.active, .joining] then some .dominant
        else w.driveAt (w.roll.position + 1) } }

end Sys2Proof.Machine

/-! ### The step and the queue -/

/-- The step on a command at the front of the queue is its meaning on the queue's rest. -/
def Obligations.StepTakesFrontCommand : Prop :=
  ∀ (c : Instr) (rest : List Instr) (s : State),
    s.pending = c :: rest → step s = exec c (s.setPending rest)

/-- Nothing stops the station: every command answers a next state and leaves the queue of waiting commands alone, and on
an empty queue the step, one CLK period, does too (log 4, the model's choice). -/
def Obligations.EveryStepAnswersNext : Prop :=
  ∀ s : State,
    (∀ c : Instr, ∃ t, exec c s = .next t ∧ t.pending = s.pending) ∧
    (s.pending = [] → ∃ t, step s = .next t ∧ t.pending = [])

/-! ### Resets -/

/-- The values the spec gives for POR, block by block, the whole configuration image among them (R4, R43, R45, R90, R104,
R137, R138, R160, R173). POR and RESET
put every block at them, whatever went before; POR empties the incident record and RESET keeps it (R139, R159). What lies
outside the part's resets stays (log 8), and the working registers for which the spec gives no value take those of log 10:
both are the model's choice. -/
def Obligations.PorAndResetLeaveSpecValues : Prop :=
  (∀ s, s = State.reset →
    s.stn.state = .config ∧ s.stn.request = none ∧ s.stn.joinCount = 0 ∧ s.stn.countable = false ∧
    s.stn.busLoss = none ∧ s.stn.incident = none ∧
    s.roll.state = .off ∧ s.roll.openWish = false ∧ s.roll.valid = false ∧ s.roll.gap = 0 ∧
    s.line.drive = none ∧ s.line.stuckArmed = true ∧
    s.table.recs = List.replicate 64 { view := .unknown, window := none } ∧ s.table.driveSet = [] ∧
    s.table.freeSet = [] ∧ s.table.skewMark = false ∧
    s.cont.lossRun = 0 ∧ s.cont.conflictRun = 0 ∧ s.cont.last = { outcome := .noBid, word := 0 } ∧
    (∀ c, (s.chan c).state = .disabled ∧ (s.chan c).offSince = none ∧ (s.chan c).lastShed = .none ∧
      (s.chan c).soft = false ∧ (s.chan c).park = false ∧ (s.chan c).level = false ∧ (s.chan c).run = 0) ∧
    s.chans.queue = [] ∧ s.chans.fences = [] ∧
    s.seq.startList = [] ∧ s.seq.elapsed = 0 ∧ s.seq.latch = 0 ∧
    s.notice.presence = false ∧ s.notice.slot = none ∧ s.notice.holdoff = 0 ∧ s.notice.tx = [] ∧
    s.notice.send = none ∧ s.notice.recv = none ∧ s.notice.ring = [] ∧
    s.port.locked = false ∧ s.port.events = 0 ∧ s.port.enables = 0 ∧ s.port.reply = .accepted ∧
    s.port.rx.stage = .idle ∧ s.port.rx.sdo = none ∧
    s.port.image.items.toList =
      [63, 1, 16, 0, 15, 0, 1, 0, 0, 1, 0, 0, 1, 0, 0, 0, 0, 20, 10, 1, 2] ∧
    ∀ c : Chan, s.port.image.channels[c].toList = [0, 1, 1, 0, 0, 0, 1, 0, 0]) ∧
  (∀ s : State, ∃ t u, exec .por s = .next t ∧ exec .reset s = .next u ∧
      t.stn.incident = none ∧ u.stn.incident = s.stn.incident ∧
      u = { t with stn := { t.stn with incident := s.stn.incident } } ∧
      t = { State.reset with
        stn := { State.reset.stn with killnLow := s.stn.killnLow }
        clock := s.clock, pins := s.pins, inputs := s.inputs, free := s.free, pending := s.pending })

/-! ### KILLN -/

/-- KILLN low halts a station in JOINING, ACTIVE, QUIET or LEFT with a KILL shed, the drop and an incident record; the
elapsed timer and the runs stay, and a send record driven whole is kept for its roll end (R63, R100, R112, R143, R149,
R158). In CONFIG, HALTED and FAULTED it changes neither the state nor the incident record; the outputs are held clear (R99,
R101). KILLN high takes HALTED to JOINING with join count 0 and no mark, and changes no other state (R150). -/
def Obligations.KillnEdgesByState : Prop :=
  ∀ s : State,
    (s.stn.state ∈ [.joining, .active, .quiet, .left] →
      ∃ t, exec .killnLow s = .next t ∧ Departed s t .kill .halted ∧ t.stn.killnLow = true ∧
        t.stn.incident = some { cause := .kill, state := s.stn.state, channel := none } ∧
        t.port.events = shedFlag s .kill ∧ t.seq.elapsed = s.seq.elapsed ∧ t.port.image = s.port.image ∧
        RunsKept s t ∧
        (∀ r, s.notice.send = some r → r.driven = r.payload.length + 2 → t.notice.send = some r)) ∧
    (s.stn.state ∈ [.config, .halted, .faulted] →
      ∃ t, exec .killnLow s = .next t ∧ t.stn.state = s.stn.state ∧ t.stn.incident = s.stn.incident ∧
        t.stn.killnLow = true ∧ t.seq.latch = 0 ∧ t.table = s.table ∧ t.chans = s.chans ∧
        t.notice = s.notice ∧ t.port = s.port ∧ t.cont = s.cont) ∧
    (∃ t, exec .killnHigh s = .next t ∧ t.stn.killnLow = false ∧ t.stn.incident = s.stn.incident ∧
      t.table = s.table ∧ t.chans = s.chans ∧ t.notice = s.notice ∧ t.port = s.port ∧ t.cont = s.cont ∧
      (s.stn.state ≠ .halted → t.stn.state = s.stn.state) ∧
      (s.stn.state = .halted →
        t.stn.state = .joining ∧ t.stn.joinCount = 0 ∧ t.stn.countable = false ∧ t.seq.latch = 0 ∧
        (t.roll.openWish = true ↔ 512 ≤ s.stn.silence)))

/-! ### The line outside a roll -/

/-- The line between rolls. The 12th recessive bit time of SETTLING: IDLE with the gap count at 12, the stuck-line report
armed again (R4, R5, R17). An edge in IDLE begins a candidate OPEN at a new bit boundary; a run of 0 to 2 ends it as noise
with the gap count of R6; a run of 7 is a malformed OPEN: SETTLING, SHD released, the join count 0 in JOINING (R3, R6, R8,
R140). The silence timer's expiry raises the open-wish flag in JOINING alone (R15, R141). A station that wants to open
drives dominant for 4 bit times from IDLE at gap 12, or merges into a run below 4 for the rest of the 4 (R16). None of
them touches more. Two
values are the model's, not a rule's: that the first edge, noise and a malformed OPEN clear the mark of a DRIVE report in
OPEN (openFault := false: log 29, DEDUCED), and that the expiry taken as a command first brings the timer to its end
(silence := 512: log 3, DESIGN CHOICE). -/
def Obligations.LineBetweenRolls : Prop :=
  ∀ s : State,
    (s.roll.state = .settling →
      exec .settlingEnd s = .next { s with
        roll := { s.roll with state := .idle, gap := 12, recessive := 0 }
        line := { s.line with stuckArmed := true } }) ∧
    (s.roll.state = .idle →
      exec .candidateOpen s = .next { s with
        roll := { s.roll with state := .opening, openFault := false }
        line := { s.line with phase := 0, samples := [] } }) ∧
    (s.roll.state = .opening → ∀ run, run ≤ 2 →
      exec (.openNoise run) s = .next { s with
        roll := { s.roll with
          state := .idle
          gap := if run = 0 then min 12 (s.roll.gap + 1) else 1
          openFault := false } }) ∧
    (s.roll.state = .opening →
      exec .malformedOpen s = .next { s with
        roll := { s.roll with state := .settling, recessive := 0, openLeft := 0, openFault := false }
        line := { s.line with drive := none }
        stn := { s.stn with joinCount := if s.stn.state = .joining then 0 else s.stn.joinCount } }) ∧
    (s.roll.state ≠ .off →
      exec .silenceTimerExpiry s = .next { s with
        stn := { s.stn with silence := 512 }
        roll := { s.roll with openWish := if s.stn.state = .joining then true else s.roll.openWish } }) ∧
    (s.stn.state ∈ [.active, .joining] → s.roll.openWish = true → s.roll.openLeft = 0 →
      (s.roll.state = .idle ∧ s.roll.gap = 12 →
        exec .openRoll s = .next { s with
          roll := { s.roll with openLeft := 4 }, line := { s.line with drive := some .dominant } }) ∧
      (s.roll.state = .opening ∧ s.line.domRun < 4 →
        exec .openRoll s = .next { s with
          roll := { s.roll with openLeft := 4 - s.line.domRun }
          line := { s.line with drive := some .dominant } }))

/-- The stuck line, by station state: ACTIVE departs to JOINING with cause STUCK and an incident record; JOINING and
QUIET set the join count to 0; LEFT, HALTED and FAULTED change nothing else. In every case STUCK is set, the report is
disarmed and the Roll Tracker is in SETTLING (R17, R156). That the roll end of a roll in flight is then due, as a command
of its own (endDue), is the model's choice of log 17. -/
def Obligations.StuckLineByStationState : Prop :=
  ∀ s : State, s.roll.state ≠ .off → s.line.stuckArmed = true → s.stn.state ≠ .config →
    ∃ t, exec .stuckLine s = .next t ∧ t.line.stuckArmed = false ∧ t.roll.state = .settling ∧
      t.roll.recessive = 0 ∧ t.line.drive = none ∧ t.port.events.getLsbD 6 = true ∧
      (s.stn.state = .active →
        Departed s t .stuck .joining ∧ t.stn.joinCount = 0 ∧
        t.stn.incident = some { cause := .stuck, state := .active, channel := none } ∧
        t.port.events = shedFlag s .stuck ||| 0x0040 ∧ RunsKept s t) ∧
      (s.stn.state ≠ .active →
        t.stn.state = s.stn.state ∧ t.stn.incident = s.stn.incident ∧ t.table = s.table ∧
        t.chans = s.chans ∧ t.notice = s.notice ∧ t.cont = s.cont ∧
        t.port.events = s.port.events ||| 0x0040 ∧
        t.stn.joinCount = if s.stn.state ∈ [.joining, .quiet] then 0 else s.stn.joinCount) ∧
      (s.roll.state ∈ [.inRoll, .trailing] → t.roll.endDue = true ∧
        t.roll.valid = (s.roll.valid && s.roll.flag.isSome))

/-! ### Bit by bit -/

/-- What the station gives to drive, position by position (R10). Where it does not take part, nothing; in HOLD dominant
for the drive set (R29); in CLAIM the bits of its word while it is bidding, and no bit after it has lost (R52); the winner
alone in TAKE its chosen units (R56), in FLAG whether a notice follows (R57), and in NOTICE the bits of the header, the
payload and the check (R11, R126). -/
def Obligations.DriveFollowsPhaseOwner : Prop :=
  ∀ s : State,
    let u := s.numUnits
    let level := fun (b : Bool) => some (if b then Level.dominant else Level.recessive)
    (s.stn.state ≠ .active ∨ s.cont.conflictMark = true ∨ s.roll.parsing = false ∨ s.roll.state ≠ .inRoll →
      ∀ q, s.driveAt q = none) ∧
    s.driveAt 0 = none ∧
    (s.stn.state = .active → s.cont.conflictMark = false → s.roll.parsing = true → s.roll.state = .inRoll →
      (∀ k < u, s.driveAt (1 + k) = level (decide (k ∈ s.table.driveSet))) ∧
      (∀ j < 10,
        (∀ w, s.cont.outcome = .bidding → s.cont.bid.word = some w →
          s.driveAt (u + 1 + j) = level (!w.getLsbD (9 - j))) ∧
        (s.cont.outcome ≠ .bidding → s.driveAt (u + 1 + j) = none)) ∧
      (s.cont.outcome ≠ .won → ∀ q, u + 10 < q → s.driveAt q = none) ∧
      (s.cont.outcome = .won →
        (∀ c chosen a p w, s.cont.bid = .channel c chosen a p w →
          (∀ k < u, s.driveAt (u + 11 + k) = level (decide (k ∈ chosen))) ∧
          s.driveAt (2 * u + 11) = level a.isSome) ∧
        (∀ n p w, s.cont.bid = .notice n p w →
          (∀ k < u, s.driveAt (u + 11 + k) = level false) ∧ s.driveAt (2 * u + 11) = level true) ∧
        (∀ (r : SendRecord) (i b : Nat), s.notice.send = some r → b < 11 →
          s.driveAt (2 * u + 12 + 11 * i + b) =
            (((r.header :: r.payload) ++ [r.check])[i]?).bind fun x =>
              level (if b = 0 then true
                else if b ≤ 8 then !x.getLsbD (b - 1)
                else if b = 9 then decide (i ≠ 0)
                else false)) ∧
        (s.notice.send = none → ∀ q, 2 * u + 11 < q → s.driveAt q = none)))

/-- The line in one CLK period in which nothing else falls due. An edge before the 50 % point restarts the bit time, and in
IDLE begins a candidate OPEN (R3, R6); the points at 40 and 50 % are sampled; at 60 %, the third, the bit's value is known,
the one that at least two samples read (R2), and what was driven is compared with it: a mismatch gives the report of R18,
with phase and position, and the dominant bit time numbered 2U + 33 is a stuck line (R17). In a roll, at the end of a bit
inside HOLD, CLAIM and TAKE, the Roll Tracker is one position further and the next bit is driven as the owner of its phase
gives it (R9, R10). That a step on an empty queue is one CLK period is the model's choice (log 4); that the Roll Tracker and
the dominant run go on at the bit's end, and a stuck line is taken after the report, is its inference (log 7, log 26). -/
def Obligations.BitTimeReadsAndDrives : Prop :=
  ∀ (s : State) (p : Pins) (rest : List Pins), LinePeriod s p rest →
    let n := bitLength s
    let q := s.line.phase + 1
    let sampled := { afterPeriod s p rest with
      line := { s.line with phase := q, samples := s.line.samples ++ [p.shr] } }
    (q < n → Edge s p → 2 * q < n →
      step s = if s.roll.state = .idle then exec .candidateOpen (bitBegun s p rest)
        else .next (bitBegun s p rest)) ∧
    (q < n → ¬ Edge s p → 5 * q ≠ 3 * n →
      step s = .next (if 5 * q = 2 * n ∨ 2 * q = n then sampled else afterPeriod s p rest)) ∧
    (q < n → ¬ Edge s p → 5 * q = 3 * n →
      ∃ t, step s = .next t ∧ ReadsBit sampled (bitValue (s.line.samples ++ [p.shr])) t) ∧
    (s.roll.state = .inRoll → q = n → s.line.samples.length = 3 → s.roll.openLeft = 0 →
      s.roll.position + 1 < 2 * s.numUnits + 10 → s.roll.position + 1 ≠ s.numUnits →
      s.roll.position + 1 ≠ s.numUnits + 10 → ¬ Edge s p →
      ∃ t, step s = .next t ∧ t.roll.state = .inRoll ∧ t.roll.position = s.roll.position + 1 ∧
        t.line.phase = 0 ∧ t.line.samples = [] ∧ t.line.drive = s.driveAt (s.roll.position + 2) ∧
        t.line.domRun = (if s.line.value = .dominant then s.line.domRun + 1 else 0) ∧
        t.table = s.table ∧ t.cont = s.cont ∧ t.chans = s.chans ∧ t.notice = s.notice)

/-- The end of a bit time, in every state of the Roll Tracker and at every position of a roll: at its full length, or at an
edge from the 50 % point on, which begins a candidate OPEN where the Roll Tracker then stands in IDLE (R3, R6). A bit that
ends before its third sample is read by its end. The dominant run and the silence timer count, the Roll Tracker takes the
step of its state, by its thresholds and with the command they choose (R4 to R9, R11 to R14, R17), and the next bit time is
driven (R10, R16). That all this comes at the bit's end, and in this order, is the model's inference (log 7, log 26, log 28);
that the edge comes after it is log 35; that an edge comes with its CLK period is log 4. -/
def Obligations.BitEndStepsRollTracker : Prop :=
  ∀ (s : State) (p : Pins) (rest : List Pins), LinePeriod s p rest →
    (bitLength s ≤ s.line.phase + 1 ∨ Edge s p ∧ bitLength s ≤ 2 * (s.line.phase + 1)) →
    ∃ (v : Level) (r u w t : State),
      (if s.line.samples.length < 3 then v = bitValue s.line.samples ∧ ReadsBit (bitBegun s p rest) v r
        else v = s.line.value ∧ r = bitBegun s p rest) ∧
      TrackerBit (bitCounted r v) r.line.domRun v u ∧ NextBit u w ∧
      (if Edge s p then exec .candidateOpen w = .next t else t = w) ∧ step s = .next t

/-! ### A roll: start, HOLD, CLAIM -/

/-- The roll start: IN ROLL at position 0, valid unless its OPEN carried a DRIVE report, with nothing of the roll before
left: no slot and no claim bit read, no FLAG, no header. The drive set is latched from the OWN and SPARE units, the bid, the
send record and the skew mark are cleared, a receive record is opened, the silence timer restarts. In JOINING the open-wish
flag is cleared and the countable mark set; in ACTIVE the flag stands as its conditions say (R7, R9, R15, R21, R26, R29,
R45, R130, R140, R141). That the OPEN's own mark is cleared here is log 29's inference. -/
def Obligations.RollStartLatchesDriveSet : Prop :=
  ∀ s : State, s.roll.state = .opening →
    ∃ t, exec .rollStart s = .next t ∧
      t.roll = { s.roll with
        state := .inRoll, position := 0, valid := !s.roll.openFault, parsing := true, openLeft := 0
        openFault := false, holdRead := [], claimRead := 0, takeRead := [], flag := none, header := none
        charBits := [], endDue := false, openWish := t.roll.openWish } ∧
      (s.stn.state = .active → (t.roll.openWish = true ↔ Wishes s)) ∧
      (s.stn.state ≠ .active → t.roll.openWish = false) ∧
      t.line = { s.line with drive := none } ∧
      t.table.recs = s.table.recs ∧ t.table.freeSet = s.table.freeSet ∧ t.table.skewMark = false ∧
      (∀ k, k ∈ t.table.driveSet ↔ ∃ r, s.table.recs[k]? = some r ∧ r.view.held = true) ∧
      t.cont = { s.cont with bid := .nothing, outcome := .noBid, conflictMark := false } ∧
      t.notice = { s.notice with send := none, recv := some { sender := none, chars := [] } } ∧
      t.stn.silence = 0 ∧ t.stn.state = s.stn.state ∧ t.stn.request = s.stn.request ∧
      t.stn.joinCount = s.stn.joinCount ∧ t.stn.incident = s.stn.incident ∧
      t.stn.countable = (s.stn.countable || decide (s.stn.state = .joining)) ∧
      t.chans = s.chans ∧ t.port = s.port

/-- HOLD complete updates every view by the table of R30 and records the free set of R31; a DEAD unit read dominant
sets SKEW once a roll (R26, R28). Channels, outputs and the notice queues are untouched. In CONFIG, LEFT, HALTED and
FAULTED the Unit Table takes no reading (R28). -/
def Obligations.HoldCompleteUpdatesViews : Prop :=
  ∀ (s : State) (units : List Nat), InPhase s s.numUnits →
    (s.listens = true →
      ∃ t, exec (.holdComplete units) s = .next t ∧
        ViewsBecome s t (fun k v => viewAfterHold s units k v) ∧
        (∀ k, k ∈ t.table.freeSet ↔
          ∃ r, s.table.recs[k]? = some r ∧ r.view ≠ .dead ∧ r.view.held = false ∧
            k ∉ s.table.driveSet ∧ k ∉ units) ∧
        t.table.driveSet = s.table.driveSet ∧
        (t.port.events = if s.table.skewMark = false ∧
            (∃ k ∈ units, ∃ r, s.table.recs[k]? = some r ∧ r.view = .dead)
          then s.port.events ||| 0x0080 else s.port.events) ∧
        t.chans = s.chans ∧ t.seq.startList = s.seq.startList ∧ t.seq.elapsed = s.seq.elapsed ∧
        t.seq.latch &&& s.seq.latch = t.seq.latch ∧
        (s.stn.state = .active → s.stn.killnLow = false → t.seq.latch = s.seq.latch) ∧
        t.notice.ring = s.notice.ring ∧ t.notice.tx = s.notice.tx ∧ t.notice.slot = s.notice.slot ∧
        t.stn.state = s.stn.state) ∧
    (s.stn.state ∈ [.config, .left, .halted, .faulted] →
      ∃ t, exec (.holdComplete units) s = .next t ∧ t.table = s.table ∧ t.chans = s.chans ∧
        t.port = s.port ∧ t.stn.state = s.stn.state)

/-- The channel bid is the first channel of the queue that is not fenced and that the free set covers; the units chosen
are its lowest usable free ones, as many as its weight; the word is R50's, and the pending notice rides along (R46 to
R51). -/
def Obligations.HoldCompleteFormsChannelBid : Prop :=
  ∀ (s t : State) (units : List Nat) (front back : List Chan) (c : Chan),
    InPhase s s.numUnits → s.stn.state = .active → s.stn.request = none → s.stn.killnLow = false →
    s.cont.outcome = .noBid → s.port.image.priority c ≤ 3 → s.port.image.stationId ≤ 62 →
    exec (.holdComplete units) s = .next t →
    s.chans.queue = front ++ c :: back →
    (∀ d ∈ front, Fenced s d ∨ (t.freeUsable d).length < s.port.image.weight d) →
    ¬ Fenced s c → s.port.image.weight c ≤ (t.freeUsable c).length →
    t.cont.outcome = .bidding ∧ (t.freeUsable c).Pairwise (· < ·) ∧
    (∀ k, k ∈ t.freeUsable c ↔ Usable t c k ∧ k ∈ t.table.freeSet) ∧
    ∃ word, t.cont.bid =
        .channel c ((t.freeUsable c).take (s.port.image.weight c)) s.pendingNotice
          (s.port.image.priority c) word ∧
      word.toNat = wordNumber (s.port.image.priority c) s.cont.lossRun s.port.image.stationId ∧
      t.notice.send = s.pendingNotice.bind s.fixNotice

/-- Where no queued channel can bid, the pending notice forms a notice bid: presence before the yield request before the
transmit queue's head, each at its own priority, with the word of R50 and the characters fixed, whose eight-bit sum with
the check is FFh (R48, R50, R111, R120, R121, R125). With no notice either there is no bid; nor is there one outside
ACTIVE, with a request pending or with KILLN low (R46, R48). -/
def Obligations.HoldCompleteFormsNoticeBid : Prop :=
  ∀ (s : State) (units : List Nat), InPhase s s.numUnits → s.cont.outcome = .noBid →
    ∃ t, exec (.holdComplete units) s = .next t ∧
      (∀ n p header payload request, s.stn.state = .active → s.stn.request = none → s.stn.killnLow = false →
        s.port.image.stationId ≤ 62 → NoneCovered s t → PendingIs s n p header payload request →
        t.cont.outcome = .bidding ∧ t.cont.lossRun = s.cont.lossRun ∧
        (∃ word : BitVec 10, t.cont.bid = .notice n p word ∧
          word.toNat = wordNumber p s.cont.lossRun s.port.image.stationId) ∧
        ∃ check, ((header :: payload) ++ [check]).foldl (· + ·) 0 = 0xFF ∧
          t.notice = { s.notice with
            send := some { source := n, header := header, payload := payload, check := check, driven := 0
                           request := request } }) ∧
      (s.stn.state ≠ .active ∨ s.stn.request ≠ none ∨ s.stn.killnLow = true ∨
          NoneCovered s t ∧ s.notice.presence = false ∧ s.notice.slot = none ∧ s.notice.tx = [] →
        t.cont = { s.cont with bid := .nothing } ∧ t.notice = { s.notice with send := none })

/-- Readings inside a roll. A bidder that loses at bit j records it and gives no more claim bits (R18, R52). The FLAG
reading is kept (R9). A received character joins the receive record, and character 0 settles what the header said (R11,
R12, R130); of a notice this station drives, one more counts as driven (R125). Nothing else changes. -/
def Obligations.RollReadingsAreKept : Prop :=
  ∀ s : State,
    (∀ j, InPhase s (s.numUnits + 10) → s.cont.outcome = .bidding →
      exec (.arbitrationLost j) s = .next { s with
        cont := { s.cont with outcome := .lost j }, line := { s.line with drive := none } }) ∧
    (∀ v, InPhase s (2 * s.numUnits + 11) →
      exec (.flagReading v) s = .next { s with
        roll := { s.roll with position := 2 * s.numUnits + 11, flag := some v } }) ∧
    (∀ (i : Nat) (b : Byte) (framing marker : Bool) (r : RecvRecord),
      InPhase s (2 * s.numUnits + 22 + 11 * i) → s.roll.flag = some .dominant →
      s.notice.recv = some r →
      (i = 0 ∧ s.roll.header = none ∨ 1 ≤ i ∧ s.roll.header = some .damaged ∨
        1 ≤ i ∧ ∃ l, s.roll.header = some (.good l) ∧ i < l + 2) →
      exec (.noticeCharacter i b framing marker) s = .next { s with
        roll := { s.roll with
          position := 2 * s.numUnits + 22 + 11 * i
          header :=
            if i = 0 then
              some (if framing = false ∧ marker = false ∧ (b &&& 7).toNat ≤ 6
                then .good (b &&& 7).toNat else .damaged)
            else s.roll.header
          charBits := [] }
        notice := { s.notice with
          recv := some { r with
            chars := r.chars ++ [{ data := b, framing := framing, marker := marker }] }
          send :=
            if s.stn.state = .active ∧ s.cont.conflictMark = false ∧ s.cont.outcome = .won then
              s.notice.send.map fun x => { x with driven := min (x.payload.length + 2) (x.driven + 1) }
            else s.notice.send } })

/-- Claim resolved in ACTIVE: a bidder whose word was read has won and its loss run is 0; a station that lost at bit j
counts one more loss, up to 255, and gives up its send record; a station without a bid has loss run 0. The last claim is
written, and the sender recorded. Outside ACTIVE, and for an abandoned claim, the loss run stays, and the abandoned
outcome is the last claim's (R45, R51, R53, R63, R125, R130). -/
def Obligations.ClaimResolvedSettlesClaim : Prop :=
  ∀ (s : State) (word : BitVec 10) (r : RecvRecord), InPhase s (s.numUnits + 10) → s.notice.recv = some r →
    (∀ c chosen a p, s.stn.state = .active → s.cont.bid = .channel c chosen a p word →
      s.cont.outcome = .bidding →
      ∃ t, exec (.claimResolved word) s = .next t ∧ t.cont.outcome = .won ∧ t.cont.lossRun = 0 ∧
        t.cont.last = { outcome := .won, word := word } ∧ t.cont.bid = s.cont.bid ∧
        t.notice.send = s.notice.send ∧ t.notice.recv = some { r with sender := some (word.setWidth 6) } ∧
        t.stn.state = .active ∧ t.table = s.table ∧ t.chans = s.chans) ∧
    (∀ n p, s.stn.state = .active → s.cont.bid = .notice n p word → s.cont.outcome = .bidding →
      ∃ t, exec (.claimResolved word) s = .next t ∧ t.cont.outcome = .won ∧ t.cont.lossRun = 0 ∧
        t.cont.last = { outcome := .won, word := word } ∧ t.cont.bid = s.cont.bid ∧
        t.notice.send = s.notice.send ∧ t.notice.recv = some { r with sender := some (word.setWidth 6) } ∧
        t.stn.state = .active ∧ t.table = s.table ∧ t.chans = s.chans) ∧
    (∀ j, s.stn.state = .active → s.cont.outcome = .lost j → word.setWidth 6 ≠ s.ownId →
      ∃ t, exec (.claimResolved word) s = .next t ∧ t.cont.outcome = .lost j ∧
        t.cont.lossRun = min 255 (s.cont.lossRun + 1) ∧
        t.cont.last = { outcome := .lost j, word := word } ∧ t.notice.send = none ∧
        t.notice.recv = some { r with sender := some (word.setWidth 6) } ∧ t.stn.state = .active ∧
        t.table = s.table ∧ t.chans = s.chans) ∧
    (s.stn.state = .active → s.cont.outcome = .noBid → word.setWidth 6 ≠ s.ownId →
      ∃ t, exec (.claimResolved word) s = .next t ∧ t.cont.lossRun = 0 ∧
        t.cont.outcome = (if word.setWidth 6 = (63 : BitVec 6) then .noWinner else .noBid) ∧
        t.cont.last = { outcome := t.cont.outcome, word := word } ∧
        t.notice.recv = some { r with sender := some (word.setWidth 6) } ∧ t.notice.send = none ∧
        t.stn.state = .active ∧ t.table = s.table ∧ t.chans = s.chans) ∧
    (s.stn.state ≠ .active ∨ s.cont.outcome = .abandoned →
      ∃ t, exec (.claimResolved word) s = .next t ∧ t.cont.lossRun = s.cont.lossRun ∧
        t.notice.recv = some { r with sender := some (word.setWidth 6) } ∧
        (s.cont.outcome = .abandoned → t.cont.last = { outcome := .abandoned, word := word }))

/-- A winning word with this station's ID that it did not win faults it with CLASH in JOINING, ACTIVE and QUIET, while
the Roll Tracker follows the roll; reading the word it sent, or another station's ID, raises no clash, and LEFT, HALTED
and FAULTED make no check (R54, R143, R152, R158). -/
def Obligations.ClaimWithOwnIdFaultsClash : Prop :=
  ∀ (s : State) (word : BitVec 10), InPhase s (s.numUnits + 10) →
    (s.stn.state ∈ [.joining, .active, .quiet] → word.setWidth 6 = s.ownId → s.cont.outcome ≠ .bidding →
      ∃ t, exec (.claimResolved word) s = .next t ∧ Departed s t .clash .faulted ∧
        t.stn.incident = some { cause := .clash, state := s.stn.state, channel := none } ∧
        t.port.events = shedFlag s .clash ||| 0x0010 ∧
        t.roll.state = .inRoll ∧ t.roll.parsing = true ∧ t.roll.position = s.numUnits + 10) ∧
    (word.setWidth 6 ≠ s.ownId ∨ s.stn.state ∉ [.joining, .active, .quiet] ∨
        s.stn.state = .active ∧ s.cont.outcome = .bidding ∧ s.cont.bid.word = some word →
      ∃ t, exec (.claimResolved word) s = .next t ∧ t.stn.state = s.stn.state ∧
        t.stn.incident = s.stn.incident ∧ t.port = s.port)

/-! ### A roll: TAKE, FLAG, reports -/

/-- A winner without conflict whose bid channel still waits binds the chosen units to it: OWN for the channel, which
leaves the queue for the start list (that it still waits is read from its state at TAKE complete: log 32); the head turns
on at that append where its stagger has passed, be it this channel or one before it, and else the channel is STARTING
(R35, R58, R74, R91, R93, R94, R97). A yield request of the channel loses its requester (R109). -/
def Obligations.TakeCompleteBindsWinner : Prop :=
  ∀ (s : State) (units chosen : List Nat) (c : Chan) (a : Option NoticeSource) (p : Nat)
      (word : BitVec 10) (e : Nat) (w : Option Nat),
    InPhase s (2 * s.numUnits + 10) → s.stn.state = .active → s.cont.outcome = .won →
    s.cont.conflictMark = false → s.cont.bid = .channel c chosen a p word →
    (s.chan c).state = .waiting e w →
    ∃ t, exec (.takeComplete units) s = .next t ∧
      ViewsBecome s t (fun k v => if k ∈ chosen then .own c else v) ∧
      t.chans.queue = s.chans.queue.filter (· ≠ c) ∧
      (s.seq.elapsed < s.port.image.staggerUs (s.seq.startList.headD c) ∨ s.stn.killnLow = true →
        (t.chan c).state = .starting ∧ t.seq.startList = s.seq.startList ++ [c] ∧
        t.seq.elapsed = s.seq.elapsed) ∧
      (s.port.image.staggerUs (s.seq.startList.headD c) ≤ s.seq.elapsed → s.stn.killnLow = false →
        (t.chan (s.seq.startList.headD c)).state = .on false 0 ∧
        t.seq = { startList := (s.seq.startList ++ [c]).tail, elapsed := 0,
                  latch := s.seq.latch ||| BitVec.twoPow 8 (s.seq.startList.headD c).val } ∧
        (s.seq.startList.headD c ≠ c → (t.chan c).state = .starting)) ∧
      (∀ d, d ≠ c → d ≠ s.seq.startList.headD c → t.chan d = s.chan d) ∧
      t.notice = { s.notice with slot := withoutRequester c s.notice.slot } ∧
      t.cont = s.cont

/-- A winner's take that a conflict discards: the chosen units are FREE, and every other unit, the dominant one that made
the conflict among them, is handled as a peer's take handles it (R36, R59). A take without conflict for a channel that is
no longer WAITING at TAKE complete makes the chosen units RELEASING, and no channel changes (R37). A notice bid chose
nothing: without a conflict no view changes (R35). The premises are parts of the invariants of QueuesMatchChannelStates
and UnitsMatchChannels. -/
def Obligations.TakeCompleteDiscardsOrReturns : Prop :=
  ∀ (s : State) (units : List Nat), QueuesMatchStates s → OwnersHold s →
    InPhase s (2 * s.numUnits + 10) → s.stn.state = .active → s.cont.outcome = .won →
    (∀ c chosen a p word, s.cont.bid = .channel c chosen a p word →
      (s.cont.conflictMark = true →
        ∃ t, exec (.takeComplete units) s = .next t ∧ PeerTaken s t units chosen ∧
          t.cont = s.cont ∧ t.stn.state = .active) ∧
      (s.cont.conflictMark = false → (s.chan c).state.isWaiting = false →
        ∃ t, exec (.takeComplete units) s = .next t ∧ t.chans = s.chans ∧
          t.seq.startList = s.seq.startList ∧ t.seq.latch &&& s.seq.latch = t.seq.latch ∧
          ViewsBecome s t (fun k v => if k ∈ chosen then .releasing else v))) ∧
    (∀ n p word, s.cont.bid = .notice n p word →
      (s.cont.conflictMark = true →
        ∃ t, exec (.takeComplete units) s = .next t ∧ PeerTaken s t units [] ∧ t.cont = s.cont) ∧
      (s.cont.conflictMark = false →
        ∃ t, exec (.takeComplete units) s = .next t ∧ t.table.recs = s.table.recs ∧ t.chans = s.chans ∧
          t.seq.startList = s.seq.startList))

/-- A take that is not this station's, with no OWN unit read dominant: units read dominant become PEER but for DEAD ones,
which set SKEW once a roll; a SPARE among them sets OVERLAP, and no channel is affected (R26, R32, R33). In CONFIG, LEFT, HALTED
and FAULTED the Unit Table takes no reading (R28). -/
def Obligations.TakeCompleteMarksPeersAndSpares : Prop :=
  ∀ (s : State) (units : List Nat), InPhase s (2 * s.numUnits + 10) →
    (s.listens = true → s.cont.outcome ≠ .won →
      (∀ k ∈ units, ∀ r, s.table.recs[k]? = some r → ∀ c, r.view ≠ .own c) →
      ∃ t, exec (.takeComplete units) s = .next t ∧ t.chans = s.chans ∧
        ViewsBecome s t (fun k v => if k ∈ units ∧ v ≠ .dead then .peer else v) ∧
        (t.port.events = s.port.events
          ||| (if ∃ k ∈ units, ∃ r, s.table.recs[k]? = some r ∧ r.view.isSpare = true then 0x0004 else 0)
          ||| (if s.table.skewMark = false ∧ ∃ k ∈ units, ∃ r, s.table.recs[k]? = some r ∧ r.view = .dead
            then 0x0080 else 0)) ∧
        t.seq.startList = s.seq.startList ∧ t.seq.latch &&& s.seq.latch = t.seq.latch ∧
        t.table.driveSet = s.table.driveSet ∧ t.notice = s.notice ∧ t.cont = s.cont) ∧
    (s.stn.state ∈ [.config, .left, .halted, .faulted] →
      ∃ t, exec (.takeComplete units) s = .next t ∧ t.table = s.table ∧ t.chans = s.chans ∧
        t.port = s.port ∧ t.stn.state = s.stn.state)

/-- An overlap on held units of one channel: the units read dominant become PEER, the others of that channel RELEASING,
the channel is shed with cause OVERLAP and, with min off to serve, rests in COOLDOWN with its output off; OVERLAP and
SHED are set (R34, R82, R83). In every state of the table each channel with a unit read dominant is shed so, once (R34,
R83); that several are shed one by one in channel order, with the head check between, is log 31's choice, and no clause
rests on it. The last clause's premises are parts of the invariants of QueuesMatchChannelStates and UnitsMatchChannels. -/
def Obligations.TakeCompleteOverlapShedsChannel : Prop :=
  ∀ (s : State) (units : List Nat), InPhase s (2 * s.numUnits + 10) → s.stn.state = .active →
    s.cont.outcome ≠ .won →
    (∀ (c : Chan) (m : Bool) (n : Nat), (s.chan c).state = .on m n → 0 < s.port.image.minOffUs c →
      (∃ k ∈ units, ∃ r, s.table.recs[k]? = some r ∧ r.view = .own c) →
      (∀ k ∈ units, ∀ r, s.table.recs[k]? = some r → r.view = .own c ∨ r.view = .free ∨ r.view = .peer) →
      ∃ t, exec (.takeComplete units) s = .next t ∧
        ViewsBecome s t (fun k v => if k ∈ units then .peer else if v = .own c then .releasing else v) ∧
        (t.chan c).state = .cooldown ∧ (t.chan c).offSince = some 0 ∧ (t.chan c).lastShed = .overlap ∧
        t.seq.latch.getLsbD c.val = false ∧ t.port.events = s.port.events ||| 0x0006 ∧
        (∀ d, d ≠ c → t.chan d = s.chan d) ∧ t.chans.queue = s.chans.queue) ∧
    (QueuesMatchStates s → OwnersHold s →
      ∃ t, exec (.takeComplete units) s = .next t ∧ PeerTaken s t units [] ∧ t.cont = s.cont ∧
        t.notice.ring = s.notice.ring)

/-- A conflict: CONFLICT set, the mark set, the run one more, SHD released, the roll invalid for TAKE and FLAG and as
it was for NOTICE, whose send record is discarded; at a run of 3 the station faults with CLASH (R20, R21, R59 to R62,
R128, R152). -/
def Obligations.ConflictStopsWinner : Prop :=
  ∀ (s : State) (phase : OwnPhase), s.roll.state = .inRoll → s.roll.parsing = true →
    s.stn.state = .active → s.cont.outcome = .won → s.cont.conflictMark = false →
    (s.cont.conflictRun < 2 →
      ∃ t, exec (.conflict phase) s = .next t ∧
        t.cont = { s.cont with conflictMark := true, conflictRun := s.cont.conflictRun + 1 } ∧
        t.port.events = s.port.events ||| 0x0008 ∧ t.line.drive = none ∧ t.stn.state = .active ∧
        t.roll.valid = (s.roll.valid && decide (phase = .notice)) ∧
        t.notice.send = (if phase = .notice then none else s.notice.send) ∧
        t.notice.tx = s.notice.tx ∧ t.notice.slot = s.notice.slot ∧
        t.notice.presence = s.notice.presence ∧ t.table = s.table ∧ t.chans = s.chans) ∧
    (s.cont.conflictRun = 2 →
      ∃ t, exec (.conflict phase) s = .next t ∧ Departed s t .clash .faulted ∧
        t.stn.incident = some { cause := .clash, state := .active, channel := none } ∧
        t.cont.conflictRun = 3 ∧ t.cont.conflictMark = true ∧
        t.roll.valid = (s.roll.valid && decide (phase = .notice)) ∧ t.notice.tx = s.notice.tx ∧
        t.port.events.getLsbD 3 = true ∧ t.port.events.getLsbD 4 = true)

/-- A DRIVE report in a roll faults an ACTIVE station: parsing ends, the roll is invalid, and the record names the
channel of an OWN unit of a HOLD slot and no channel otherwise. In the OPEN pulse it faults a JOINING or ACTIVE station,
and the roll that follows starts invalid (R19, R21, R143, R151, R158). -/
def Obligations.DriveReportFaultsStation : Prop :=
  ∀ (s : State) (phase : Phase) (q : Nat),
    (s.roll.state = .inRoll → s.stn.state = .active → phase ≠ .openPulse →
      ∃ t, exec (.driveReport phase q) s = .next t ∧ Departed s t .drive .faulted ∧
        t.roll.parsing = false ∧ t.roll.valid = false ∧ t.roll.state = .inRoll ∧
        t.port.events = shedFlag s .drive ||| 0x0010 ∧ RunsKept s t ∧
        (∀ r c, phase = .hold → s.table.recs[q - 1]? = some r → r.view = .own c →
          t.stn.incident = some { cause := .drive, state := .active, channel := some c }) ∧
        ((phase ≠ .hold ∨ ∀ r c, s.table.recs[q - 1]? = some r → r.view ≠ .own c) →
          t.stn.incident = some { cause := .drive, state := .active, channel := none })) ∧
    (s.stn.state ∈ [.joining, .active] →
      ∃ t, exec (.driveReport .openPulse q) s = .next t ∧ Departed s t .drive .faulted ∧
        t.stn.incident = some { cause := .drive, state := s.stn.state, channel := none } ∧
        t.roll.openFault = true ∧ t.roll.valid = false ∧ t.roll.state = s.roll.state ∧
        t.port.events = shedFlag s .drive ||| 0x0010)

/-! ### Notices -/

/-- The notice end of a peer's notice at a listening station whose ring has room: the stored notice of R131, with the
sender recorded, the header and the payload as received and the error set by its table, joins the ring at the back. A cut
and a damaged-header end take the Roll Tracker to TRAILING with its first recessive bit time (R13), the receive record is
used up (R130), NOTICE_LEVEL is judged at the append (R136), and a cut notice is handed to no one (R132). -/
def Obligations.NoticeEndStoresNotice : Prop :=
  ∀ (s : State) (form : NoticeForm) (id : BitVec 6) (chars : List RxChar) (L kind : Nat),
    s.roll.flag = some .dominant → s.notice.recv = some { sender := some id, chars := chars } →
    NoticeDue s form chars → s.listens = true → id ≠ s.ownId → s.notice.ring.length < 16 →
    (∀ h, chars.head? = some h → L = (h.data &&& 7 : Byte).toNat ∧ kind = (h.data >>> 5 : Byte).toNat) →
    (chars = [] → L = 0) →
    ∃ t n, exec (.noticeEnd form) s = .next t ∧ t.notice.ring = s.notice.ring ++ [n] ∧
      n.sender = id ∧ n.header = chars.head?.map RxChar.data ∧
      n.payload = (chars.tail.take (min L 6)).map RxChar.data ∧
      (n.errors.framing = true ↔ ∃ x ∈ chars, x.framing = true) ∧
      (n.errors.marker = true ↔ ∃ x ∈ chars, x.marker = true) ∧
      (n.errors.cut = true ↔ form = .cut ∨ form = .stuck ∨ form = .damaged ∧ chars.length < L + 2) ∧
      (n.errors.length = true ↔ chars ≠ [] ∧
        (3 ≤ kind ∨ kind = 0 ∧ L ≠ 3 ∨ kind = 1 ∧ L ≠ 1 ∨ L = 7 ∨ form = .damaged ∧ L + 2 < chars.length)) ∧
      (n.errors.check = true ↔ L ≤ 6 ∧ L + 2 ≤ chars.length ∧
        ((chars.take (L + 2)).map RxChar.data).foldl (· + ·) 0 ≠ 0xFF) ∧
      t.notice.recv = none ∧
      (form = .cut ∨ form = .damaged → t.roll.state = .trailing ∧ t.roll.recessive = 1) ∧
      t.port.events.getLsbD 10 =
        (s.port.events.getLsbD 10 || decide (s.port.image.noticeLevel ≤ s.notice.ring.length + 1)) ∧
      (form = .cut ∨ form = .stuck →
        t.chans = s.chans ∧ t.table = s.table ∧ t.seq.startList = s.seq.startList)

/-- At a full ring a notice is not stored and OVERRUN is set; NOTICE_LEVEL is not (R134, R136). The station's own
notice, and any notice in LEFT, HALTED or FAULTED, is discarded (R132). -/
def Obligations.NoticeNotStored : Prop :=
  ∀ (s : State) (form : NoticeForm) (id : BitVec 6) (chars : List RxChar),
    s.roll.flag = some .dominant → s.notice.recv = some { sender := some id, chars := chars } →
    NoticeDue s form chars →
    (id ≠ s.ownId → s.listens = true → s.notice.ring.length = 16 →
      ∃ t, exec (.noticeEnd form) s = .next t ∧ t.notice.ring = s.notice.ring ∧ t.notice.recv = none ∧
        t.port.events.getLsbD 11 = true ∧ t.port.events.getLsbD 10 = s.port.events.getLsbD 10 ∧
        (form = .cut ∨ form = .stuck → t.chans = s.chans ∧ t.port.events = s.port.events ||| 0x0800)) ∧
    (id = s.ownId ∨ s.listens = false →
      ∃ t, exec (.noticeEnd form) s = .next t ∧ t.notice.ring = s.notice.ring ∧
        t.port = s.port ∧ t.chans = s.chans ∧ t.table = s.table ∧ t.notice.recv = none)

/-- A valid PRESENCE notice of a peer: its U, its window sum and its reserve byte are compared with this station's own
(R121). If any of the three differs SKEW is set, whatever the per-roll skew mark, which stays; if all agree nothing is
set. The notice itself joins the ring, with NOTICE_LEVEL judged, or sets OVERRUN at a full ring, and is compared all the
same (R133, R134, R136). No channel and no unit is touched. -/
def Obligations.PresenceComparesPlans : Prop :=
  ∀ (s : State) (id : BitVec 6) (h a b r c : RxChar),
    s.listens = true → s.roll.flag = some .dominant → id ≠ s.ownId → id ≠ 63 →
    s.notice.recv = some { sender := some id, chars := [h, a, b, r, c] } → s.roll.header = some (.good 3) →
    (h.data &&& 0xE7 : Byte) = 0x03 → h.data + a.data + b.data + r.data + c.data = 0xFF →
    (∀ x ∈ [h, a, b, r, c], x.framing = false ∧ x.marker = false) → (∀ w, s.port.image.reserve w ≤ 3) →
    ∃ t, exec (.noticeEnd .complete) s = .next t ∧ t.chans = s.chans ∧ t.table = s.table ∧
      t.notice.ring.length =
        (if s.notice.ring.length < 16 then s.notice.ring.length + 1 else s.notice.ring.length) ∧
      t.port.events = s.port.events
        ||| (if 16 ≤ s.notice.ring.length then 0x0800
          else if s.port.image.noticeLevel ≤ s.notice.ring.length + 1 then 0x0400 else 0)
        ||| (if a.data = byteOf s.port.image.units ∧
            b.data = byteOf ((allWins.map fun w =>
              s.port.image.winFirst w + s.port.image.winLast w + s.port.image.reserve w).sum) ∧
            r.data = byteOf (s.port.image.reserve 0 + 4 * s.port.image.reserve 1
              + 16 * s.port.image.reserve 2 + 64 * s.port.image.reserve 3)
          then 0 else 0x0080)

/-- A valid YIELD from a peer, received in ACTIVE: the fence is written at the newest end with the sender's ID, the
yield's priority and mask and YIELD_HOLDOFF, a fence of the same sender going first and else, from a full list, the oldest;
YIELD_IN is set; every spare in the mask is given back; a channel of the yield's priority or a higher one, or outside its
mask, keeps its units, and one that loses them has cause YIELD and SHED is set. The notice is stored where the ring has
room. A mask of 0 sets YIELD_IN alone: no fence, no release, no shed (R41, R83, R87, R113, R114, R132). -/
def Obligations.YieldReceivedWritesFence : Prop :=
  ∀ (s : State) (id : BitVec 6) (h p c : RxChar),
    s.stn.state = .active → s.roll.flag = some .dominant → id ≠ s.ownId → id ≠ 63 →
    s.notice.recv = some { sender := some id, chars := [h, p, c] } →
    s.roll.header = some (.good 1) →
    (h.data &&& 0xE7 : Byte) = 0x21 → h.data + p.data + c.data = 0xFF →
    (∀ x ∈ [h, p, c], x.framing = false ∧ x.marker = false) → s.chans.fences.length ≤ 4 →
    ∃ t, exec (.noticeEnd .complete) s = .next t ∧ t.port.events.getLsbD 8 = true ∧
      (s.notice.ring.length < 16 → t.notice.ring.length = s.notice.ring.length + 1) ∧
      ((p.data &&& 0x0F : Byte) = 0 →
        t.chans = s.chans ∧ t.table = s.table ∧ t.seq.startList = s.seq.startList) ∧
      ((p.data &&& 0x0F : Byte) ≠ 0 →
        (∃ rest, t.chans.fences = rest ++
            [{ sender := id, priority := (h.data >>> 3 &&& 3 : Byte).toNat, mask := p.data.setWidth 4,
               left := s.port.image.holdoffUs }] ∧
          ((s.chans.fences.length < 4 ∨ ∃ f ∈ s.chans.fences, f.sender = id) →
            rest = s.chans.fences.filter (fun f => f.sender ≠ id)) ∧
          (s.chans.fences.length = 4 → (∀ f ∈ s.chans.fences, f.sender ≠ id) →
            rest = s.chans.fences.tail)) ∧
        (∀ r ∈ t.table.recs, ∀ n w, r.view = .spare n → r.window = some w →
          (p.data.setWidth 4 : BitVec 4).getLsbD w.val = false) ∧
        (∀ k, (s.chan k).state.holdsUnits = true →
          (h.data >>> 3 &&& 3 : Byte).toNat ≤ s.port.image.priority k ∨
              p.data.setWidth 4 &&& s.port.image.mask k = 0 →
            (t.chan k).state.holdsUnits = true) ∧
        (∀ k, (s.chan k).state.holdsUnits = true → (t.chan k).state.holdsUnits = false →
          (t.chan k).lastShed = .yield ∧ t.port.events.getLsbD 1 = true))

/-- Whom a received yield sheds (R114 step 4, R115, R116). The count starts at the spares released; candidates are shed
until it reaches the units wanted or no candidate is left, each adding its weight, and none is shed once it is reached.
SHED is set where one was shed. Where no shed makes a new head turn on (every entry's stagger is still ahead; what a
turn-on in between does to the candidates is log 14), the channels shed are the first of the candidates in the order of
R115, each leaves STARTING or ON for the state of R82 with its units RELEASING, and every channel that is neither shed
nor WAITING stays as it was. The premise is the invariant of QueuesMatchChannelStates. -/
def Obligations.YieldShedsCandidates : Prop :=
  ∀ (s : State) (id : BitVec 6) (h p c : RxChar) (priority wanted released : Nat) (mask : BitVec 4),
    QueuesMatchStates s → s.stn.state = .active → s.roll.flag = some .dominant → id ≠ s.ownId → id ≠ 63 →
    s.notice.recv = some { sender := some id, chars := [h, p, c] } → s.roll.header = some (.good 1) →
    (h.data &&& 0xE7 : Byte) = 0x21 → h.data + p.data + c.data = 0xFF →
    (∀ x ∈ [h, p, c], x.framing = false ∧ x.marker = false) →
    priority = (h.data >>> 3 &&& 3 : Byte).toNat → mask = p.data.setWidth 4 → mask ≠ 0 →
    wanted = (p.data >>> 4 &&& 7 : Byte).toNat + 1 →
    released = (s.table.recs.countP fun r => r.view.isSpare && r.window.any fun w => mask.getLsbD w.val) →
    ∃ t gone, exec (.noticeEnd .complete) s = .next t ∧
      gone = (allChans.filter fun k => (s.chan k).state.holdsUnits && !(t.chan k).state.holdsUnits) ∧
      (wanted ≤ released + weights s gone ∨ ∀ k, ¬ Candidate t priority mask k) ∧
      (gone ≠ [] → ∃ k ∈ gone, released + weights s (gone.filter (· ≠ k)) < wanted) ∧
      (t.port.events.getLsbD 1 = true ↔ s.port.events.getLsbD 1 = true ∨ gone ≠ []) ∧
      ((∀ k ∈ s.seq.startList, s.seq.elapsed < s.port.image.staggerUs k) →
        (∀ k ∈ gone, Candidate s priority mask k ∧ (t.chan k).lastShed = .yield ∧
          (t.chan k).state.holdsUnits = false ∧
          (∀ m n, (s.chan k).state = .on m n → (t.chan k).offSince = some 0 ∧
            (0 < s.port.image.minOffUs k → (t.chan k).state = .cooldown)) ∧
          ((s.chan k).state = .starting → (t.chan k).offSince = (s.chan k).offSince) ∧
          ((s.chan k).state = .starting ∨ s.port.image.minOffUs k = 0 →
            if s.demand k = true then (t.chan k).state.isWaiting = true else (t.chan k).state = .off) ∧
          ∀ (j : Nat) (r : UnitRec), s.table.recs[j]? = some r → r.view = .own k →
            t.table.recs[j]? = some { r with view := .releasing }) ∧
        (∀ k ∈ gone, ∀ d, Candidate s priority mask d → d ∉ gone → ShedBefore s k d) ∧
        (∀ k ∈ gone, released + weights s (gone.filter fun d => decide (ShedBefore s d k)) < wanted) ∧
        (∀ k, k ∉ gone → (s.chan k).state.isWaiting = false → t.chan k = s.chan k))

/-! ### The roll end -/

/-- The roll end, in every station state. The Roll Tracker is in IDLE, with gap count 0 or, out of TRAILING, 12; at a stuck
line in SETTLING; the roll-valid flag is settled, the silence timer restarts, the receive record of a roll without a notice
is discarded, the countable mark is cleared. In JOINING a valid roll with the mark counts, one without it does not, an
invalid one (a stuck line before FLAG makes it so) sets the count to 0; the second in a row enters ACTIVE with JOINED,
presence pending and both runs 0. In every other state nothing is counted; a won roll without conflict sets the conflict run
to 0, and every other leaves it. In ACTIVE a valid roll end sets a running bus-loss timer back to BUS_LOSS × 10 ms, an
invalid one leaves it (R5, R12 to R14, R17, R21, R62, R130, R140, R142, R154). That the roll end of a stuck line is a command
of its own is the model's choice of log 17, and that the order of the spare-binding check, the notice end and the request is
an operand is that of log 6. The premise that the yield slot is filled in ACTIVE alone (R105, R119) is part of the invariant
of StoresStayBounded. -/
def Obligations.RollEndCountsJoining : Prop :=
  ∀ (s : State) (cause : RollEndCause) (order : RollEndOrder), RollEndDue s cause →
    (s.stn.state ≠ .active → s.notice.slot = none) →
    (s.stn.state = .joining → s.stn.joinCount ≤ 1 →
      ∃ t, exec (.rollEnd cause order) s = .next t ∧ RollEnded s t cause order ∧
        t.stn.joinCount = (if endsValid s cause = false then 0
          else if s.stn.countable then s.stn.joinCount + 1 else s.stn.joinCount) ∧
        t.stn.incident = s.stn.incident ∧
        (t.stn.joinCount < 2 → t.stn.state = .joining ∧ t.chans = s.chans ∧ t.table = s.table) ∧
        (t.stn.joinCount = 2 →
          t.stn.state = .active ∧ t.port.events.getLsbD 0 = true ∧ t.notice.presence = true ∧
          t.roll.openWish = true ∧ t.cont.lossRun = 0 ∧ t.cont.conflictRun = 0 ∧ t.stn.request = none) ∧
        (s.notice.send = none → s.notice.recv = none ∨ order ≠ .noticeBetween →
          t.port = { s.port with
            events := if t.stn.joinCount < 2 then s.port.events else s.port.events ||| 0x0001 })) ∧
    (s.stn.state ≠ .joining →
      ∃ t, exec (.rollEnd cause order) s = .next t ∧ RollEnded s t cause order ∧
        t.stn.joinCount = s.stn.joinCount ∧ t.cont.lossRun = s.cont.lossRun ∧
        t.cont.conflictRun =
          (if s.cont.outcome = .won ∧ s.cont.conflictMark = false then 0 else s.cont.conflictRun) ∧
        (s.stn.state ≠ .active → t.stn.state = s.stn.state ∧ t.chans = s.chans ∧ t.table = s.table) ∧
        (∀ n, s.stn.state = .active → s.stn.request = none → s.stn.busLoss = some n →
          BusLossRuns t ∨ BusLossRuns s ∧ order ≠ .noticeBetween →
          t.stn.busLoss = some (if endsValid s cause then busLossSpan s else n)))

/-- A pending LEAVE or QUIET acts at the roll end, valid or not, whatever the order of the spare-binding check, the notice
end and the request (R143 to R145; the order is an operand, log 6). A yield sent whole completes at the same roll end (R112). Where no notice is handled
between the check and the request, each STARTING or ON channel is shed with the request's cause and no event is set but
by a send completion (R83). -/
def Obligations.RollEndActsRequest : Prop :=
  ∀ (s : State) (cause : RollEndCause) (order : RollEndOrder) (q : Request), s.stn.state = .active →
    RollEndDue s cause → s.stn.request = some q →
    ∃ t, exec (.rollEnd cause order) s = .next t ∧
      t.stn.state = (match q with | .leave => .left | .quiet => .quiet) ∧ t.stn.request = none ∧
      t.stn.incident = s.stn.incident ∧ t.seq.latch = 0 ∧
      (∀ r ∈ t.table.recs, r.view = .dead ∨ r.view = .unknown) ∧
      (∀ c, (t.chan c).state.holdsUnits = false) ∧ t.chans.fences = [] ∧ t.notice.slot = none ∧
      t.notice.presence = false ∧ t.notice.send = none ∧
      (∀ r, s.notice.send = some r → r.source = .yieldSlot → r.driven = r.payload.length + 2 →
        t.port.events.getLsbD 9 = true ∧ t.notice.holdoff = s.port.image.holdoffUs) ∧
      (order ≠ .noticeBetween →
        (∀ c, (s.chan c).state.holdsUnits = true →
          (t.chan c).lastShed = match q with | .leave => .leave | .quiet => .quiet) ∧
        (s.notice.send = none → t.port.events = s.port.events))

/-- The send completion at the roll end of a station with no request pending whose spares fit no queued channel: a
presence notice clears its flag, a USER notice leaves the transmit queue, a yield empties the slot that still holds it,
sets YIELD_OUT and starts the holdoff, and the wait timer of its requester, still WAITING, starts again; a notice not driven
whole completes nothing (R77, R111, R122, R125, R127). The queue stays as it was. -/
def Obligations.RollEndCompletesSend : Prop :=
  ∀ (s : State) (cause : RollEndCause) (order : RollEndOrder) (r : SendRecord), s.stn.state = .active →
    s.stn.request = none → (∀ d ∈ s.chans.queue, ¬ SpareFits s d) → order ≠ .noticeBetween →
    RollEndDue s cause → s.notice.send = some r →
    ∃ t, exec (.rollEnd cause order) s = .next t ∧ t.notice.send = none ∧ t.stn.state = .active ∧
      t.chans.queue = s.chans.queue ∧ t.table = s.table ∧
      (r.driven = r.payload.length + 2 → r.source = .presence →
        t.notice.presence = false ∧ t.notice.tx = s.notice.tx ∧ t.notice.slot = s.notice.slot ∧
        t.port.events = s.port.events) ∧
      (r.driven = r.payload.length + 2 → r.source = .txHead →
        t.notice.tx = s.notice.tx.tail ∧ t.notice.presence = s.notice.presence ∧
        t.notice.slot = s.notice.slot ∧ t.port.events = s.port.events) ∧
      (∀ q, r.driven = r.payload.length + 2 → r.source = .yieldSlot → r.request = some q →
        t.port.events = s.port.events ||| 0x0200 ∧ t.notice.holdoff = s.port.image.holdoffUs ∧
        (s.notice.slot = some q → t.notice.slot = none ∧
          ∀ c e w, q.requester = some c → (s.chan c).state = .waiting e (some w) →
            1 ≤ s.port.image.priority c → 0 < s.port.image.waitToYieldUs c →
            (t.chan c).state = .waiting e (some (s.port.image.waitToYieldUs c))) ∧
        (∀ p, s.notice.slot = some p → p.priority ≠ q.priority → t.notice.slot = some p)) ∧
      (r.driven ≠ r.payload.length + 2 →
        t.notice.presence = s.notice.presence ∧ t.notice.tx = s.notice.tx ∧
        t.notice.slot = s.notice.slot ∧ t.port.events = s.port.events)

/-- The spare-binding check (R81). At a roll end in ACTIVE, with no request pending, the first queued channel that is not
fenced and whose weight its usable spares reach gets the lowest of them, exactly its weight, as OWN (R40), and leaves the
queue for STARTING, or ON where it turns on at its append (R74); the walk starts again until no queued channel qualifies.
Units that are no spares stay. Where none qualifies nothing changes. At an entry to WAITING in ACTIVE the same check is
made (R72). -/
def Obligations.SpareCheckBindsFirstFit : Prop :=
  ∀ s : State, s.stn.state = .active →
    (∀ c, SparesFor s c (s.spareUsable c)) ∧
    (∀ cause order, RollEndDue s cause → s.stn.request = none → order ≠ .noticeBetween →
      ∃ t, exec (.rollEnd cause order) s = .next t ∧ (∀ d ∈ t.chans.queue, ¬ SpareFits t d) ∧
        (∀ (k : Nat) (r : UnitRec), s.table.recs[k]? = some r → r.view.isSpare = false →
          t.table.recs[k]? = some r) ∧
        ((∀ d ∈ s.chans.queue, ¬ SpareFits s d) → t.table = s.table ∧ t.chans.queue = s.chans.queue) ∧
        (∀ front c back, s.chans.queue = front ++ c :: back → (∀ d ∈ front, ¬ SpareFits s d) →
          SpareFits s c →
          c ∉ t.chans.queue ∧ ((t.chan c).state = .starting ∨ (t.chan c).state = .on false 0) ∧
          ∀ (k : Nat) (r : UnitRec), s.table.recs[k]? = some r → r.view ≠ .own c →
            ((∃ r', t.table.recs[k]? = some r' ∧ r'.view = .own c) ↔
              k ∈ (s.spareUsable c).take (s.port.image.weight c)))) ∧
    (∀ c : Chan, s.port.locked = true → s.port.image.enabled c = true → (s.chan c).park = false →
      s.port.image.field c 7 = 0 → (s.chan c).state = .off → (s.chan c).level = false →
      (∀ d ∈ s.chans.queue, ¬ SpareFits s d) →
      ∃ t, exec (.filteredLevelChange (BitVec.twoPow 8 c.val)) s = .next t ∧
        (SpareFits s c → t.chans.queue = s.chans.queue.filter (· ≠ c) ∧
          ((t.chan c).state = .starting ∨ (t.chan c).state = .on false 0) ∧
          ViewsBecome s t fun k v =>
            if k ∈ (s.spareUsable c).take (s.port.image.weight c) then .own c else v) ∧
        (¬ SpareFits s c → (t.chan c).state.isWaiting = true ∧ Inserted s c t.chans.queue ∧
          t.table = s.table))

/-! ### Timers -/

/-- The bus-loss expiry: departure to JOINING with cause BUSLOSS, incident record and BUS_LOSS event (R143, R155,
R158). -/
def Obligations.BusLossExpiryRejoins : Prop :=
  ∀ (s : State) (n : Nat), s.stn.state = .active → s.stn.busLoss = some n →
    ∃ t, exec .busLossExpiry s = .next t ∧ Departed s t .busLoss .joining ∧
      t.stn.joinCount = 0 ∧ t.stn.countable = false ∧
      t.stn.incident = some { cause := .busLoss, state := .active, channel := none } ∧
      t.port.events = shedFlag s .busLoss ||| 0x0020 ∧ RunsKept s t

/-- A wait timer runs out in ACTIVE: with the holdoff elapsed and the slot empty or of lower priority, the request is
written with origin AUTO, the channel as requester, its whole mask and the units wanted of R108, its timer is held at 0,
and the wait timer of a requester it replaces starts again; else the slot stays and this timer starts again. The channel
stays in its place (R77, R107 to R109). -/
def Obligations.WaitTimerExpiryOffersYield : Prop :=
  ∀ (s : State) (c : Chan) (e n : Nat), s.stn.state = .active → (s.chan c).state = .waiting e (some n) →
    1 ≤ s.port.image.priority c → 0 < s.port.image.waitToYieldUs c →
    (∀ q, s.notice.slot = some q → q.requester ≠ some c) →
    ∃ t, exec (.waitTimerExpiry c) s = .next t ∧ t.chans.queue = s.chans.queue ∧ t.table = s.table ∧
      t.port = s.port ∧
      (s.notice.holdoff = 0 → (∀ q, s.notice.slot = some q → q.priority < s.port.image.priority c) →
        (t.chan c).state = .waiting e (some 0) ∧
        t.notice = { s.notice with slot := t.notice.slot } ∧
        t.notice.slot = some
          { priority := s.port.image.priority c, mask := s.port.image.mask c
            wanted := max 1 (s.port.image.weight c - (s.freeUsable c).length)
            origin := .auto, requester := some c } ∧
        (∀ q d e' w, s.notice.slot = some q → q.requester = some d → (s.chan d).state = .waiting e' (some w) →
          1 ≤ s.port.image.priority d → 0 < s.port.image.waitToYieldUs d →
          (t.chan d).state = .waiting e' (some (s.port.image.waitToYieldUs d))) ∧
        (∀ d, d ≠ c → (∀ q, s.notice.slot = some q → q.requester ≠ some d) → t.chan d = s.chan d)) ∧
      (s.notice.holdoff ≠ 0 ∨ (∃ q, s.notice.slot = some q ∧ s.port.image.priority c ≤ q.priority) →
        (t.chan c).state = .waiting e (some (s.port.image.waitToYieldUs c)) ∧ t.notice = s.notice ∧
        ∀ d, d ≠ c → t.chan d = s.chan d)

/-- Min on runs out: a channel with its stop pending is stopped, its output off, its units kept as spares or given
back, into COOLDOWN or, with min off 0, OFF; without the mark it stays ON (R75, R76, R79). That the expiry taken as a
command brings the on-since timer up to min on first is log 3's choice. A stop keeps as spares the lowest-numbered units of
the channel, as many as LINGER and the room under SPARE_MAX allow, each with LINGER left, and releases the rest (R38). -/
def Obligations.MinOnExpiryStopsMarked : Prop :=
  (∀ (s : State) (c : Chan) (n : Nat),
      ((s.chan c).state = .on true n →
        ∃ t, exec (.minOnExpiry c) s = .next t ∧
          (t.chan c).state = (if 0 < s.port.image.minOffUs c then .cooldown else .off) ∧
          (t.chan c).offSince = some 0 ∧ (t.chan c).lastShed = (s.chan c).lastShed ∧
          t.seq.latch.getLsbD c.val = false ∧ t.seq.elapsed = s.seq.elapsed ∧ t.port = s.port ∧
          (∀ r ∈ t.table.recs, r.view ≠ .own c) ∧ (∀ d, d ≠ c → t.chan d = s.chan d)) ∧
      ((s.chan c).state = .on false n →
        ∃ t, exec (.minOnExpiry c) s = .next t ∧
          (t.chan c).state = .on false (max n (s.port.image.minOnUs c)) ∧ t.table = s.table ∧
          t.chans.queue = s.chans.queue ∧ t.port = s.port)) ∧
  (∀ (s : State) (c : Chan) (n k : Nat) (r : UnitRec), (s.chan c).state = .on true n →
      s.table.recs[k]? = some r →
      ∃ t r', exec (.minOnExpiry c) s = .next t ∧ t.table.recs[k]? = some r' ∧ r'.window = r.window ∧
        (r.view ≠ .own c → r'.view = r.view) ∧
        (r.view = .own c →
          (0 < s.port.image.lingerUs ∧
            ((List.range k).countP fun j =>
              (s.table.recs[j]?).any fun x => x.view == .own c) + s.table.spareCount
                < s.port.image.spareMax →
            r'.view = .spare s.port.image.lingerUs) ∧
          (s.port.image.lingerUs = 0 ∨
            s.port.image.spareMax ≤ ((List.range k).countP fun j =>
              (s.table.recs[j]?).any fun x => x.view == .own c) + s.table.spareCount →
            r'.view = .releasing)))

/-- Min off runs out in COOLDOWN: OFF without effective demand; with it WAITING by the entry of R72, at the back of its
priority, or, in ACTIVE where the spares fit it, bound to them at once (R69, R72, R78, R80, R81, R89). -/
def Obligations.MinOffExpiryLeavesCooldown : Prop :=
  ∀ (s : State) (c : Chan), (s.chan c).state = .cooldown →
    ∃ t, exec (.minOffExpiry c) s = .next t ∧ t.port = s.port ∧
      (¬ Demands s.port.image c (s.chan c) → (t.chan c).state = .off ∧ OthersStay s t c) ∧
      (Demands s.port.image c (s.chan c) → EntersWaiting s t c)

/-- Timers that end one thing each: a spare's linger makes its unit RELEASING (R39); a fence leaves the list and the
others keep their order (R87); the yield holdoff is 0 (R106). Every other unit, the channels, the notices and the port
stay. The stagger of the head is reached: in ACTIVE with KILLN high the head turns on, alone, its bit set, its channel ON
with on-since 0, and the elapsed timer 0; elsewhere nothing turns on (R93, R94, R99). -/
def Obligations.LingerFenceHoldoffStaggerEnd : Prop :=
  ∀ s : State,
    (∀ (k n : Nat) (r : UnitRec), s.table.recs[k]? = some r → r.view = .spare n →
      ∃ t, exec (.lingerExpiry k) s = .next t ∧
        t.table.recs[k]? = some { r with view := .releasing } ∧
        (∀ j, j ≠ k → t.table.recs[j]? = s.table.recs[j]?) ∧
        t.table.driveSet = s.table.driveSet ∧ t.table.freeSet = s.table.freeSet ∧
        t.chans = s.chans ∧ t.notice = s.notice ∧ t.port = s.port) ∧
    (∀ id, exec (.fenceExpiry id) s = .next { s with
      chans := { s.chans with fences := s.chans.fences.filter fun f => f.sender ≠ id } }) ∧
    exec .yieldHoldoffExpiry s = .next { s with notice := { s.notice with holdoff := 0 } } ∧
    (∀ c rest, s.seq.startList = c :: rest →
      (s.stn.state = .active → s.stn.killnLow = false →
        ∃ t, exec .staggerReached s = .next t ∧ t.seq.startList = rest ∧ t.seq.elapsed = 0 ∧
          t.seq.latch = s.seq.latch ||| BitVec.twoPow 8 c.val ∧ (t.chan c).state = .on false 0 ∧
          (∀ d, d ≠ c → t.chan d = s.chan d) ∧ t.table = s.table ∧ t.port = s.port) ∧
      (s.stn.state ≠ .active ∨ s.stn.killnLow = true →
        ∃ t, exec .staggerReached s = .next t ∧ t.seq.startList = c :: rest ∧ t.chans = s.chans ∧
          t.seq.latch = 0))

/-- One microsecond of the time base, with the line still and no edge on the port's pins: after LOCK every timer counts one
and, once a millisecond, every demand filter samples its pin; where nothing ends with it that is all, and the one thing
that ends with it is taken as its own row says, the elapsed timer's count to a stagger where it is the head's (R2, R39,
R67, R75, R77, R79, R87, R92, R93, R106, R154). Before LOCK KILLN alone is sampled (R100). Of several things of one
microsecond the order is free (log 6), which timers count ahead of them is the choice of logs 25 and 36, and that a step
on an empty queue is one CLK period is log 4's. The premise on the fence list is part of the invariant of
StoresStayBounded. -/
def Obligations.MicrosecondCountsAndSamples : Prop :=
  ∀ (s : State) (p : Pins) (rest : List Pins), s.pending = [] → s.inputs = p :: rest → p.rstn = true →
    p.csn = true → s.pins.csn = true → s.clock.sub = 3 → LineStill s p →
    (s.port.locked = true → (s.chans.fences.map Fence.sender).Nodup →
      ((∀ i, ¬ EndsNow s p i) → step s = .next (afterMicrosecond s p rest)) ∧
      (∀ i, EndsNow s p i → (∀ j, EndsNow s p j → j = i) →
        step s =
          if i = .staggerReached ∧ ∀ c, s.seq.startList.head? = some c → s.seq.elapsed + 1 ≠ s.port.image.staggerUs c
          then .next (afterMicrosecond s p rest) else exec i (afterMicrosecond s p rest))) ∧
    (s.port.locked = false →
      ((∀ i, ¬ KillnMoves s p i) →
        step s = .next { afterPeriod s p rest with clock := { s.clock with sub := 0 } }) ∧
      (∀ i, KillnMoves s p i →
        step s = exec i { afterPeriod s p rest with clock := { s.clock with sub := 0 } }))

/-! ### Demand pins and demand commands -/

/-- A filtered level change flips the levels of the named pins and sets their run counts to 0; every other level, and
every soft and park bit, stays (R67). For one pin the channel takes what that does to its effective demand, whatever its
source (R69): demand that appears takes OFF to WAITING, or binds spares in ACTIVE (R71, R72, R80, R81), and clears a
stop-pending mark (R75); demand that disappears takes WAITING to OFF (R73), stops STARTING (R74), and stops ON once min
on has elapsed, setting the mark before that (R75, R76). A stop writes no cause and no event. -/
def Obligations.FilteredLevelChangeMovesDemand : Prop :=
  ∀ s : State, s.port.locked = true →
    (∀ pins : BitVec 8, ∃ t, exec (.filteredLevelChange pins) s = .next t ∧
      (∀ c, (t.chan c).level = ((s.chan c).level ^^ pins.getLsbD c.val) ∧
        (t.chan c).run = (if pins.getLsbD c.val then 0 else (s.chan c).run) ∧
        (t.chan c).soft = (s.chan c).soft ∧ (t.chan c).park = (s.chan c).park) ∧
      t.port = s.port ∧ t.cont = s.cont ∧ t.stn.state = s.stn.state) ∧
    (∀ c : Chan, ∃ t, exec (.filteredLevelChange (BitVec.twoPow 8 c.val)) s = .next t ∧ t.port = s.port ∧
      DemandTaken s t c { s.chan c with level := !(s.chan c).level, run := 0 })

/-- DEMAND_SET and DEMAND_CLEAR write the soft bits of their mask and no other bit, with reply ACCEPTED after LOCK and
STATE in CONFIG (R68, R166, R167). For one channel of the mask, the bit written moves its effective demand as a pin does,
for the sources SOFT and EITHER, and does nothing for PIN, nor where the bit stood so before (R68, R69, R71 to R76). -/
def Obligations.DemandCommandsMoveDemand : Prop :=
  ∀ s : State,
    (s.stn.state ≠ .config →
      (∀ mask : Byte,
        (∃ t, exec (.demandSet (whole [mask])) s = .next t ∧ t.port.reply = .accepted ∧
          t.port.events = s.port.events ∧ t.port.image = s.port.image ∧
          ∀ c, (t.chan c).soft = ((s.chan c).soft || mask.getLsbD c.val) ∧
            (t.chan c).park = (s.chan c).park ∧ (t.chan c).level = (s.chan c).level) ∧
        (∃ t, exec (.demandClear (whole [mask])) s = .next t ∧ t.port.reply = .accepted ∧
          t.port.events = s.port.events ∧ t.port.image = s.port.image ∧
          ∀ c, (t.chan c).soft = ((s.chan c).soft && !mask.getLsbD c.val) ∧
            (t.chan c).park = (s.chan c).park ∧ (t.chan c).level = (s.chan c).level)) ∧
      ∀ c : Chan,
        (∃ t, exec (.demandSet (whole [BitVec.twoPow 8 c.val])) s = .next t ∧
          DemandTaken s t c { s.chan c with soft := true }) ∧
        (∃ t, exec (.demandClear (whole [BitVec.twoPow 8 c.val])) s = .next t ∧
          DemandTaken s t c { s.chan c with soft := false })) ∧
    (s.stn.state = .config → ∀ mask : Byte,
      (∃ t, exec (.demandSet (whole [mask])) s = .next t ∧ RepliedOnly s t .state) ∧
      (∃ t, exec (.demandClear (whole [mask])) s = .next t ∧ RepliedOnly s t .state))

/-- PARK sets the park bit of each channel of its mask and leaves each of them PARKED but for DISABLED ones; UNPARK
clears the bits and leaves none of them PARKED. The bits of other channels stay (R85, R86; the premise is the invariant of
QueuesMatchChannelStates). A channel ON that is parked goes off at once whatever its min on: output bit clear, units
released and none kept as spare, off-since 0, cause PARK, no SHED (R82, R83, R85). A PARKED channel that is unparked goes
to COOLDOWN while its off-since timer has not reached min off ("none" counts as longer, R79), else to OFF, and from there,
with effective demand, on to WAITING (R72, R86); a channel in any other state keeps it. -/
def Obligations.ParkAndUnparkChannels : Prop :=
  (∀ (s : State) (mask : Byte), s.stn.state ≠ .config → QueuesMatchStates s →
      (∃ t, exec (.park (whole [mask])) s = .next t ∧ t.port.reply = .accepted ∧
        t.port.events = s.port.events ∧
        ∀ c, (t.chan c).park = ((s.chan c).park || mask.getLsbD c.val) ∧
          (t.chan c).soft = (s.chan c).soft ∧
          (mask.getLsbD c.val = true →
            (t.chan c).state = if (s.chan c).state = .disabled then .disabled else .parked)) ∧
      (∃ t, exec (.unpark (whole [mask])) s = .next t ∧ t.port.reply = .accepted ∧
        t.port.events = s.port.events ∧
        ∀ c, (t.chan c).park = ((s.chan c).park && !mask.getLsbD c.val) ∧
          (t.chan c).soft = (s.chan c).soft ∧
          (mask.getLsbD c.val = true → (t.chan c).state ≠ .parked))) ∧
  (∀ (s : State) (c : Chan) (m : Bool) (n : Nat), s.stn.state ≠ .config →
      (s.chan c).state = .on m n →
      ∃ t, exec (.park (whole [BitVec.twoPow 8 c.val])) s = .next t ∧ (t.chan c).state = .parked ∧
        (t.chan c).lastShed = .park ∧ (t.chan c).offSince = some 0 ∧ t.seq.latch.getLsbD c.val = false ∧
        t.port.events = s.port.events ∧
        ViewsBecome s t (fun _ v => if v = .own c then .releasing else v) ∧
        (∀ d, d ≠ c → t.chan d = s.chan d)) ∧
  (∀ (s : State) (c : Chan), s.stn.state ≠ .config →
      ∃ t, exec (.unpark (whole [BitVec.twoPow 8 c.val])) s = .next t ∧ (t.chan c).park = false ∧
        ((s.chan c).state ≠ .parked → t.chan c = { s.chan c with park := false } ∧ OthersStay s t c) ∧
        ((s.chan c).state = .parked →
          (∀ n, (s.chan c).offSince = some n → n < s.port.image.minOffUs c →
            t.chan c = { s.chan c with park := false, state := .cooldown } ∧ OthersStay s t c) ∧
          ((∀ n, (s.chan c).offSince = some n → s.port.image.minOffUs c ≤ n) →
            (¬ Demands s.port.image c { s.chan c with park := false } →
              t.chan c = { s.chan c with park := false, state := .off } ∧ OthersStay s t c) ∧
            (Demands s.port.image c { s.chan c with park := false } → EntersWaiting s t c))))

/-! ### The local port -/

/-- CFG_WRITE (R161): in CONFIG an index that names an item by the table of R160 with a value in its write range is stored
and every other item stays; another index or value is refused with RANGE; outside CONFIG it is refused with STATE. A
refusal leaves the image as it was, and no write changes another block. Nothing but CFG_WRITE (also as carried by a CSN
rise), POR and RESET changes an item. -/
def Obligations.CfgWriteStoresInRange : Prop :=
  ∀ (s : State) (index value : Byte),
    (s.stn.state ≠ .config →
      ∃ t, exec (.cfgWrite (whole [index, value])) s = .next t ∧ RepliedOnly s t .state) ∧
    (s.stn.state = .config → ¬ Writable index.toNat value.toNat →
      ∃ t, exec (.cfgWrite (whole [index, value])) s = .next t ∧ RepliedOnly s t .range) ∧
    (s.stn.state = .config → Writable index.toNat value.toNat →
      ∃ t, exec (.cfgWrite (whole [index, value])) s = .next t ∧
        RepliedOnly { s with port := { s.port with image := t.port.image } } t .accepted ∧
        Holds t.port.image index.toNat value ∧
        ∀ j b, j ≠ index.toNat → (Holds t.port.image j b ↔ Holds s.port.image j b)) ∧
    (∀ c t, exec c s = .next t → c ≠ .por → c ≠ .reset → (∀ x, c ≠ .cfgWrite x) →
      ¬ (c = .csnRise ∧ s.port.rx.code = 0x10) → t.port.image = s.port.image)

/-- LOCK: outside CONFIG refused with STATE; a check that fails, the lowest of them named in the reply, leaves everything
but reply and PORT_ERROR; a passed one sets the lock flag, keeps the image, event and enable words and the incident
record, starts every block at its LOCK values and enters JOINING, or HALTED while KILLN is low (R24, R43, R45, R90, R104,
R137 to R139, R162, R163, R173). -/
def Obligations.LockStartsBlocks : Prop :=
  ∀ s : State,
    (s.stn.state ≠ .config → ∃ t, exec (.lock (whole [])) s = .next t ∧ RepliedOnly s t .state) ∧
    (s.stn.state = .config → ∀ i, LockCheckFails s.port.image i → (∀ j < i, ¬ LockCheckFails s.port.image j) →
      ∃ t, exec (.lock (whole [])) s = .next t ∧ RepliedOnly s t (.lockFailed i)) ∧
    (s.stn.state = .config → (∀ i, ¬ LockCheckFails s.port.image i) →
      ∃ t, exec (.lock (whole [])) s = .next t ∧ t.port.locked = true ∧ t.port.reply = .accepted ∧
        t.port.image = s.port.image ∧ t.port.events = s.port.events ∧ t.port.enables = s.port.enables ∧
        t.stn.state = (if s.stn.killnLow then .halted else .joining) ∧ t.stn.request = none ∧
        t.stn.incident = s.stn.incident ∧ t.stn.joinCount = 0 ∧ t.stn.countable = false ∧
        t.stn.silence = 0 ∧ t.stn.busLoss = none ∧
        t.roll.state = .settling ∧ t.roll.recessive = 0 ∧ t.roll.openWish = false ∧ t.roll.valid = false ∧
        t.line.stuckArmed = true ∧ t.line.drive = none ∧
        t.table.recs.length = s.port.image.units ∧
        (∀ k < s.port.image.units,
          (∀ w, Decodes s.port.image k w →
            t.table.recs[k]? = some { view := .unknown, window := some w }) ∧
          ((∀ w, ¬ Decodes s.port.image k w) → t.table.recs[k]? = some { view := .dead, window := none })) ∧
        t.table.driveSet = [] ∧ t.table.freeSet = [] ∧ t.table.skewMark = false ∧
        (∀ c, t.chan c =
          { state := if s.port.image.enabled c then .off else .disabled
            offSince := none, lastShed := .none, soft := false, park := false, level := false, run := 0 }) ∧
        t.chans.queue = [] ∧ t.chans.fences = [] ∧ t.seq = { startList := [], elapsed := 0, latch := 0 } ∧
        t.notice = { presence := false, slot := none, holdoff := 0, tx := [], send := none, recv := none,
                     ring := [] } ∧
        t.cont = { bid := .nothing, outcome := .noBid, conflictMark := false, lossRun := 0, conflictRun := 0,
                   last := { outcome := .noBid, word := 0 } })

/-- SEND appends a USER notice at the back in JOINING, ACTIVE and QUIET; STATE elsewhere, RANGE for a length above 6,
FULL at four notices, judged in that order (R122, R123, R166). YIELD writes a LOCAL request without a requester into an
empty slot in ACTIVE, whatever the holdoff; STATE in every other state, RANGE for an operand out of range, BUSY with the
slot filled (R110, R166). -/
def Obligations.SendAndYieldCommands : Prop :=
  (∀ (s : State) (priority length : Byte) (payload : List Byte), priority.toNat ≤ 3 →
     (s.stn.state ∈ [.config, .left, .halted, .faulted] →
       (length.toNat ≤ 6 ∧ payload.length = length.toNat ∨ 6 < length.toNat ∧ payload = []) →
       ∃ t, exec (.send (whole (priority :: length :: payload))) s = .next t ∧ RepliedOnly s t .state) ∧
     (s.stn.state ∈ [.joining, .active, .quiet] → 6 < length.toNat →
       ∃ t, exec (.send (whole [priority, length])) s = .next t ∧ RepliedOnly s t .range) ∧
     (s.stn.state ∈ [.joining, .active, .quiet] → length.toNat ≤ 6 → payload.length = length.toNat →
       4 ≤ s.notice.tx.length →
       ∃ t, exec (.send (whole (priority :: length :: payload))) s = .next t ∧ RepliedOnly s t .full) ∧
     (s.stn.state ∈ [.joining, .active, .quiet] → length.toNat ≤ 6 → payload.length = length.toNat →
       s.notice.tx.length < 4 →
       ∃ t, exec (.send (whole (priority :: length :: payload))) s = .next t ∧
         t.notice = { s.notice with
           tx := s.notice.tx ++ [{ priority := priority.toNat, payload := payload }] } ∧
         t.port.reply = .accepted ∧ t.port.events = s.port.events ∧ t.chans = s.chans ∧
         t.table = s.table ∧ (s.stn.state = .active → t.roll.openWish = true))) ∧
  (∀ (s : State) (p m w : Byte),
     (s.stn.state ≠ .active →
       ∃ t, exec (.yield (whole [p, m, w])) s = .next t ∧ RepliedOnly s t .state) ∧
     (s.stn.state = .active → ¬ (p.toNat ≤ 3 ∧ 1 ≤ m.toNat ∧ m.toNat ≤ 15 ∧ 1 ≤ w.toNat ∧ w.toNat ≤ 8) →
       ∃ t, exec (.yield (whole [p, m, w])) s = .next t ∧ RepliedOnly s t .range) ∧
     (s.stn.state = .active → p.toNat ≤ 3 → 1 ≤ m.toNat → m.toNat ≤ 15 → 1 ≤ w.toNat → w.toNat ≤ 8 →
       (s.notice.slot ≠ none →
         ∃ t, exec (.yield (whole [p, m, w])) s = .next t ∧ RepliedOnly s t .busy) ∧
       (s.notice.slot = none →
         ∃ t, exec (.yield (whole [p, m, w])) s = .next t ∧
           t.notice = { s.notice with
             slot := some { priority := p.toNat, mask := m.setWidth 4, wanted := w.toNat
                            origin := .fromPort, requester := none } } ∧
           t.port.reply = .accepted ∧ t.port.events = s.port.events ∧ t.roll.openWish = true ∧
           t.chans = s.chans ∧ t.table = s.table)))

/-- POP returns and removes the oldest entry of the ring in the layout of R174; EMPTY on an empty ring, STATE in CONFIG;
the reply register stays (R135, R166, R174). That bit 6 of byte 0 and bits 5 to 7 of byte 2, which no field names, read
0 is log 34's choice. -/
def Obligations.PopRemovesOldest : Prop :=
  ∀ s : State,
    (s.stn.state = .config →
      ∃ t, exec (.pop (whole [])) s = .next t ∧ ReadRefused s t 0x01) ∧
    (s.stn.state ≠ .config → s.notice.ring = [] →
      ∃ t, exec (.pop (whole [])) s = .next t ∧ ReadOnly s t [0x05]) ∧
    (∀ n rest, s.stn.state ≠ .config → s.notice.ring = n :: rest → n.payload.length ≤ 6 →
      ∃ t e, exec (.pop (whole [])) s = .next t ∧
        ReadOnly { s with notice := { s.notice with ring := rest } } t (0x00 :: e) ∧
        e.length = 10 ∧
        e[0]? = some ((n.sender.setWidth 8 : Byte) ||| (if n.header.isSome then 0x80 else 0x00)) ∧
        e[1]? = some (n.header.getD 0) ∧
        e[2]? = some (byteOf (n.errors.framing.toNat + 2 * n.errors.marker.toNat + 4 * n.errors.check.toNat
          + 8 * n.errors.length.toNat + 16 * n.errors.cut.toNat)) ∧
        e[3]? = some (byteOf n.payload.length) ∧
        ∀ i < 6, e[4 + i]? = some (n.payload.getD i 0))

/-- CFG_READ returns the item's value in every state, and RANGE for an index that names none (R160, R166). The reads
change nothing but the receive state. A unit record's fields and an incident record's are R174's (that bits 6 to 3 of
the incident record's byte 2 read 0 is log 34's choice), a number out of range is refused with RANGE and PORT_ERROR,
READ_INCIDENT empties the record it returns, and READ_EVENTS returns the event word and clears nothing (R44, R159, R167,
R168, R174). -/
def Obligations.ReadsReturnUnitsAndIncidents : Prop :=
  ∀ s : State,
    (∀ index b : Byte, Holds s.port.image index.toNat b →
      ∃ t, exec (.cfgRead (whole [index])) s = .next t ∧ ReadOnly s t [0x00, b]) ∧
    (∀ index : Byte, (∀ b, ¬ Holds s.port.image index.toNat b) →
      ∃ t, exec (.cfgRead (whole [index])) s = .next t ∧ ReadRefused s t 0x02) ∧
    (∀ (k : Byte) (r : UnitRec), s.table.recs[k.toNat]? = some r →
      ∃ t, exec (.readUnit (whole [k])) s = .next t ∧
        ReadOnly s t [0x00, byteOf (viewNumber r.view), (r.window.map fun w => byteOf w.val).getD 0,
          (match r.view with | .own c => byteOf c.val | _ => 0),
          (match r.view with | .spare n => stepsLeft 100000 n | _ => 0)]) ∧
    (∀ k : Byte, s.table.recs[k.toNat]? = none →
      ∃ t, exec (.readUnit (whole [k])) s = .next t ∧ ReadRefused s t 0x02) ∧
    (∀ k : Byte, 8 ≤ k.toNat →
      ∃ t, exec (.readChannel (whole [k])) s = .next t ∧ ReadRefused s t 0x02) ∧
    (∃ t, exec (.readIncident (whole [])) s = .next t ∧
      ReadOnly { s with stn := { s.stn with incident := none } } t
        (0x00 :: match s.stn.incident with
          | none => [0, 0, 0]
          | some i => [byteOf (incidentNumber i.cause), byteOf (stateNumber i.state),
              match i.channel with | some c => byteOf (0x80 + c.val) | none => 0])) ∧
    (∃ t, exec (.readEvents (whole [])) s = .next t ∧
      ReadOnly s t [0x00, s.port.events.extractLsb' 8 8, s.port.events.extractLsb' 0 8])

/-- READ_CHANNEL, READ_QUEUE and READ_STATION change nothing but the receive state and return their records byte by byte
as R174 lays them out: a field absent in the record's state reads 00h, time left is rounded up and time elapsed down (R45,
R66, R80, R87, R103, R105, R106, R138, R168, R174). That bit 7 of a channel record's byte 10 and bits 7 to 3 of the station
record's byte 21, which no field names, read 0 is log 34's choice, and that a wait timer held at 0 reads as not running
is log 13's. -/
def Obligations.ReadsReturnTables : Prop :=
  ∀ s : State,
    (∀ c : Chan, ∃ (t : State) (l : List Byte) (b : List Nat), exec (.readChannel (whole [byteOf c.val])) s = .next t ∧
      ReadOnly s t (0x00 :: l) ∧ l.length = 24 ∧
      (∀ f : Fin 9, l[f.val]? = some (s.port.image.read (.field c f))) ∧
      l[9]? = some (byteOf (channelNumber (s.chan c).state)) ∧
      (∃ x : Byte, l[10]? = some x ∧
        (x.getLsbD 0 = true ↔ ∃ n, (s.chan c).state = .on true n) ∧
        x.getLsbD 1 = (s.chan c).soft ∧ x.getLsbD 2 = (s.chan c).park ∧
        x.getLsbD 3 = (s.chan c).offSince.isNone ∧
        (x.getLsbD 4 = true ↔ ∃ e w, (s.chan c).state = .waiting e (some w)) ∧
        (x.getLsbD 5 = true ↔ (∃ e w, (s.chan c).state = .waiting e (some w)) ∧ s.stn.state = .active ∧
          ∀ q, s.notice.slot = some q → q.requester ≠ some c) ∧
        x.getLsbD 6 = (s.chan c).level ∧ x.getLsbD 7 = false) ∧
      b.Pairwise (· < ·) ∧ (∀ k : Nat, k ∈ b ↔ ∃ r, s.table.recs[k]? = some r ∧ r.view = .own c) ∧
      l[11]? = some (byteOf b.length) ∧ (∀ i < 8, l[12 + i]? = some (byteOf (b.getD i 0))) ∧
      l[20]? = some (byteOf (onSince s c / 1000000)) ∧
      l[21]? = some (byteOf ((s.chan c).offSince.getD 0 / 1000000)) ∧
      l[22]? = some (match (s.chan c).state with
        | .waiting _ (some w) => stepsLeft 100000 w
        | _ => 0) ∧
      l[23]? = some (byteOf (causeNumber (s.chan c).lastShed))) ∧
    (∃ t l, exec (.readQueue (whole [])) s = .next t ∧ ReadOnly s t (0x00 :: l) ∧ l.length = 26 ∧
      l[0]? = some (byteOf s.chans.queue.length) ∧
      (∀ i < 8, l[1 + i]? = some (((s.chans.queue[i]?).map fun c : Chan => byteOf c.val).getD 0)) ∧
      l[9]? = some (byteOf s.chans.fences.length) ∧
      (∀ j < 4,
        (∀ f, s.chans.fences[j]? = some f →
          l[10 + 4 * j]? = some (f.sender.setWidth 8) ∧ l[11 + 4 * j]? = some (byteOf f.priority) ∧
          l[12 + 4 * j]? = some (f.mask.setWidth 8) ∧ l[13 + 4 * j]? = some (stepsLeft 100000 f.left)) ∧
        (s.chans.fences[j]? = none → ∀ i < 4, l[10 + 4 * j + i]? = some 0))) ∧
    (∃ t, exec (.readStation (whole [])) s = .next t ∧
      ReadOnly s t (0x00 ::
        [byteOf (stateNumber s.stn.state),
         match s.stn.request with | none => 0 | some .leave => 1 | some .quiet => 2,
         byteOf s.stn.joinCount, stepsLeft 10000 (s.stn.busLoss.getD 0), byteOf s.cont.lossRun,
         byteOf s.cont.conflictRun, byteOf (claimNumber s.cont.last.outcome),
         byteOf (s.cont.last.word.toNat / 256), byteOf s.cont.last.word.toNat,
         byteOf (s.table.recs.countP fun r => r.view.isSpare), s.seq.latch, byteOf s.seq.startList.length] ++
        ((List.range 8).map fun i => ((s.seq.startList[i]?).map fun c : Chan => byteOf c.val).getD 0) ++
        [byteOf (s.seq.elapsed / 10000)] ++
        (match s.notice.slot with
          | none => [0, 0, 0, 0, 0]
          | some q =>
            [byteOf (1 + 2 * (decide (q.origin = .fromPort)).toNat + 4 * q.requester.isSome.toNat),
             byteOf q.priority, q.mask.setWidth 8, byteOf q.wanted,
             (q.requester.map fun c => byteOf c.val).getD 0]) ++
        [stepsLeft 100000 s.notice.holdoff, byteOf s.notice.tx.length, byteOf s.notice.presence.toNat,
         byteOf s.notice.ring.length, byteOf (replyNumber s.port.reply)]))

/-- CLEAR_EVENTS clears every flag whose position holds 1 in its mask and leaves the others; SET_ENABLES replaces the
enable word, whose flagless positions read 0. Both are taken in every state and touch nothing else; IRQN is driven low
exactly while an enabled flag is set (R170, R171). -/
def Obligations.EventCommandsWriteWords : Prop :=
  ∀ (s : State) (hi lo : Byte),
    (∃ t, exec (.clearEvents (whole [hi, lo])) s = .next t ∧
      (∀ i, i < 16 → t.port.events.getLsbD i =
        (s.port.events.getLsbD i && !(hi ++ lo : Word).getLsbD i)) ∧
      RepliedOnly { s with port := { s.port with events := t.port.events } } t .accepted) ∧
    (∃ t, exec (.setEnables (whole [hi, lo])) s = .next t ∧
      (∀ i, i < 16 → t.port.enables.getLsbD i = (decide (i < 13) && (hi ++ lo : Word).getLsbD i)) ∧
      RepliedOnly { s with port := { s.port with enables := t.port.enables } } t .accepted) ∧
    (s.irqLow = true ↔ ∃ i, i < 16 ∧ s.port.events.getLsbD i = true ∧ s.port.enables.getLsbD i = true)

/-- JOIN moves QUIET and LEFT to JOINING with join count 0 and no mark; CLEAR_FAULT moves FAULTED to JOINING, or HALTED
while KILLN is low, and keeps the incident record and the FAULT event (R140, R146 to R148, R153). LEAVE and QUIET in ACTIVE
are pending while a roll is in flight and replace one another; without one they act at once; from JOINING and QUIET
LEAVE goes to LEFT with the drop, and from JOINING QUIET keeps the picture (R144 to R148). Elsewhere each is refused with
STATE. -/
def Obligations.StationCommandsByState : Prop :=
  ∀ s : State,
    (s.stn.state ∈ [.quiet, .left] →
      ∃ t, exec (.join (whole [])) s = .next t ∧ t.stn.state = .joining ∧ t.stn.joinCount = 0 ∧
        t.stn.countable = false ∧ t.port.reply = .accepted ∧ t.chans = s.chans ∧ t.table = s.table ∧
        t.stn.incident = s.stn.incident ∧ (t.roll.openWish = true ↔ 512 ≤ s.stn.silence)) ∧
    (s.stn.state ∉ [.quiet, .left] →
      ∃ t, exec (.join (whole [])) s = .next t ∧ RepliedOnly s t .state) ∧
    (s.stn.state = .faulted →
      ∃ t, exec (.clearFault (whole [])) s = .next t ∧
        t.stn.state = (if s.stn.killnLow then .halted else .joining) ∧ t.port.reply = .accepted ∧
        t.stn.incident = s.stn.incident ∧ t.port.events = s.port.events ∧ t.chans = s.chans ∧
        t.table = s.table) ∧
    (s.stn.state ≠ .faulted →
      ∃ t, exec (.clearFault (whole [])) s = .next t ∧ RepliedOnly s t .state) ∧
    (s.stn.state = .active → s.roll.state ∈ [.inRoll, .trailing] →
      (∃ t, exec (.leave (whole [])) s = .next t ∧ t.stn.request = some .leave ∧ t.stn.state = .active ∧
        t.chans = s.chans ∧ t.table = s.table ∧ t.cont = s.cont ∧ t.notice = s.notice ∧
        t.port.reply = .accepted) ∧
      (∃ t, exec (.quiet (whole [])) s = .next t ∧ t.stn.request = some .quiet ∧ t.stn.state = .active ∧
        t.chans = s.chans ∧ t.table = s.table ∧ t.cont = s.cont ∧ t.notice = s.notice ∧
        t.port.reply = .accepted)) ∧
    (s.stn.state = .active → s.roll.state ∉ [.inRoll, .trailing] →
      (∃ t, exec (.leave (whole [])) s = .next t ∧ Departed s t .leave .left ∧
        t.port.events = s.port.events) ∧
      (∃ t, exec (.quiet (whole [])) s = .next t ∧ Departed s t .quiet .quiet ∧
        t.port.events = s.port.events)) ∧
    (s.stn.state ∈ [.joining, .quiet] →
      ∃ t, exec (.leave (whole [])) s = .next t ∧ Departed s t .leave .left) ∧
    (s.stn.state = .joining →
      ∃ t, exec (.quiet (whole [])) s = .next t ∧ t.stn.state = .quiet ∧ t.table = s.table ∧
        t.chans = s.chans ∧ t.line.drive = none ∧ t.port.reply = .accepted) ∧
    (s.stn.state ∈ [.config, .left, .halted, .faulted] →
      ∃ t, exec (.leave (whole [])) s = .next t ∧ RepliedOnly s t .state) ∧
    (s.stn.state ∈ [.config, .quiet, .left, .halted, .faulted] →
      ∃ t, exec (.quiet (whole [])) s = .next t ∧ RepliedOnly s t .state)

/-- SOFT_RESET in every state after LOCK: the departure with cause RESET into JOINING, or HALTED while KILLN is low;
transmit queue emptied, send record discarded, runs, join count and elapsed timer 0, every event flag cleared; the
image, the lock, the enables, the filters, the off-since timers, the demand queue's entries, the ring, the receive record,
the holdoff, the silence timer, the incident record and the Roll Tracker's place stay (R157). In CONFIG it is refused
with STATE. -/
def Obligations.SoftResetClearsStation : Prop :=
  ∀ s : State,
    (s.stn.state ≠ .config →
      ∃ t, exec (.softReset (whole [])) s = .next t ∧
        Departed s t .reset (if s.stn.killnLow then .halted else .joining) ∧
        t.notice.tx = [] ∧ t.notice.send = none ∧ t.notice.holdoff = s.notice.holdoff ∧
        t.notice.recv = s.notice.recv ∧ s.chans.queue.Sublist t.chans.queue ∧
        (∀ c, (t.chan c).run = (s.chan c).run ∧
          ((s.chan c).state.isOn = false → (t.chan c).offSince = (s.chan c).offSince)) ∧
        t.cont.lossRun = 0 ∧ t.cont.conflictRun = 0 ∧ t.cont.last = s.cont.last ∧
        t.stn.joinCount = 0 ∧ t.stn.countable = false ∧ t.seq.elapsed = 0 ∧ t.port.events = 0 ∧
        t.port.image = s.port.image ∧ t.port.locked = s.port.locked ∧
        t.port.enables = s.port.enables ∧ t.port.reply = .accepted ∧
        t.stn.incident = s.stn.incident ∧ t.stn.silence = s.stn.silence ∧
        t.roll.state = s.roll.state ∧ t.roll.position = s.roll.position ∧ t.roll.valid = s.roll.valid) ∧
    (s.stn.state = .config →
      ∃ t, exec (.softReset (whole [])) s = .next t ∧ RepliedOnly s t .state)

/-- CSN's edges: the fall captures the status byte of R172 and R174 and starts the COMMAND stage; the rise returns the
receive state to IDLE from every stage, and from IDLE, COMMAND and DATA changes nothing else; a write command
collected by then acts as its own row with the bytes received, a read ended before its operands is discarded with
COUNT. A code that names no command is answered UNKNOWN with PORT_ERROR. A write command with fewer or more operand bytes
than its count, or with a last byte left incomplete, is discarded with COUNT and PORT_ERROR and nothing else; so is a read
ended before its operand byte (R164, R165, R166, R172). That SDO shows the status byte's first bit from the CSN fall on is
the model's inference (log 24, DEDUCED). -/
def Obligations.TransactionEdges : Prop :=
  ∀ s : State,
    (∃ t, exec .statusCapture s = .next t ∧ t = { s with port := { s.port with rx := t.port.rx } } ∧
      t.port.rx.stage = .command ∧ t.port.rx.replyCap = s.port.reply ∧ t.port.rx.got = [] ∧
      t.port.rx.bits = 0 ∧ t.port.rx.outByte = t.port.rx.status ∧
      t.port.rx.sdo = some (t.port.rx.status.getMsbD 0) ∧
      t.port.rx.status.extractLsb' 5 3 = s.stn.state.code ∧
      t.port.rx.status.getLsbD 4 = s.irqLow ∧
      (t.port.rx.status.getLsbD 3 = true ↔ s.notice.ring ≠ []) ∧
      (t.port.rx.status.getLsbD 2 = true ↔ s.notice.tx.length = 4) ∧
      t.port.rx.status.getLsbD 1 = s.stn.killnLow ∧ t.port.rx.status.getLsbD 0 = s.port.locked) ∧
    (∃ t, exec .csnRise s = .next t ∧ t.port.rx.stage = .idle ∧ t.port.rx.sdo = none ∧
      (s.port.rx.stage ∈ [.idle, .command, .data] → t = { s with port := { s.port with rx := t.port.rx } }) ∧
      (s.port.rx.stage = .drain → Command.ofCode s.port.rx.code = none → RepliedOnly s t .unknown) ∧
      (∀ k, s.port.rx.stage ∈ [.operands, .drain] → Command.ofCode s.port.rx.code = some k →
        (k.isRead = false →
          exec (k.toInstr { bytes := s.port.rx.got, tail := s.port.rx.bits }) s = .next t) ∧
        (k.isRead = true → RepliedOnly s t .count))) ∧
    (∀ code, Command.ofCode code = none →
      ∃ t, exec (.unknownCommand code) s = .next t ∧ RepliedOnly s t .unknown) ∧
    ∀ x : Operands,
      (∀ k ∈ [Command.cfgWrite, .lock, .demandSet, .demandClear, .park, .unpark, .send, .yield, .clearEvents,
          .setEnables, .join, .leave, .quiet, .clearFault, .softReset],
        (x.bytes.length ≠ k.operandCount x.bytes ∨ x.tail ≠ 0) →
        ∃ t, exec (k.toInstr x) s = .next t ∧ RepliedOnly s t .count) ∧
      (∀ k ∈ [Command.cfgRead, .readUnit, .readChannel], x.bytes = [] →
        ∃ t, exec (k.toInstr x) s = .next t ∧ RepliedOnly s t .count)

/-- The reset pin and the SPI pins in one CLK period. RSTN low is RESET, whatever else the period would bring (R139, R173;
that it is so in every period with RSTN low is log 30). With the line still and no microsecond, a fall of CSN is
STATUS_CAPTURE and a rise CSN_RISE; with CSN high and steady SCK and SDI are ignored (R164). While CSN is low a steady SCK does nothing. A rising
edge shifts SDI in, most significant bit first; the eighth completes a byte: the command byte goes by the command list, to
OPERANDS, or to DRAIN for a command without operands and for a code that names none; operand bytes are collected until
their count is reached; a read whose last operand byte, or command byte, this was acts here as its own row; bytes in DATA
are ignored, and in DRAIN counted. A falling edge puts the next bit on SDO: of the status byte in COMMAND, the captured
reply in OPERANDS, the data and then 00h in DATA, 00h in DRAIN (R164, R165, R174). That a step on an empty queue is one
CLK period is log 4's choice, and that SCK is seen once in it log 24's inference. -/
def Obligations.SpiShiftsBits : Prop :=
  (∀ e ∈ commandList, Command.ofCode e.1 = some e.2.1 ∧ e.2.1.isRead = e.2.2.2) ∧
  (∀ code, (∀ e ∈ commandList, e.1 ≠ code) → Command.ofCode code = none) ∧
  (∀ (s : State) (p : Pins) (rest : List Pins), s.pending = [] → s.inputs = p :: rest →
    (p.rstn = false → step s = exec .reset { s with pins := p, inputs := rest }) ∧
    (p.rstn = true → s.clock.sub + 1 ≠ 4 → LineStill s p →
      (s.pins.csn = true → p.csn = false → step s = exec .statusCapture (afterPeriod s p rest)) ∧
      (s.pins.csn = false → p.csn = true → step s = exec .csnRise (afterPeriod s p rest)) ∧
      (s.pins.csn = true → p.csn = true → step s = .next (afterPeriod s p rest)))) ∧
  ∀ (s : State) (p : Pins) (rest : List Pins), s.pending = [] → s.inputs = p :: rest → p.rstn = true →
    p.csn = false → s.pins.csn = false → s.clock.sub + 1 ≠ 4 → LineStill s p → s.port.rx.stage ≠ .idle →
    let x := s.port.rx
    let put := fun y => { afterPeriod s p rest with port := { s.port with rx := y } }
    let b : Byte := (x.shift <<< 1) ||| (if p.sdi then 1 else 0)
    (p.sck = s.pins.sck → step s = .next (afterPeriod s p rest)) ∧
    (s.pins.sck = false → p.sck = true →
      (x.bits < 7 → step s = .next (put { x with shift := b, bits := x.bits + 1 })) ∧
      (x.bits = 7 → x.stage = .command →
        (Command.ofCode b = none →
          step s = .next (put { x with shift := b, bits := 0, code := b, got := [], stage := .drain })) ∧
        (∀ k n, Command.ofCode b = some k → OperandsOf k [] n →
          let y := { x with
            shift := b, bits := 0, code := b, got := [], stage := if n = 0 then RxStage.drain else .operands }
          step s = if n = 0 ∧ k.isRead = true then exec (k.toInstr (whole [])) (put y) else .next (put y))) ∧
      (x.bits = 7 → x.stage = .operands → ∀ k n, Command.ofCode x.code = some k → OperandsOf k (x.got ++ [b]) n →
        let done : Bool := decide (x.got.length + 1 = n)
        let y := { x with
          shift := b, bits := 0, got := x.got ++ [b], stage := if done then RxStage.drain else .operands }
        step s = if done = true ∧ k.isRead = true then exec (k.toInstr (whole (x.got ++ [b]))) (put y)
          else .next (put y)) ∧
      (x.bits = 7 → x.stage = .data → step s = .next (put { x with shift := b, bits := 0 })) ∧
      (x.bits = 7 → x.stage = .drain →
        step s = .next (put { x with shift := b, bits := 0, got := x.got ++ [b] }))) ∧
    (s.pins.sck = true → p.sck = false → x.bits ≤ 7 →
      step s = .next (put { x with
        outByte := nextOut x
        out := if x.bits = 0 ∧ x.stage = .data then x.out.tail else x.out
        sdo := some ((nextOut x).getLsbD (7 - x.bits)) }))

/-! ### Rules of the whole machine -/

/-- The station enters ACTIVE from no other state than JOINING, and by a roll end alone (R142). CONFIG is left by LOCK
alone, whether as a command or as the one a CSN rise carries, and entered by POR and RESET alone (R139). -/
def Obligations.ActiveAndConfigDoors : Prop :=
  ∀ (c : Instr) (s t : State), exec c s = .next t →
    (s.stn.state ≠ .active → t.stn.state = .active →
      s.stn.state = .joining ∧ ∃ cause order, c = .rollEnd cause order) ∧
    (s.stn.state = .config → t.stn.state ≠ .config →
      (∃ x, c = .lock x) ∨ (c = .csnRise ∧ s.port.rx.code = 0x12)) ∧
    (s.stn.state ≠ .config → t.stn.state = .config → c = .por ∨ c = .reset)

/-- While the station is locked, no command changes the configuration image but POR and RESET (R65, R163; the premise is
part of the invariant of RecordsStayLegal). A stored notice leaves the receive ring only by POP, POR, RESET or LOCK, also
where a CSN rise carries the LOCK (R134). -/
def Obligations.ImageAndRingChangeByNamedCommands : Prop :=
  ∀ (c : Instr) (s t : State), exec c s = .next t →
    ((s.port.locked = true ↔ s.stn.state ≠ .config) → s.port.locked = true → c ≠ .por → c ≠ .reset →
      t.port.image = s.port.image ∧ t.port.locked = true) ∧
    ((∃ added, t.notice.ring = s.notice.ring ++ added) ∨ (∃ x, c = .pop x) ∨ (∃ x, c = .lock x) ∨
      c = .por ∨ c = .reset ∨ (c = .csnRise ∧ s.port.rx.code = 0x12))

/-! ### Invariants that every step keeps -/

/-- Through every step the lock flag goes with the state (R139, R163), the flagless positions of both words stay 0 (R169,
R170, R174) and the incident record names none of CONFIG, HALTED and FAULTED (R158). -/
def Obligations.RecordsStayLegal : Prop :=
  ∀ s t : State, LockFlag s ∧ FlaglessClear s ∧ IncidentStates s → step s = .next t →
    LockFlag t ∧ FlaglessClear t ∧ IncidentStates t

/-- Through every step the loads follow the station: no channel is STARTING or ON outside ACTIVE, an output is on exactly
while its channel is ON, and a low KILLN leaves no station in JOINING, ACTIVE, QUIET or LEFT (R89, R98, R99, R149, R150).
The premise holds QueuesMatchStates, whose own statement is QueuesMatchChannelStates. -/
def Obligations.LoadsFollowStation : Prop :=
  ∀ s t : State, QueuesMatchStates s → LoadsMatch s → step s = .next t → LoadsMatch t

/-- The open-wish flag and the bus-loss timer follow their conditions through every step. Where the running condition
becomes true the timer is at BUS_LOSS × 10 ms; while the condition stays true a command other than a roll end leaves the
timer as it is, and a CLK period leaves it, takes one microsecond off it or sets it to BUS_LOSS × 10 ms (R15, R154). That
the condition is judged at the end of each command is log 27's choice, and that a step on an empty queue is one CLK period
log 4's. -/
def Obligations.ConditionsFollowState : Prop :=
  ∀ s t : State, ConditionsHold s → step s = .next t →
    ConditionsHold t ∧
    (¬ BusLossRuns s → BusLossRuns t → t.stn.busLoss = some (busLossSpan t)) ∧
    (BusLossRuns s → BusLossRuns t →
      (∀ c rest, s.pending = c :: rest → (∀ cause order, c ≠ .rollEnd cause order) →
        t.stn.busLoss = s.stn.busLoss) ∧
      (s.pending = [] → t.stn.busLoss = s.stn.busLoss ∨ t.stn.busLoss = s.stn.busLoss.map (· - 1) ∨
        t.stn.busLoss = some (busLossSpan t)))

/-- The stores and counts keep their bounds through every step (R45, R87, R122, R134, R138), the fence list one entry a
sender (R87), and the yield slot stays empty outside ACTIVE (R105, R119). -/
def Obligations.StoresStayBounded : Prop :=
  ∀ s t : State, StoresBounded s → step s = .next t → StoresBounded t

/-- The demand queue and the start list match the channels' states through every step, the queue in the order of priority
and entry time (R70, R80, R91; the entry time is a stamp, log 16). -/
def Obligations.QueuesMatchChannelStates : Prop :=
  ∀ s t : State, QueuesMatchStates s → step s = .next t → QueuesMatchStates t

/-- The Unit Table and the channels agree through every step: OWN units are bound exactly, spares stay within SPARE_MAX,
and the units of a bid stay unheld until their TAKE (R27, R38, R49, R66, R70). The premise holds QueuesMatchStates, whose
own statement is QueuesMatchChannelStates. -/
def Obligations.UnitsMatchChannels : Prop :=
  ∀ s t : State, QueuesMatchStates s → UnitsMatch s → step s = .next t → UnitsMatch t

/-- The state after reset has every invariant. -/
def Obligations.ResetMeetsInvariants : Prop :=
  LockFlag State.reset ∧ FlaglessClear State.reset ∧ IncidentStates State.reset ∧
  LoadsMatch State.reset ∧ ConditionsHold State.reset ∧ StoresBounded State.reset ∧ QueuesMatchStates State.reset ∧
  UnitsMatch State.reset
end

