-- ==== Sys2Proof/Laws/State.lean ====
section
/-! SUPPORT. What each block setter writes and what it leaves, one lemma a field. -/

namespace Sys2Proof.Machine

section
variable (s : State) (x : LineIf)
@[simp] theorem State.setLine_line : (s.setLine x).line = x := rfl
@[simp] theorem State.setLine_roll : (s.setLine x).roll = s.roll := rfl
@[simp] theorem State.setLine_table : (s.setLine x).table = s.table := rfl
@[simp] theorem State.setLine_cont : (s.setLine x).cont = s.cont := rfl
@[simp] theorem State.setLine_chans : (s.setLine x).chans = s.chans := rfl
@[simp] theorem State.setLine_seq : (s.setLine x).seq = s.seq := rfl
@[simp] theorem State.setLine_notice : (s.setLine x).notice = s.notice := rfl
@[simp] theorem State.setLine_stn : (s.setLine x).stn = s.stn := rfl
@[simp] theorem State.setLine_port : (s.setLine x).port = s.port := rfl
@[simp] theorem State.setLine_clock : (s.setLine x).clock = s.clock := rfl
@[simp] theorem State.setLine_pins : (s.setLine x).pins = s.pins := rfl
@[simp] theorem State.setLine_inputs : (s.setLine x).inputs = s.inputs := rfl
@[simp] theorem State.setLine_free : (s.setLine x).free = s.free := rfl
@[simp] theorem State.setLine_pending : (s.setLine x).pending = s.pending := rfl
end

section
variable (s : State) (x : RollTracker)
@[simp] theorem State.setRoll_line : (s.setRoll x).line = s.line := rfl
@[simp] theorem State.setRoll_roll : (s.setRoll x).roll = x := rfl
@[simp] theorem State.setRoll_table : (s.setRoll x).table = s.table := rfl
@[simp] theorem State.setRoll_cont : (s.setRoll x).cont = s.cont := rfl
@[simp] theorem State.setRoll_chans : (s.setRoll x).chans = s.chans := rfl
@[simp] theorem State.setRoll_seq : (s.setRoll x).seq = s.seq := rfl
@[simp] theorem State.setRoll_notice : (s.setRoll x).notice = s.notice := rfl
@[simp] theorem State.setRoll_stn : (s.setRoll x).stn = s.stn := rfl
@[simp] theorem State.setRoll_port : (s.setRoll x).port = s.port := rfl
@[simp] theorem State.setRoll_clock : (s.setRoll x).clock = s.clock := rfl
@[simp] theorem State.setRoll_pins : (s.setRoll x).pins = s.pins := rfl
@[simp] theorem State.setRoll_inputs : (s.setRoll x).inputs = s.inputs := rfl
@[simp] theorem State.setRoll_free : (s.setRoll x).free = s.free := rfl
@[simp] theorem State.setRoll_pending : (s.setRoll x).pending = s.pending := rfl
end

section
variable (s : State) (x : UnitTable)
@[simp] theorem State.setTable_line : (s.setTable x).line = s.line := rfl
@[simp] theorem State.setTable_roll : (s.setTable x).roll = s.roll := rfl
@[simp] theorem State.setTable_table : (s.setTable x).table = x := rfl
@[simp] theorem State.setTable_cont : (s.setTable x).cont = s.cont := rfl
@[simp] theorem State.setTable_chans : (s.setTable x).chans = s.chans := rfl
@[simp] theorem State.setTable_seq : (s.setTable x).seq = s.seq := rfl
@[simp] theorem State.setTable_notice : (s.setTable x).notice = s.notice := rfl
@[simp] theorem State.setTable_stn : (s.setTable x).stn = s.stn := rfl
@[simp] theorem State.setTable_port : (s.setTable x).port = s.port := rfl
@[simp] theorem State.setTable_clock : (s.setTable x).clock = s.clock := rfl
@[simp] theorem State.setTable_pins : (s.setTable x).pins = s.pins := rfl
@[simp] theorem State.setTable_inputs : (s.setTable x).inputs = s.inputs := rfl
@[simp] theorem State.setTable_free : (s.setTable x).free = s.free := rfl
@[simp] theorem State.setTable_pending : (s.setTable x).pending = s.pending := rfl
end

section
variable (s : State) (x : Contention)
@[simp] theorem State.setCont_line : (s.setCont x).line = s.line := rfl
@[simp] theorem State.setCont_roll : (s.setCont x).roll = s.roll := rfl
@[simp] theorem State.setCont_table : (s.setCont x).table = s.table := rfl
@[simp] theorem State.setCont_cont : (s.setCont x).cont = x := rfl
@[simp] theorem State.setCont_chans : (s.setCont x).chans = s.chans := rfl
@[simp] theorem State.setCont_seq : (s.setCont x).seq = s.seq := rfl
@[simp] theorem State.setCont_notice : (s.setCont x).notice = s.notice := rfl
@[simp] theorem State.setCont_stn : (s.setCont x).stn = s.stn := rfl
@[simp] theorem State.setCont_port : (s.setCont x).port = s.port := rfl
@[simp] theorem State.setCont_clock : (s.setCont x).clock = s.clock := rfl
@[simp] theorem State.setCont_pins : (s.setCont x).pins = s.pins := rfl
@[simp] theorem State.setCont_inputs : (s.setCont x).inputs = s.inputs := rfl
@[simp] theorem State.setCont_free : (s.setCont x).free = s.free := rfl
@[simp] theorem State.setCont_pending : (s.setCont x).pending = s.pending := rfl
end

section
variable (s : State) (x : Channels)
@[simp] theorem State.setChans_line : (s.setChans x).line = s.line := rfl
@[simp] theorem State.setChans_roll : (s.setChans x).roll = s.roll := rfl
@[simp] theorem State.setChans_table : (s.setChans x).table = s.table := rfl
@[simp] theorem State.setChans_cont : (s.setChans x).cont = s.cont := rfl
@[simp] theorem State.setChans_chans : (s.setChans x).chans = x := rfl
@[simp] theorem State.setChans_seq : (s.setChans x).seq = s.seq := rfl
@[simp] theorem State.setChans_notice : (s.setChans x).notice = s.notice := rfl
@[simp] theorem State.setChans_stn : (s.setChans x).stn = s.stn := rfl
@[simp] theorem State.setChans_port : (s.setChans x).port = s.port := rfl
@[simp] theorem State.setChans_clock : (s.setChans x).clock = s.clock := rfl
@[simp] theorem State.setChans_pins : (s.setChans x).pins = s.pins := rfl
@[simp] theorem State.setChans_inputs : (s.setChans x).inputs = s.inputs := rfl
@[simp] theorem State.setChans_free : (s.setChans x).free = s.free := rfl
@[simp] theorem State.setChans_pending : (s.setChans x).pending = s.pending := rfl
end

section
variable (s : State) (x : Sequencer)
@[simp] theorem State.setSeq_line : (s.setSeq x).line = s.line := rfl
@[simp] theorem State.setSeq_roll : (s.setSeq x).roll = s.roll := rfl
@[simp] theorem State.setSeq_table : (s.setSeq x).table = s.table := rfl
@[simp] theorem State.setSeq_cont : (s.setSeq x).cont = s.cont := rfl
@[simp] theorem State.setSeq_chans : (s.setSeq x).chans = s.chans := rfl
@[simp] theorem State.setSeq_seq : (s.setSeq x).seq = x := rfl
@[simp] theorem State.setSeq_notice : (s.setSeq x).notice = s.notice := rfl
@[simp] theorem State.setSeq_stn : (s.setSeq x).stn = s.stn := rfl
@[simp] theorem State.setSeq_port : (s.setSeq x).port = s.port := rfl
@[simp] theorem State.setSeq_clock : (s.setSeq x).clock = s.clock := rfl
@[simp] theorem State.setSeq_pins : (s.setSeq x).pins = s.pins := rfl
@[simp] theorem State.setSeq_inputs : (s.setSeq x).inputs = s.inputs := rfl
@[simp] theorem State.setSeq_free : (s.setSeq x).free = s.free := rfl
@[simp] theorem State.setSeq_pending : (s.setSeq x).pending = s.pending := rfl
end

section
variable (s : State) (x : NoticeUnit)
@[simp] theorem State.setNotice_line : (s.setNotice x).line = s.line := rfl
@[simp] theorem State.setNotice_roll : (s.setNotice x).roll = s.roll := rfl
@[simp] theorem State.setNotice_table : (s.setNotice x).table = s.table := rfl
@[simp] theorem State.setNotice_cont : (s.setNotice x).cont = s.cont := rfl
@[simp] theorem State.setNotice_chans : (s.setNotice x).chans = s.chans := rfl
@[simp] theorem State.setNotice_seq : (s.setNotice x).seq = s.seq := rfl
@[simp] theorem State.setNotice_notice : (s.setNotice x).notice = x := rfl
@[simp] theorem State.setNotice_stn : (s.setNotice x).stn = s.stn := rfl
@[simp] theorem State.setNotice_port : (s.setNotice x).port = s.port := rfl
@[simp] theorem State.setNotice_clock : (s.setNotice x).clock = s.clock := rfl
@[simp] theorem State.setNotice_pins : (s.setNotice x).pins = s.pins := rfl
@[simp] theorem State.setNotice_inputs : (s.setNotice x).inputs = s.inputs := rfl
@[simp] theorem State.setNotice_free : (s.setNotice x).free = s.free := rfl
@[simp] theorem State.setNotice_pending : (s.setNotice x).pending = s.pending := rfl
end

section
variable (s : State) (x : StationCtl)
@[simp] theorem State.setStn_line : (s.setStn x).line = s.line := rfl
@[simp] theorem State.setStn_roll : (s.setStn x).roll = s.roll := rfl
@[simp] theorem State.setStn_table : (s.setStn x).table = s.table := rfl
@[simp] theorem State.setStn_cont : (s.setStn x).cont = s.cont := rfl
@[simp] theorem State.setStn_chans : (s.setStn x).chans = s.chans := rfl
@[simp] theorem State.setStn_seq : (s.setStn x).seq = s.seq := rfl
@[simp] theorem State.setStn_notice : (s.setStn x).notice = s.notice := rfl
@[simp] theorem State.setStn_stn : (s.setStn x).stn = x := rfl
@[simp] theorem State.setStn_port : (s.setStn x).port = s.port := rfl
@[simp] theorem State.setStn_clock : (s.setStn x).clock = s.clock := rfl
@[simp] theorem State.setStn_pins : (s.setStn x).pins = s.pins := rfl
@[simp] theorem State.setStn_inputs : (s.setStn x).inputs = s.inputs := rfl
@[simp] theorem State.setStn_free : (s.setStn x).free = s.free := rfl
@[simp] theorem State.setStn_pending : (s.setStn x).pending = s.pending := rfl
end

section
variable (s : State) (x : LocalPort)
@[simp] theorem State.setPort_line : (s.setPort x).line = s.line := rfl
@[simp] theorem State.setPort_roll : (s.setPort x).roll = s.roll := rfl
@[simp] theorem State.setPort_table : (s.setPort x).table = s.table := rfl
@[simp] theorem State.setPort_cont : (s.setPort x).cont = s.cont := rfl
@[simp] theorem State.setPort_chans : (s.setPort x).chans = s.chans := rfl
@[simp] theorem State.setPort_seq : (s.setPort x).seq = s.seq := rfl
@[simp] theorem State.setPort_notice : (s.setPort x).notice = s.notice := rfl
@[simp] theorem State.setPort_stn : (s.setPort x).stn = s.stn := rfl
@[simp] theorem State.setPort_port : (s.setPort x).port = x := rfl
@[simp] theorem State.setPort_clock : (s.setPort x).clock = s.clock := rfl
@[simp] theorem State.setPort_pins : (s.setPort x).pins = s.pins := rfl
@[simp] theorem State.setPort_inputs : (s.setPort x).inputs = s.inputs := rfl
@[simp] theorem State.setPort_free : (s.setPort x).free = s.free := rfl
@[simp] theorem State.setPort_pending : (s.setPort x).pending = s.pending := rfl
end

section
variable (s : State) (x : Clock)
@[simp] theorem State.setClock_line : (s.setClock x).line = s.line := rfl
@[simp] theorem State.setClock_roll : (s.setClock x).roll = s.roll := rfl
@[simp] theorem State.setClock_table : (s.setClock x).table = s.table := rfl
@[simp] theorem State.setClock_cont : (s.setClock x).cont = s.cont := rfl
@[simp] theorem State.setClock_chans : (s.setClock x).chans = s.chans := rfl
@[simp] theorem State.setClock_seq : (s.setClock x).seq = s.seq := rfl
@[simp] theorem State.setClock_notice : (s.setClock x).notice = s.notice := rfl
@[simp] theorem State.setClock_stn : (s.setClock x).stn = s.stn := rfl
@[simp] theorem State.setClock_port : (s.setClock x).port = s.port := rfl
@[simp] theorem State.setClock_clock : (s.setClock x).clock = x := rfl
@[simp] theorem State.setClock_pins : (s.setClock x).pins = s.pins := rfl
@[simp] theorem State.setClock_inputs : (s.setClock x).inputs = s.inputs := rfl
@[simp] theorem State.setClock_free : (s.setClock x).free = s.free := rfl
@[simp] theorem State.setClock_pending : (s.setClock x).pending = s.pending := rfl
end

section
variable (s : State) (x : Pins)
@[simp] theorem State.setPins_line : (s.setPins x).line = s.line := rfl
@[simp] theorem State.setPins_roll : (s.setPins x).roll = s.roll := rfl
@[simp] theorem State.setPins_table : (s.setPins x).table = s.table := rfl
@[simp] theorem State.setPins_cont : (s.setPins x).cont = s.cont := rfl
@[simp] theorem State.setPins_chans : (s.setPins x).chans = s.chans := rfl
@[simp] theorem State.setPins_seq : (s.setPins x).seq = s.seq := rfl
@[simp] theorem State.setPins_notice : (s.setPins x).notice = s.notice := rfl
@[simp] theorem State.setPins_stn : (s.setPins x).stn = s.stn := rfl
@[simp] theorem State.setPins_port : (s.setPins x).port = s.port := rfl
@[simp] theorem State.setPins_clock : (s.setPins x).clock = s.clock := rfl
@[simp] theorem State.setPins_pins : (s.setPins x).pins = x := rfl
@[simp] theorem State.setPins_inputs : (s.setPins x).inputs = s.inputs := rfl
@[simp] theorem State.setPins_free : (s.setPins x).free = s.free := rfl
@[simp] theorem State.setPins_pending : (s.setPins x).pending = s.pending := rfl
end

section
variable (s : State) (x : List Pins)
@[simp] theorem State.setInputs_line : (s.setInputs x).line = s.line := rfl
@[simp] theorem State.setInputs_roll : (s.setInputs x).roll = s.roll := rfl
@[simp] theorem State.setInputs_table : (s.setInputs x).table = s.table := rfl
@[simp] theorem State.setInputs_cont : (s.setInputs x).cont = s.cont := rfl
@[simp] theorem State.setInputs_chans : (s.setInputs x).chans = s.chans := rfl
@[simp] theorem State.setInputs_seq : (s.setInputs x).seq = s.seq := rfl
@[simp] theorem State.setInputs_notice : (s.setInputs x).notice = s.notice := rfl
@[simp] theorem State.setInputs_stn : (s.setInputs x).stn = s.stn := rfl
@[simp] theorem State.setInputs_port : (s.setInputs x).port = s.port := rfl
@[simp] theorem State.setInputs_clock : (s.setInputs x).clock = s.clock := rfl
@[simp] theorem State.setInputs_pins : (s.setInputs x).pins = s.pins := rfl
@[simp] theorem State.setInputs_inputs : (s.setInputs x).inputs = x := rfl
@[simp] theorem State.setInputs_free : (s.setInputs x).free = s.free := rfl
@[simp] theorem State.setInputs_pending : (s.setInputs x).pending = s.pending := rfl
end

section
variable (s : State) (x : Nat)
@[simp] theorem State.setFree_line : (s.setFree x).line = s.line := rfl
@[simp] theorem State.setFree_roll : (s.setFree x).roll = s.roll := rfl
@[simp] theorem State.setFree_table : (s.setFree x).table = s.table := rfl
@[simp] theorem State.setFree_cont : (s.setFree x).cont = s.cont := rfl
@[simp] theorem State.setFree_chans : (s.setFree x).chans = s.chans := rfl
@[simp] theorem State.setFree_seq : (s.setFree x).seq = s.seq := rfl
@[simp] theorem State.setFree_notice : (s.setFree x).notice = s.notice := rfl
@[simp] theorem State.setFree_stn : (s.setFree x).stn = s.stn := rfl
@[simp] theorem State.setFree_port : (s.setFree x).port = s.port := rfl
@[simp] theorem State.setFree_clock : (s.setFree x).clock = s.clock := rfl
@[simp] theorem State.setFree_pins : (s.setFree x).pins = s.pins := rfl
@[simp] theorem State.setFree_inputs : (s.setFree x).inputs = s.inputs := rfl
@[simp] theorem State.setFree_free : (s.setFree x).free = x := rfl
@[simp] theorem State.setFree_pending : (s.setFree x).pending = s.pending := rfl
end

section
variable (s : State) (x : List Instr)
@[simp] theorem State.setPending_line : (s.setPending x).line = s.line := rfl
@[simp] theorem State.setPending_roll : (s.setPending x).roll = s.roll := rfl
@[simp] theorem State.setPending_table : (s.setPending x).table = s.table := rfl
@[simp] theorem State.setPending_cont : (s.setPending x).cont = s.cont := rfl
@[simp] theorem State.setPending_chans : (s.setPending x).chans = s.chans := rfl
@[simp] theorem State.setPending_seq : (s.setPending x).seq = s.seq := rfl
@[simp] theorem State.setPending_notice : (s.setPending x).notice = s.notice := rfl
@[simp] theorem State.setPending_stn : (s.setPending x).stn = s.stn := rfl
@[simp] theorem State.setPending_port : (s.setPending x).port = s.port := rfl
@[simp] theorem State.setPending_clock : (s.setPending x).clock = s.clock := rfl
@[simp] theorem State.setPending_pins : (s.setPending x).pins = s.pins := rfl
@[simp] theorem State.setPending_inputs : (s.setPending x).inputs = s.inputs := rfl
@[simp] theorem State.setPending_free : (s.setPending x).free = s.free := rfl
@[simp] theorem State.setPending_pending : (s.setPending x).pending = x := rfl
end

end Sys2Proof.Machine
end

