-- ==== Sys2Proof/Laws/Frames.lean ====
section
/-! SUPPORT. What the shared operations of Machine/Ops.lean leave alone, one lemma an operation. -/

namespace Sys2Proof.Machine

/-- t differs from s at most in the four blocks that hold loads: Unit Table, Channel Controller, Start Sequencer,
Notice Unit. -/
structure LoadFrame (s t : State) : Prop where
  line : t.line = s.line
  roll : t.roll = s.roll
  cont : t.cont = s.cont
  stn : t.stn = s.stn
  port : t.port = s.port
  clock : t.clock = s.clock
  pins : t.pins = s.pins
  inputs : t.inputs = s.inputs
  free : t.free = s.free
  pending : t.pending = s.pending

/-- t keeps the configuration, the enables, the reply register, the receive state and everything outside the part. -/
structure KeepFrame (s t : State) : Prop where
  image : t.port.image = s.port.image
  locked : t.port.locked = s.port.locked
  enables : t.port.enables = s.port.enables
  reply : t.port.reply = s.port.reply
  rx : t.port.rx = s.port.rx
  clock : t.clock = s.clock
  pins : t.pins = s.pins
  inputs : t.inputs = s.inputs
  free : t.free = s.free
  pending : t.pending = s.pending

section
variable {s t u : State}

theorem LoadFrame.refl (s : State) : LoadFrame s s :=
  ⟨rfl, rfl, rfl, rfl, rfl, rfl, rfl, rfl, rfl, rfl⟩

theorem LoadFrame.trans (h : LoadFrame s t) (k : LoadFrame t u) : LoadFrame s u :=
  ⟨k.line.trans h.line, k.roll.trans h.roll, k.cont.trans h.cont, k.stn.trans h.stn,
   k.port.trans h.port, k.clock.trans h.clock, k.pins.trans h.pins, k.inputs.trans h.inputs,
   k.free.trans h.free, k.pending.trans h.pending⟩

theorem KeepFrame.refl (s : State) : KeepFrame s s :=
  ⟨rfl, rfl, rfl, rfl, rfl, rfl, rfl, rfl, rfl, rfl⟩

theorem KeepFrame.trans (h : KeepFrame s t) (k : KeepFrame t u) : KeepFrame s u :=
  ⟨k.image.trans h.image, k.locked.trans h.locked, k.enables.trans h.enables, k.reply.trans h.reply,
   k.rx.trans h.rx, k.clock.trans h.clock, k.pins.trans h.pins, k.inputs.trans h.inputs,
   k.free.trans h.free, k.pending.trans h.pending⟩

theorem LoadFrame.keep (h : LoadFrame s t) : KeepFrame s t :=
  ⟨by rw [h.port], by rw [h.port], by rw [h.port], by rw [h.port], by rw [h.port], h.clock, h.pins,
   h.inputs, h.free, h.pending⟩

end

/-! ### The four setters and the operations over them -/

section
variable (s : State) (c : Chan)

theorem setTable_load (x : UnitTable) : LoadFrame s (s.setTable x) :=
  ⟨rfl, rfl, rfl, rfl, rfl, rfl, rfl, rfl, rfl, rfl⟩

theorem setChans_load (x : Channels) : LoadFrame s (s.setChans x) :=
  ⟨rfl, rfl, rfl, rfl, rfl, rfl, rfl, rfl, rfl, rfl⟩

theorem setSeq_load (x : Sequencer) : LoadFrame s (s.setSeq x) :=
  ⟨rfl, rfl, rfl, rfl, rfl, rfl, rfl, rfl, rfl, rfl⟩

theorem setNotice_load (x : NoticeUnit) : LoadFrame s (s.setNotice x) :=
  ⟨rfl, rfl, rfl, rfl, rfl, rfl, rfl, rfl, rfl, rfl⟩

theorem setChan_load (r : ChannelRec) : LoadFrame s (s.setChan c r) := setChans_load s _

theorem setChState_load (x : ChState) : LoadFrame s (s.setChState c x) := setChan_load s c _

theorem bindUnits_load (ks : List Nat) : LoadFrame s (s.bindUnits c ks) := setTable_load s _

theorem releaseUnits_load : LoadFrame s (s.releaseUnits c) := setTable_load s _

theorem returnUnits_load : LoadFrame s (s.returnUnits c) := setTable_load s _

theorem releaseSpares_load (mask : BitVec 4) : LoadFrame s (s.releaseSpares mask) := setTable_load s _

theorem dropPicture_load : LoadFrame s s.dropPicture := setTable_load s _

theorem turnOn_load : LoadFrame s (s.turnOn c) := (setSeq_load s _).trans (setChState_load _ c _)

theorem checkHead_load : LoadFrame s s.checkHead := by
  unfold State.checkHead
  split
  · exact .refl s
  · split
    · exact turnOn_load s _
    · exact .refl s

theorem appendStart_load : LoadFrame s (s.appendStart c) :=
  (setSeq_load s _).trans (checkHead_load _)

theorem removeStart_load (leaving : Bool) : LoadFrame s (s.removeStart c leaving) := by
  unfold State.removeStart
  dsimp only
  split
  · exact (setSeq_load s _).trans (checkHead_load _)
  · exact setSeq_load s _

theorem clearOutput_load : LoadFrame s (s.clearOutput c) := setSeq_load s _

theorem restartWait_load : LoadFrame s (s.restartWait c) := by
  unfold State.restartWait
  split
  · exact setChState_load s c _
  · exact .refl s

theorem setSlot_load (x : Option YieldReq) : LoadFrame s (s.setSlot x) := setNotice_load s _

theorem dropRequester_load : LoadFrame s (s.dropRequester c) := by
  unfold State.dropRequester
  split
  · split
    · exact setSlot_load s _
    · exact .refl s
  · exact .refl s

theorem freeRequester_load : LoadFrame s s.freeRequester := by
  unfold State.freeRequester
  split
  · split
    · exact restartWait_load s _
    · exact .refl s
  · exact .refl s

theorem emptySlot_load : LoadFrame s s.emptySlot :=
  (freeRequester_load s).trans (setSlot_load _ none)

theorem joinQueue_load : LoadFrame s (s.joinQueue c) :=
  (setChans_load s _).trans (setChState_load _ c _)

theorem leaveQueue_load : LoadFrame s (s.leaveQueue c) :=
  (setChans_load s _).trans (dropRequester_load _ c)

theorem toStarting_load : LoadFrame s (s.toStarting c) :=
  ((leaveQueue_load s c).trans (setChState_load _ c _)).trans (appendStart_load _ c)

theorem bindSpares_load : LoadFrame s (s.bindSpares c) :=
  (bindUnits_load s c _).trans (toStarting_load _ c)

theorem spareWalk_load (n : Nat) (s : State) : LoadFrame s (spareWalk n s) := by
  induction n generalizing s with
  | zero => exact .refl s
  | succ n ih =>
    unfold spareWalk
    split
    · exact .refl s
    · exact (bindSpares_load s _).trans (ih _)

theorem spareCheck_load : LoadFrame s s.spareCheck := by
  unfold State.spareCheck
  split
  · exact spareWalk_load _ s
  · exact .refl s

theorem enterWaiting_load (leaving : Bool) : LoadFrame s (s.enterWaiting c leaving) := by
  unfold State.enterWaiting
  split
  · exact joinQueue_load s c
  · exact (joinQueue_load s c).trans (spareCheck_load _)

theorem startOffSince_load : LoadFrame s (s.startOffSince c) := setChan_load s c _

theorem writeCause_load (cause : ShedCause) : LoadFrame s (s.writeCause c cause) := setChan_load s c _

theorem stopChan_load : LoadFrame s (s.stopChan c) := by
  unfold State.stopChan
  split
  · exact (((clearOutput_load s c).trans (returnUnits_load _ c)).trans (startOffSince_load _ c)).trans
      (setChState_load _ c _)
  · exact ((returnUnits_load s c).trans (setChState_load _ c _)).trans (removeStart_load _ c _)
  · exact .refl s

theorem shedNext_load (leaving : Bool) : LoadFrame s (s.shedNext c leaving) := by
  unfold State.shedNext
  split
  · exact enterWaiting_load s c leaving
  · exact .refl s

theorem shedChan_load (cause : ShedCause) (leaving : Bool) : LoadFrame s (s.shedChan cause leaving c) := by
  unfold State.shedChan
  split
  · have h : LoadFrame s ((((s.clearOutput c).releaseUnits c).startOffSince c).writeCause c cause) :=
      (((clearOutput_load s c).trans (releaseUnits_load _ c)).trans (startOffSince_load _ c)).trans
        (writeCause_load _ c cause)
    dsimp only
    split
    · exact h.trans (setChState_load _ c _)
    · split
      · exact h.trans (setChState_load _ c _)
      · exact (h.trans (setChState_load _ c _)).trans (shedNext_load _ c leaving)
  · have h : LoadFrame s ((s.releaseUnits c).writeCause c cause) :=
      (releaseUnits_load s c).trans (writeCause_load _ c cause)
    dsimp only
    split
    · exact (h.trans (setChState_load _ c _)).trans (removeStart_load _ c leaving)
    · exact ((h.trans (setChState_load _ c _)).trans (removeStart_load _ c leaving)).trans
        (shedNext_load _ c leaving)
  · split
    · exact ((leaveQueue_load s c).trans (writeCause_load _ c cause)).trans (setChState_load _ c _)
    · exact .refl s
  · exact .refl s

theorem demandAppears_load : LoadFrame s (s.demandAppears c) := by
  unfold State.demandAppears
  split
  · exact enterWaiting_load s c false
  · exact setChState_load s c _
  · exact .refl s

theorem demandDisappears_load : LoadFrame s (s.demandDisappears c) := by
  unfold State.demandDisappears
  split
  · exact (leaveQueue_load s c).trans (setChState_load _ c _)
  · exact stopChan_load s c
  · split
    · exact stopChan_load s c
    · exact setChState_load s c _
  · exact .refl s

theorem writeInputs_load (r : ChannelRec) : LoadFrame s (s.writeInputs c r) := by
  unfold State.writeInputs
  dsimp only
  split
  · exact setChan_load s c r
  · split
    · exact (setChan_load s c r).trans (demandAppears_load _ c)
    · exact (setChan_load s c r).trans (demandDisappears_load _ c)

theorem offer_load : LoadFrame s (s.offer c) := by
  unfold State.offer
  split
  · exact (freeRequester_load s).trans (setSlot_load _ _)
  · exact restartWait_load s c

end

/-- A fold of operations that keep a frame keeps it. -/
theorem foldl_load {α : Type} (f : State → α → State) (h : ∀ s a, LoadFrame s (f s a)) (l : List α)
    (s : State) : LoadFrame s (l.foldl f s) := by
  induction l generalizing s with
  | nil => exact .refl s
  | cons a l ih => exact (h s a).trans (ih _)

/-- A fold of operations that keep a frame keeps it. -/
theorem foldl_keep {α : Type} (f : State → α → State) (h : ∀ s a, KeepFrame s (f s a)) (l : List α)
    (s : State) : KeepFrame s (l.foldl f s) := by
  induction l generalizing s with
  | nil => exact .refl s
  | cons a l ih => exact (h s a).trans (ih _)

/-! ### Events, conditions and changes of station state -/

section
variable (s : State)

theorem setEvent_keep (e : Event) : KeepFrame s (s.setEvent e) :=
  ⟨rfl, rfl, rfl, rfl, rfl, rfl, rfl, rfl, rfl, rfl⟩

theorem setLine_keep (x : LineIf) : KeepFrame s (s.setLine x) :=
  ⟨rfl, rfl, rfl, rfl, rfl, rfl, rfl, rfl, rfl, rfl⟩

theorem setRoll_keep (x : RollTracker) : KeepFrame s (s.setRoll x) :=
  ⟨rfl, rfl, rfl, rfl, rfl, rfl, rfl, rfl, rfl, rfl⟩

theorem setCont_keep (x : Contention) : KeepFrame s (s.setCont x) :=
  ⟨rfl, rfl, rfl, rfl, rfl, rfl, rfl, rfl, rfl, rfl⟩

theorem setStn_keep (x : StationCtl) : KeepFrame s (s.setStn x) :=
  ⟨rfl, rfl, rfl, rfl, rfl, rfl, rfl, rfl, rfl, rfl⟩

theorem setNotice_keep (x : NoticeUnit) : KeepFrame s (s.setNotice x) := (setNotice_load s x).keep

theorem setTable_keep (x : UnitTable) : KeepFrame s (s.setTable x) := (setTable_load s x).keep

theorem holdClear_keep : KeepFrame s s.holdClear := by
  unfold State.holdClear
  split
  · exact .refl s
  · exact (setSeq_load s _).keep

theorem settle_keep : KeepFrame s s.settle :=
  ((holdClear_keep s).trans (setRoll_keep _ _)).trans (setStn_keep _ _)

theorem releaseLine_keep : KeepFrame s s.releaseLine := (setLine_keep s _).trans (setRoll_keep _ _)

theorem stationShed_keep (cause : ShedCause) : KeepFrame s (s.stationShed cause) := by
  have h : KeepFrame s (allChans.foldl (fun u c => u.shedChan cause true c) s) :=
    (foldl_load _ (fun u c => shedChan_load u c cause true) allChans s).keep
  unfold State.stationShed
  dsimp only
  split
  · exact h.trans (setEvent_keep _ _)
  · exact h

theorem abandonClaim_keep : KeepFrame s s.abandonClaim := by
  unfold State.abandonClaim
  split
  · exact setCont_keep s _
  · exact .refl s

theorem abandonSend_keep : KeepFrame s s.abandonSend := by
  unfold State.abandonSend
  split
  · split
    · exact .refl s
    · exact setNotice_keep s _
  · exact .refl s

theorem departNotice_keep : KeepFrame s s.departNotice :=
  ((abandonSend_keep s).trans (emptySlot_load _).keep).trans (setNotice_keep _ _)

theorem enterState_keep (x : StationState) : KeepFrame s (s.enterState x) := by
  unfold State.enterState
  dsimp only
  split <;> exact ((releaseLine_keep s).trans (setStn_keep _ _)).trans (setRoll_keep _ _)

theorem depart_keep (cause : ShedCause) (x : StationState) : KeepFrame s (s.depart cause x) :=
  (((((stationShed_keep s cause).trans (dropPicture_load _).keep).trans (abandonClaim_keep _)).trans
    (departNotice_keep _)).trans (setChans_load _ _).keep).trans (enterState_keep _ x)

theorem writeIncident_keep (cause : IncidentCause) (c : Option Chan) :
    KeepFrame s (s.writeIncident cause c) := setStn_keep s _

theorem faultDrive_keep (c : Option Chan) : KeepFrame s (s.faultDrive c) :=
  ((writeIncident_keep s _ c).trans (depart_keep _ _ _)).trans (setEvent_keep _ _)

theorem faultClash_keep : KeepFrame s s.faultClash :=
  ((writeIncident_keep s _ none).trans (depart_keep _ _ _)).trans (setEvent_keep _ _)

theorem enterActive_keep : KeepFrame s s.enterActive :=
  (((setEvent_keep s _).trans (setStn_keep _ _)).trans (setNotice_keep _ _)).trans (setCont_keep _ _)

theorem actRequest_keep (q : Request) : KeepFrame s (s.actRequest q) := by
  cases q
  · exact depart_keep s _ _
  · exact depart_keep s _ _

/-- Where a departure ends: the state it was asked for, with nothing pending (R143). -/
theorem enterState_stn (x : StationState) :
    (s.enterState x).stn.state = x ∧ (s.enterState x).stn.request = none := by
  cases x <;> exact ⟨rfl, rfl⟩

/-- After `settle` the latch is 0 unless the station is ACTIVE with KILLN high (R99). -/
theorem settle_latch (h : s.isActive = false ∨ s.stn.killnLow = true) : s.settle.seq.latch = 0 := by
  have e : s.settle.seq = s.holdClear.seq := rfl
  rw [e]
  unfold State.holdClear
  rcases h with h | h <;> simp [h]

end

end Sys2Proof.Machine
end

