-- ==== Sys2Proof/Laws/Port.lean ====
section
/-! SUPPORT. What the operations shared by the local-port commands do, said once (R164 to R166). -/

namespace Sys2Proof.Machine

section
variable (s : State) (t : Operands) (n : Nat) (v r : Reply) (e : State → State) (data : List Byte)

/-- The end of a write command as one state. -/
theorem finishWrite_eq : s.finishWrite r = { s with
    port := { s.port with
      reply := r
      events := if r.setsPortError then s.port.events ||| 0x1000 else s.port.events
      rx := SpiRx.reset } } := by
  unfold State.finishWrite State.errorFor
  cases h : r.setsPortError
  · rfl
  · rfl

theorem writeCommand_wrong_count (h : t.exactly n = false) :
    s.writeCommand t n v e = s.finishWrite .count := by
  simp [State.writeCommand, h]

theorem writeCommand_refused (h : t.exactly n = true) (k : v ≠ .accepted) :
    s.writeCommand t n v e = s.finishWrite v := by
  simp [State.writeCommand, h, k]

theorem writeCommand_accepted (h : t.exactly n = true) :
    s.writeCommand t n .accepted e = (e s).finishWrite .accepted := by
  simp [State.writeCommand, h]

theorem readCommand_wrong_count (h : t.bytes.length < n) :
    s.readCommand t n v data e = s.finishWrite .count := by
  simp [State.readCommand, Nat.not_le.mpr h]

theorem readCommand_refused (h : n ≤ t.bytes.length) (k : v ≠ .accepted) :
    s.readCommand t n v data e = (s.errorFor v).stageData v [] := by
  simp [State.readCommand, h, k]

theorem readCommand_accepted (h : n ≤ t.bytes.length) :
    s.readCommand t n .accepted data e = (e s).stageData .accepted data := by
  simp [State.readCommand, h]

/-- Staging a read's bytes changes the receive state alone. -/
theorem stageData_eq : s.stageData r data = { s with
    port := { s.port with
      rx := { s.port.rx with
        stage := .data, got := [], bits := 0
        out := r.code :: if r = .accepted then data else [] } } } := rfl

end

end Sys2Proof.Machine
end

