-- ==== Sys2Proof/Laws/Records.lean ====
section
/-! SUPPORT. Reading one unit record or one channel record after a write. -/

namespace Sys2Proof.Machine

section
variable (s : State) (c d : Chan) (r : ChannelRec) (x : ChState) (t : UnitTable) (f : Nat → View → View)

@[simp] theorem chan_setChan_self : (s.setChan c r).chan c = r := by
  simp [State.chan, State.setChan]

theorem chan_setChan_other (h : d ≠ c) : (s.setChan c r).chan d = s.chan d := by
  have k : c.val ≠ d.val := fun e => h (Fin.ext e.symm)
  simp [State.chan, State.setChan, Vector.getElem_set_ne, k]

@[simp] theorem chan_setChState_self : (s.setChState c x).chan c = { s.chan c with state := x } :=
  chan_setChan_self s c _

theorem chan_setChState_other (h : d ≠ c) : (s.setChState c x).chan d = s.chan d :=
  chan_setChan_other s c d _ h

/-- A change of views, unit by unit. -/
@[simp] theorem mapViews_record (k : Nat) :
    (t.mapViews f).recs[k]? = (t.recs[k]?).map fun r : UnitRec => { r with view := f k r.view } := by
  simp [UnitTable.mapViews, List.getElem?_mapIdx]

@[simp] theorem mapViews_length : (t.mapViews f).recs.length = t.recs.length := by
  simp [UnitTable.mapViews]

@[simp] theorem mapViews_driveSet : (t.mapViews f).driveSet = t.driveSet := rfl

@[simp] theorem mapViews_freeSet : (t.mapViews f).freeSet = t.freeSet := rfl

/-- The units whose record meets a test. -/
theorem mem_unitsWhere (p : UnitRec → Bool) (k : Nat) :
    k ∈ t.unitsWhere p ↔ ∃ r, t.recs[k]? = some r ∧ p r = true := by
  simp only [UnitTable.unitsWhere, List.mem_filter, List.mem_range]
  constructor
  · rintro ⟨h, g⟩
    have e : t.recs[k]? = some t.recs[k] := List.getElem?_eq_getElem h
    rw [e] at g
    exact ⟨_, e, by simpa using g⟩
  · rintro ⟨r, e, g⟩
    obtain ⟨h, _⟩ := List.getElem?_eq_some_iff.mp e
    exact ⟨h, by rw [e]; simpa using g⟩

/-- A channel joins the queue once, and no other entry comes or goes. -/
theorem mem_insertQueue (q : Chan → Nat) (l : List Chan) : d ∈ insertQueue q c l ↔ d = c ∨ d ∈ l := by
  induction l with
  | nil => simp [insertQueue]
  | cons a l ih =>
    unfold insertQueue
    split
    · simp only [List.mem_cons, ih]; tauto
    · simp

end

end Sys2Proof.Machine
end

