-- ==== Sys2Proof/Laws/RollEnd.lean ====
section
/-! SUPPORT. What the roll end and the events of one instant can do: frames of the roll end's parts, and the one rule
for things taken in a free order. -/

namespace Sys2Proof.Machine

section
variable {s : State}

theorem clearMark_keep : KeepFrame s s.clearMark := setStn_keep s _

@[simp] theorem clearMark_countable : s.clearMark.stn.countable = false := rfl

@[simp] theorem clearMark_state : s.clearMark.stn.state = s.stn.state := rfl

@[simp] theorem clearMark_joinCount : s.clearMark.stn.joinCount = s.stn.joinCount := rfl

/-- Outside JOINING and ACTIVE the roll end clears the mark and does nothing else (R140). -/
theorem endStation_elsewhere (valid : Bool) (h : s.stn.state ≠ .joining) (k : s.stn.state ≠ .active) :
    s.endStation valid = s.clearMark := by
  unfold State.endStation
  split
  · contradiction
  · contradiction
  all_goals rfl

theorem restartBusLoss_keep (valid : Bool) : KeepFrame s (s.restartBusLoss valid) := by
  unfold State.restartBusLoss
  split
  · exact setStn_keep s _
  · exact .refl s

theorem endActive_keep (valid : Bool) : KeepFrame s (s.endActive valid) := by
  unfold State.endActive
  dsimp only
  split
  · exact (restartBusLoss_keep valid).trans (actRequest_keep _ _)
  · exact restartBusLoss_keep valid

theorem endJoining_keep (valid : Bool) : KeepFrame s (s.endJoining valid) := by
  unfold State.endJoining
  dsimp only
  split
  · exact (setStn_keep s _).trans (enterActive_keep _)
  · exact setStn_keep s _

/-- The Station Controller's part of a roll end keeps the configuration, the replies and all outside the part. -/
theorem endStation_keep (valid : Bool) : KeepFrame s (s.endStation valid) := by
  unfold State.endStation
  split
  · exact endJoining_keep valid
  · exact (endActive_keep valid).trans clearMark_keep
  all_goals exact clearMark_keep

end

@[simp] theorem inFreeOrder_nil (n : Nat) (s : State) : inFreeOrder n [] s = s := by cases n <;> rfl

/-- One thing alone is taken with no choice drawn. -/
@[simp] theorem inFreeOrder_one (n : Nat) (f : State → State) (s : State) : inFreeOrder n [f] s = f s := by
  cases n <;> rfl

@[simp] theorem takeEvents_nil (s : State) : s.takeEvents [] = s := rfl

@[simp] theorem takeEvents_one (s : State) (e : TickEvent) : s.takeEvents [e] = s.takeEvent e := rfl

/-- Whatever each of some things keeps, and the counter of free values leaves alone, holds after all of them, in whatever
order they are taken (log 6). -/
theorem inFreeOrder_keeps {P : State → Prop} (free : ∀ s n, P s → P (s.setFree n)) (n : Nat)
    (l : List (State → State)) (each : ∀ f ∈ l, ∀ s, P s → P (f s)) (s : State) (start : P s) :
    P (inFreeOrder n l s) := by
  induction n generalizing l s with
  | zero =>
    match l with
    | [] => exact start
    | [f] => exact each f (by simp) s start
    | _ :: _ :: _ => exact start
  | succ n ih =>
    match l with
    | [] => exact start
    | [f] => exact each f (by simp) s start
    | f :: g :: rest =>
      have mem : ∀ k, (f :: g :: rest).getD k f ∈ f :: g :: rest := fun k => by
        rw [List.getD_eq_getElem?_getD]
        cases h : (f :: g :: rest)[k]? with
        | none => simp
        | some x => exact List.mem_of_getElem? h
      exact ih _ (fun x hx => each x (List.mem_of_mem_eraseIdx hx)) _ (each _ (mem _) _ (free s _ start))

/-- The events of one instant keep what each of them keeps. -/
theorem takeEvents_keeps {P : State → Prop} (free : ∀ s n, P s → P (s.setFree n)) (l : List TickEvent)
    (each : ∀ e ∈ l, ∀ s : State, P s → P (s.takeEvent e)) (s : State) (start : P s) : P (s.takeEvents l) :=
  inFreeOrder_keeps free _ _ (fun f hf => by
    obtain ⟨e, he, rfl⟩ := List.mem_map.1 hf
    exact each e he) s start

/-- A microsecond in which the elapsed timer comes to no stagger has no event of it. -/
theorem reachStagger_still {s : State} (h : s.staggerEnds = false) : s.reachStagger = s := by
  simp [State.reachStagger, h]

/-- Every other time event is taken by its row exactly where it is still due. -/
theorem takeRow_of_ne {s : State} {i : Instr} (h : i ≠ .staggerReached) :
    s.takeRow i = if s.stillDue i then s.fire i else s := by
  unfold State.takeRow
  split
  · contradiction
  · rfl

/-- Where the elapsed timer comes to a stagger, it does not count before the events of that instant. -/
theorem advanceTimers_elapsed {s : State} (h : s.staggerEnds = true) :
    s.advanceTimers.seq.elapsed = s.seq.elapsed := by
  simp [State.advanceTimers, h]

/-- A bit in which the station takes no part is not compared (R18). -/
theorem readback_undriven {s : State} {v : Level} (h : s.line.drive = none) : s.readback v = s := by
  simp [State.readback, h]

/-- A reading that is no stuck line does nothing after its comparison. -/
theorem readLine_of_not_stuck {s : State} {v : Level}
    (h : ((s.setLine { s.line with value := v }).readback v).stuckNow v = false) :
    s.readLine v = (s.setLine { s.line with value := v }).readback v := by
  simp [State.readLine, h]

/-- Inside a phase the Roll Tracker goes one position on and takes no event (R9). -/
theorem phaseEvent_inside {s : State} {q last : Nat} {i : Instr} (h : q ≠ last) :
    s.phaseEvent q last i = s.setRoll { s.roll with position := q } := by
  simp [State.phaseEvent, h]

end Sys2Proof.Machine
end

