-- ==== Sys2Proof/WellFormed.lean ====
section
/-! DEFINITION. Which command terms can stand for an event of this part: each check bounds an operand as
the spec bounds it. The meanings are total and do not rely on it. -/

namespace Sys2Proof

/-- A reading of slots: unit numbers in ascending order, each below 64 (R23, R9). -/
def readingOk (units : List Nat) : Bool :=
  decide (units.Pairwise (· < ·)) && units.all (· < 64)

/-- A last byte that was not completed has fewer than eight bits (R165). -/
def Operands.ok (t : Operands) : Bool := decide (t.tail < 8)

/-- Well-formed commands. -/
def Instr.wf : Instr → Bool
  | .por | .reset | .killnLow | .killnHigh => true
  | .filteredLevelChange pins => decide (pins ≠ 0)
  | .settlingEnd | .openRoll | .rollStart | .malformedOpen | .candidateOpen => true
  | .holdComplete units => readingOk units
  | .arbitrationLost bit => decide (bit ≤ 9)
  | .claimResolved _ => true
  | .takeComplete units => readingOk units
  | .flagReading _ | .noticeCharacter _ _ _ _ | .noticeEnd _ | .rollEnd _ _ => true
  | .driveReport phase position => decide (phase = .openPulse ∨ 1 ≤ position)
  | .conflict _ | .stuckLine | .silenceTimerExpiry | .busLossExpiry => true
  | .lingerExpiry unit => decide (unit < 64)
  | .waitTimerExpiry _ | .minOnExpiry _ | .minOffExpiry _ => true
  | .fenceExpiry sender => decide (sender ≠ 63)
  | .yieldHoldoffExpiry | .staggerReached | .statusCapture | .csnRise => true
  | .cfgWrite t | .cfgRead t | .lock t | .demandSet t | .demandClear t | .park t | .unpark t
  | .send t | .yield t | .pop t | .readUnit t | .readChannel t | .readQueue t | .readStation t
  | .readIncident t | .readEvents t | .clearEvents t | .setEnables t | .join t | .leave t | .quiet t
  | .clearFault t | .softReset t => t.ok
  | .unknownCommand code => (Command.ofCode code).isNone
  | .openNoise run => decide (run ≤ 2)

end Sys2Proof
end

