-- ==== Sys2Proof/Tests/Slice0.lean ====
section
/-! SUPPORT. The model's own tests: the checks of WellFormed, one or two steps a command with results taken from the
spec's worked tables, and a witness for the hypotheses of every statement. -/

set_option Elab.async false

namespace Sys2Proof.Tests

open Sys2Proof.Machine

/-! ### States -/

def after (s : State) (i : Instr) : State :=
  match exec i s with
  | .next t => t
  | .fault _ => s
  | .refused _ => s

/-- The image with some bytes written over the reset values. -/
def image (l : List (Nat × Nat)) : Image :=
  l.foldl (fun m e =>
    match placeOf e.1 with
    | some p => m.write p (BitVec.ofNat 8 e.2)
    | none => m) Image.reset

/-- CONFIG with an image. -/
def config (l : List (Nat × Nat)) : State := State.reset.setPort { State.reset.port with image := image l }

/-- After an accepted LOCK. -/
def locked (l : List (Nat × Nat)) : State := after (config l) (.lock (whole []))

def inState (x : StationState) (s : State) : State := s.setStn { s.stn with state := x }

def inRoll (position : Nat) (s : State) : State :=
  s.setRoll { s.roll with state := .inRoll, valid := true, parsing := true, position := position }

def tracker (x : RollState) (s : State) : State := s.setRoll { s.roll with state := x }

/-- Some units with a view. -/
def view (v : View) (ks : List Nat) (s : State) : State :=
  s.setTable (s.table.mapViews fun k w => if k ∈ ks then v else w)

def chanIn (c : Chan) (x : ChState) (s : State) : State := s.setChState c x

def record (f : ChannelRec → ChannelRec) (c : Chan) (s : State) : State := s.setChan c (f (s.chan c))

/-- A queue, with the entry counter past the stamps that the states of these tests give. -/
def queue (l : List Chan) (s : State) : State := s.setChans { s.chans with queue := l, entries := l.length }

def starts (l : List Chan) (elapsed : Nat) (latch : BitVec 8) (s : State) : State :=
  s.setSeq { startList := l, elapsed := elapsed, latch := latch }

def claim (bid : Bid) (outcome : ClaimOutcome) (lossRun : Nat) (s : State) : State :=
  s.setCont { s.cont with bid := bid, outcome := outcome, lossRun := lossRun }

def received (flag : Level) (header : Option Header) (id : BitVec 6) (chars : List RxChar) (s : State) :
    State :=
  (s.setRoll { s.roll with flag := some flag, header := header }).setNotice
    { s.notice with recv := some { sender := some id, chars := chars } }

/-- A character without errors. -/
def good (b : Byte) : RxChar := { data := b, framing := false, marker := false }

def notice (id : BitVec 6) (header : Byte) (payload : List Byte) : StoredNotice :=
  { sender := id, header := some header, payload := payload
    errors := { framing := false, marker := false, check := false, length := false, cut := false } }

def ring (l : List StoredNotice) (s : State) : State := s.setNotice { s.notice with ring := l }

def slot (x : Option YieldReq) (s : State) : State := s.setSlot x

def request (p : Nat) (mask : BitVec 4) (wanted : Nat) (c : Option Chan) : YieldReq :=
  { priority := p, mask := mask, wanted := wanted, origin := .auto, requester := c }

/-- A station with ID 9 and the default items, ACTIVE, nothing waiting (07, 08). -/
def nine : State := inState .active (locked [(0, 9)])

/-! ### WellFormed refuses an ill-formed term of each check -/

theorem test_wf_no_pin_changes : Instr.wf (.filteredLevelChange 0) = false := by decide
theorem test_wf_hold_not_ascending : Instr.wf (.holdComplete [3, 1]) = false := by decide
theorem test_wf_hold_unit_64 : Instr.wf (.holdComplete [64]) = false := by decide
theorem test_wf_take_repeated : Instr.wf (.takeComplete [5, 5]) = false := by decide
theorem test_wf_claim_bit_10 : Instr.wf (.arbitrationLost 10) = false := by decide
theorem test_wf_drive_at_sync : Instr.wf (.driveReport .hold 0) = false := by decide
theorem test_wf_linger_unit_64 : Instr.wf (.lingerExpiry 64) = false := by decide
theorem test_wf_fence_of_63 : Instr.wf (.fenceExpiry 63) = false := by decide
theorem test_wf_tail_8 : Instr.wf (.cfgWrite { bytes := [], tail := 8 }) = false := by decide
theorem test_wf_known_code : Instr.wf (.unknownCommand 0x32) = false := by decide
theorem test_wf_noise_run_3 : Instr.wf (.openNoise 3) = false := by decide

/-! ### The table gives no bits: no word spells a command, and none changes the queue (log 19) -/

theorem test_no_word_spells : decodeTableWord 8 0x32 = none := by decide
theorem test_fetch_word_keeps : nine.withFetchWord 8 0x32 = nine := by decide +kernel

/-! ### Chapter 02, a sixteen-unit table through one roll -/

/-- Station S with its windows, SPARE_MAX 2, LINGER 30, and channels 0, 1, 2, 3. -/
def plan : List (Nat × Nat) :=
  [(0x00, 20), (0x03, 0), (0x04, 3), (0x05, 2), (0x06, 4), (0x07, 13), (0x08, 0), (0x0F, 2), (0x10, 30),
   (0x20, 1), (0x21, 2), (0x22, 2), (0x29, 1), (0x2B, 2), (0x32, 1), (0x33, 2), (0x34, 1), (0x35, 3),
   (0x3B, 1), (0x3D, 2)]

/-- S before the roll. -/
def stationS : State :=
  starts [] 2550000 0x05 (queue [3] (chanIn 3 (.waiting 0 none) (chanIn 2 (.on false 9000000)
    (chanIn 0 (.on false 9000000) (record (fun r => { r with level := true }) 3
    (record (fun r => { r with level := true }) 0 (view .peer [2, 8, 9, 12] (view .releasing [7]
    (view (.own 0) [5, 6] (view (.own 2) [0, 1] (view (.spare 1400000) [3] (view .free [4, 10, 11, 13]
    (inState .active (locked plan))))))))))))))

/-- S at the HOLD's last slot, channel 0 stopped since. -/
def stationSHold : State :=
  after (inRoll 15 (after (tracker .opening stationS) .rollStart)) (.filteredLevelChange 0x01)

def stationSTake : State :=
  inRoll 41 (claim .nothing (.lost 0) 1 (after stationSHold (.holdComplete [0, 1, 2, 3, 5, 6, 8, 12, 15])))

theorem test_rollStart_latches_drive_set :
    (after (tracker .opening stationS) .rollStart).table.driveSet = [0, 1, 3, 5, 6] := by decide +kernel

theorem test_filteredLevelChange_stops_and_keeps_spare :
    stationSHold.seq.latch = 0x04 ∧ (stationSHold.table.recs[5]?).map UnitRec.view = some (.spare 3000000) ∧
      (stationSHold.table.recs[6]?).map UnitRec.view = some .releasing := by decide +kernel

theorem test_holdComplete_views :
    (after stationSHold (.holdComplete [0, 1, 2, 3, 5, 6, 8, 12, 15])).table.recs.map UnitRec.view =
      [.own 2, .own 2, .peer, .spare 1400000, .free, .spare 3000000, .releasing, .free, .peer, .free, .free,
       .free, .peer, .free, .dead, .dead] := by decide +kernel

theorem test_holdComplete_free_set_and_skew :
    (after stationSHold (.holdComplete [0, 1, 2, 3, 5, 6, 8, 12, 15])).table.freeSet = [4, 7, 9, 10, 11, 13] ∧
    (after stationSHold (.holdComplete [0, 1, 2, 3, 5, 6, 8, 12, 15])).hasEvent .skew = true := by
  decide +kernel

theorem test_takeComplete_overlap_on_spare :
    ((after stationSTake (.takeComplete [3])).table.recs[3]?).map UnitRec.view = some .peer ∧
    (after stationSTake (.takeComplete [3])).hasEvent .overlap = true ∧
    (after stationSTake (.takeComplete [3])).hasEvent .shed = false := by decide +kernel

/-- S at the end of FLAG. -/
def stationSEnd : State := after (after stationSTake (.takeComplete [3])) (.flagReading .recessive)

theorem test_rollEnd_binds_spare :
    ((after stationSEnd (.rollEnd .flag .checkFirst)).table.recs[5]?).map UnitRec.view = some (.own 3) ∧
    (after stationSEnd (.rollEnd .flag .checkFirst)).table.spareCount = 0 ∧
    (after stationSEnd (.rollEnd .flag .checkFirst)).chans.queue = [] := by decide +kernel

theorem test_readUnit_spare :
    (after stationS (.readUnit (whole [3]))).port.rx.out = [0x00, 5, 0, 0, 14] := by decide +kernel

/-! ### Chapter 03, a three-bidder claim -/

/-- Station F before HOLD complete: ID 37, channel 5 of weight 2, priority 1, mask W1; loss run 5. -/
def stationF : State :=
  inRoll 15 (claim .nothing .noBid 5 (queue [5] (chanIn 5 (.waiting 0 none)
    (view .peer [0, 1, 2, 3, 5, 8, 9, 11, 12, 13, 14, 15] (view .free [4, 6, 7, 10]
    (inState .active (locked [(0, 37), (3, 1), (4, 0), (6, 0), (7, 15), (0x4D, 1), (0x4E, 2), (0x4F, 2),
      (0x50, 1)])))))))

def stationFBid : State := after stationF (.holdComplete [0, 1, 2, 3, 5, 8, 9, 11, 12, 13, 14, 15])

theorem test_holdComplete_claim_word_of_F :
    stationFBid.cont.bid = .channel 5 [4, 6] none 1 613 := by decide +kernel

theorem test_claim_words_of_E_and_G : claimWord 1 0 12 = 716 ∧ claimWord 1 4 44 = 620 := by decide

/-- Station G, lost at bit 6 with loss run 4. -/
def stationG : State :=
  inRoll 25 (claim .nothing (.lost 6) 4 (inState .active (locked [(0, 44)])))

theorem test_claimResolved_lost_counts :
    (after stationG (.claimResolved 613)).cont.lossRun = 5 ∧
    (after stationG (.claimResolved 613)).cont.last = { outcome := .lost 6, word := 613 } := by decide +kernel

theorem test_arbitrationLost_bit_2 :
    (after (inRoll 18 (claim .nothing .bidding 0 nine)) (.arbitrationLost 2)).cont.outcome = .lost 2 := by
  decide +kernel

theorem test_claimResolved_own_word_wins :
    (after stationFBid (.claimResolved 613)).cont.outcome = .won ∧
    (after stationFBid (.claimResolved 613)).cont.lossRun = 0 := by decide +kernel

theorem test_takeComplete_binds_4_and_6 :
    (after (after stationFBid (.claimResolved 613)) (.takeComplete [4, 6])).table.boundUnits 5 = [4, 6] ∧
    (after (after stationFBid (.claimResolved 613)) (.takeComplete [4, 6])).chans.queue = [] := by
  decide +kernel

/-! ### Chapter 04, a channel through stop-pending and cooldown -/

/-- Channel 2: weight 2, priority 1, min on 60, min off 30, stagger 50, source EITHER, ON on units 6 and 7. -/
def stationC : State :=
  starts [] 2550000 0x04 (view (.own 2) [6, 7] (chanIn 2 (.on false 19600000) (view .free [0, 1, 2, 3]
    (inState .active (locked [(0, 1), (0x32, 1), (0x33, 2), (0x35, 1), (0x36, 60), (0x37, 30), (0x38, 50),
      (0x39, 2)])))))

theorem test_demandSet_clears_mark :
    ((after (chanIn 2 (.on true 30000000) stationC) (.demandSet (whole [0x04]))).chan 2).state =
      .on false 30000000 := by decide +kernel

theorem test_demandClear_marks_before_min_on :
    ((after (record (fun r => { r with soft := true }) 2 (chanIn 2 (.on false 49600000) stationC))
      (.demandClear (whole [0x04]))).chan 2).state = .on true 49600000 := by decide +kernel

/-- After the stop at 60.4. -/
def stationCOff : State := after (chanIn 2 (.on true 59999999) stationC) (.minOnExpiry 2)

theorem test_minOnExpiry_stops :
    (stationCOff.chan 2).state = .cooldown ∧ stationCOff.seq.latch = 0 ∧
    (stationCOff.table.recs[6]?).map UnitRec.view = some .releasing := by decide +kernel

def stationCPark : State :=
  after (record (fun r => { r with level := true, offSince := some 14600000 }) 2 stationCOff)
    (.park (whole [0x04]))

theorem test_park_in_cooldown_writes_no_cause :
    (stationCPark.chan 2).state = .parked ∧ (stationCPark.chan 2).lastShed = .none := by decide +kernel

theorem test_unpark_before_min_off :
    ((after (record (fun r => { r with offSince := some 19600000 }) 2 stationCPark)
      (.unpark (whole [0x04]))).chan 2).state = .cooldown := by decide +kernel

theorem test_minOffExpiry_waits_again :
    (after (record (fun r => { r with level := true, offSince := some 29999999 }) 2 stationCOff)
      (.minOffExpiry 2)).chans.queue = [2] := by decide +kernel

/-! ### Chapter 05, a start sequence with a removal and a kill -/

/-- At 0.150: channel 0 ON, channel 4 STARTING, two spares: unit 4 in W1 for channel 1, unit 8 in W2 for
channel 6. -/
def stationT : State :=
  starts [4] 150000 0x01 (view (.own 4) [1, 2] (view (.own 0) [0] (view (.spare 5000000) [4, 8]
    (record (fun r => { r with level := true }) 4 (chanIn 4 .starting (chanIn 0 (.on false 150000)
    (inState .active (locked [(0, 2), (4, 3), (6, 4), (7, 7), (9, 8), (10, 11), (0x0F, 2), (0x10, 50),
      (0x20, 1), (0x23, 1), (0x26, 40), (0x29, 1), (0x2B, 2), (0x2F, 30), (0x44, 1), (0x45, 2), (0x47, 1),
      (0x4A, 100), (0x56, 1), (0x58, 4), (0x5C, 20)]))))))))

theorem test_filteredLevelChange_two_channels_bind :
    (after (starts [4] 170000 0x01 stationT) (.filteredLevelChange 0x42)).seq =
      { startList := [4, 1, 6], elapsed := 170000, latch := 0x01 } := by decide +kernel

/-- At 0.600, before DEM4 goes low. -/
def stationT6 : State :=
  starts [4, 1, 6] 600000 0x01 (after (starts [4] 170000 0x01 stationT) (.filteredLevelChange 0x42))

theorem test_demand_gone_turns_new_head_on :
    (after stationT6 (.filteredLevelChange 0x10)).seq =
      { startList := [6], elapsed := 0, latch := 0x03 } := by decide +kernel

theorem test_staggerReached_turns_on :
    (after (starts [6] 199999 0x03 (after stationT6 (.filteredLevelChange 0x10))) .staggerReached).seq =
      { startList := [], elapsed := 0, latch := 0x43 } := by decide +kernel

theorem test_killnLow_clears_outputs :
    (after stationT6 .killnLow).seq.latch = 0 ∧ (after stationT6 .killnLow).stn.state = .halted ∧
    ((after stationT6 .killnLow).chan 0).lastShed = .kill := by decide +kernel

/-! ### Chapter 06, a yield between two stations -/

def windows24 : List (Nat × Nat) := [(2, 24), (4, 7), (5, 2), (6, 8), (7, 23), (8, 0)]

/-- Station J: ID 7, channel 5 of weight 4, priority 2, mask W0 and W1, waiting 5.0 s. -/
def stationJ : State :=
  queue [5] (chanIn 5 (.waiting 0 (some 1)) (inState .active
    (locked (windows24 ++ [(0, 7), (0x4D, 1), (0x4E, 4), (0x4F, 3), (0x50, 2), (0x55, 50)]))))

theorem test_waitTimerExpiry_writes_request :
    (after (stationJ.setTable { stationJ.table with freeSet := [23] }) (.waitTimerExpiry 5)).notice.slot =
      some (request 2 3 3 (some 5)) := by decide +kernel

/-- Station K: ID 30 with channels 0, 1, 2, 3, 4 as in the table; the notice of station 7 is complete. -/
def stationK : State :=
  received .dominant (some (.good 1)) 7 [good 0x31, good 0x23, good 0xAB]
    (view .free [23] (view (.spare 900000) [14] (view (.own 3) [0, 1] (view (.own 2) [13]
    (view (.own 1) [10, 11, 12] (view (.own 0) [8, 9] (starts [2] 0 0x0B (queue [4]
    (chanIn 4 (.waiting 0 none) (chanIn 3 (.on false 9000000) (chanIn 2 .starting
    (chanIn 1 (.on false 9000000) (chanIn 0 (.on false 40000000)
    (([0, 1, 2, 3, 4] : List Chan).foldl (fun s c => record (fun r => { r with level := true }) c s)
    (inRoll 79 (inState .active (locked (windows24 ++
      [(0, 30), (0x0F, 1), (0x10, 9), (0x20, 1), (0x21, 2), (0x22, 2), (0x29, 1), (0x2A, 3), (0x2B, 2),
       (0x2C, 1), (0x2D, 60), (0x2E, 20), (0x32, 1), (0x34, 2), (0x3B, 1), (0x3C, 2), (0x3E, 2),
       (0x44, 1), (0x46, 2), (0x47, 1)]))))))))))))))))))

def stationKAfter : State := after stationK (.noticeEnd .complete)

theorem test_noticeEnd_yield_at_K :
    stationKAfter.chans.queue = [4, 2, 0] ∧
    stationKAfter.chans.fences = [{ sender := 7, priority := 2, mask := 3, left := 1000000 }] ∧
    stationKAfter.seq.startList = [] := by decide +kernel

theorem test_noticeEnd_yield_releases_at_K :
    (stationKAfter.table.unitsWhere fun r => r.view == .releasing) = [8, 9, 13, 14] ∧
    stationKAfter.port.events = 0x0502 := by decide +kernel

/-- At K with a LEAVE pending the roll end may be taken with the notice between the check and the request (R117). -/
def stationKLeaving : State := stationK.setStn { stationK.stn with request := some .leave }

theorem test_rollEnd_notice_between_check_and_request :
    (after stationKLeaving (.rollEnd .check .noticeBetween)).stn.state = .left ∧
    ((after stationKLeaving (.rollEnd .check .noticeBetween)).chan 2).lastShed = .yield ∧
    (after stationKLeaving (.rollEnd .check .noticeBetween)).hasEvent .yieldIn = true ∧
    ((after stationKLeaving (.rollEnd .check .checkFirst)).chan 2).lastShed = .leave := by decide +kernel

theorem test_readQueue_at_K :
    ((after stationKAfter (.readQueue (whole []))).port.rx.out).take 15 =
      [0x00, 3, 4, 2, 0, 0, 0, 0, 0, 0, 1, 7, 2, 3, 10] := by decide +kernel

/-! ### Chapter 07, a check computed and a ring filling up -/

theorem test_presence_payload_and_check :
    (image [(4, 3), (5, 2), (6, 0), (7, 15), (8, 0)]).presencePayload = [0x10, 0x16, 0x02] ∧
    (mkSend .presence 0 0 [0x10, 0x16, 0x02] none).header = 0x03 ∧
    (mkSend .presence 0 0 [0x10, 0x16, 0x02] none).check = 0xD4 := by decide +kernel

/-- ID 9 with NOTICE_LEVEL 15 and 14 entries. -/
def ringed (n : Nat) : State :=
  ring (List.replicate n (notice 1 0x40 [])) (inRoll 59 (inState .active (locked [(0, 9), (0x13, 15)])))

def cutAtRing (n : Nat) : State :=
  received .dominant (some (.good 1)) 4 [good 0x39, good 0x21] (ringed n)

theorem test_noticeEnd_cut_stored :
    (after (cutAtRing 15) (.noticeEnd .cut)).notice.ring.getLast? =
      some { notice 4 0x39 [0x21] with
        errors := { framing := false, marker := false, check := false, length := false, cut := true } } ∧
    (after (cutAtRing 15) (.noticeEnd .cut)).port.events = 0x0400 := by decide +kernel

theorem test_noticeEnd_full_ring_overruns :
    (after (cutAtRing 16) (.noticeEnd .cut)).notice.ring.length = 16 ∧
    (after (cutAtRing 16) (.noticeEnd .cut)).port.events = 0x0800 := by decide +kernel

theorem test_noticeCharacter_header_03 :
    (after (inRoll 43 ((nine.setRoll { nine.roll with flag := some .dominant }).setNotice
      { nine.notice with recv := some { sender := some 4, chars := [] } }))
      (.noticeCharacter 0 0x03 false false)).roll.header = some (.good 3) := by decide +kernel

theorem test_noticeCharacter_marker_damages_header :
    (after (inRoll 43 ((nine.setRoll { nine.roll with flag := some .dominant }).setNotice
      { nine.notice with recv := some { sender := some 4, chars := [] } }))
      (.noticeCharacter 0 0x03 false true)).roll.header = some .damaged := by decide +kernel

/-! ### Chapter 08, a station through a bus loss, a kill and a fault -/

/-- Station D: ID 18, channel 3 of weight 2 ON on units 6 and 7, unit 9 a spare. -/
def stationD : State :=
  starts [] 0 0x08 (view (.spare 100000) [9] (view (.own 3) [6, 7] (chanIn 3 (.on false 5000000)
    (record (fun r => { r with level := true }) 3 (((inState .active (locked [(0, 18), (0x0F, 1), (0x10, 5),
      (0x3B, 1), (0x3C, 2)])).refreshBusLoss))))))

def stationDLoss : State := after (stationD.refreshBusLoss) .busLossExpiry

theorem test_busLossExpiry_row_200 :
    stationDLoss.stn.state = .joining ∧ stationDLoss.port.events = 0x0022 ∧
    stationDLoss.stn.incident = some { cause := .busLoss, state := .active, channel := none } ∧
    stationDLoss.chans.queue = [3] := by decide +kernel

theorem test_readIncident_row_350 :
    (after stationDLoss (.readIncident (whole []))).port.rx.out = [0x00, 3, 2, 0] ∧
    (after stationDLoss (.readIncident (whole []))).stn.incident = none := by decide +kernel

theorem test_killnLow_row_380 :
    (after stationDLoss .killnLow).stn.state = .halted ∧
    (after stationDLoss .killnLow).stn.incident =
      some { cause := .kill, state := .joining, channel := none } := by decide +kernel

theorem test_killnHigh_row_900 :
    (after (after stationDLoss .killnLow) .killnHigh).stn.state = .joining := by decide +kernel

/-- D in JOINING at the end of FLAG of the second countable roll. -/
def stationDJoin : State :=
  (inRoll 43 (stationDLoss.setStn { stationDLoss.stn with joinCount := 1, countable := true })).setRoll
    { (inRoll 43 stationDLoss).roll with flag := some .recessive }

theorem test_rollEnd_row_913 :
    (after stationDJoin (.rollEnd .flag .checkFirst)).stn.state = .active ∧
    (after stationDJoin (.rollEnd .flag .checkFirst)).hasEvent .joined = true ∧
    (after stationDJoin (.rollEnd .flag .checkFirst)).notice.presence = true := by decide +kernel

theorem test_rollEnd_clears_mark_outside_joining :
    (after (inState .quiet stationDJoin) (.rollEnd .flag .checkFirst)).stn.countable = false ∧
    (after (inState .quiet stationDJoin) (.rollEnd .flag .checkFirst)).stn.joinCount = 1 := by decide +kernel

theorem test_driveReport_row_925 :
    (after (tracker .opening nine) (.driveReport .openPulse 0)).stn.state = .faulted ∧
    (after (tracker .opening nine) (.driveReport .openPulse 0)).port.events = 0x0010 := by decide +kernel

theorem test_driveReport_names_channel :
    (after (inRoll 6 stationD) (.driveReport .hold 7)).stn.incident =
      some { cause := .drive, state := .active, channel := some 3 } := by decide +kernel

theorem test_clearFault_while_kill_low :
    (after ((inState .faulted nine).setStn { (inState .faulted nine).stn with killnLow := true })
      (.clearFault (whole []))).stn.state = .halted := by decide +kernel

/-! ### Chapter 08 and 01, single steps -/

theorem test_por_empties_incident : (after stationDLoss .por).stn.incident = none := by decide +kernel

theorem test_reset_keeps_incident :
    (after stationDLoss .reset).stn.incident = stationDLoss.stn.incident ∧
    (after stationDLoss .reset).port.image.stationId = 63 := by decide +kernel

theorem test_conflict_third_faults :
    (after (inRoll 30 (claim .nothing .won 0 (nine.setCont { nine.cont with conflictRun := 2 })))
      (.conflict .take)).stn.state = .faulted := by decide +kernel

theorem test_stuckLine_in_joining :
    (after (inRoll 30 (stationDLoss.setStn { stationDLoss.stn with joinCount := 1 })) .stuckLine).stn.joinCount
      = 0 := by decide +kernel

theorem test_silenceTimerExpiry_wishes : (after stationDLoss .silenceTimerExpiry).roll.openWish = true := by
  decide +kernel

theorem test_settlingEnd_gap : (after (locked [(0, 9)]) .settlingEnd).roll.gap = 12 := by decide +kernel

theorem test_openRoll_merges :
    (after ((tracker .opening nine).setRoll { (tracker .opening nine).roll with openWish := true })
      .openRoll).roll.openLeft = 4 := by decide +kernel

theorem test_candidateOpen_aligns :
    (after (tracker .idle (nine.setLine { nine.line with phase := 33 })) .candidateOpen).line.phase = 0 := by
  decide +kernel

theorem test_openNoise_gap : (after (tracker .opening nine) (.openNoise 2)).roll.gap = 1 := by decide +kernel

theorem test_malformedOpen_settles : (after (tracker .opening nine) .malformedOpen).roll.state = .settling := by
  decide +kernel

/-- CLK period 24 of a bit time of 40 is the third sample point (R2). -/
theorem test_value_known_at_third_sample :
    (inRoll 3 (nine.setLine { nine.line with phase := 23, samples := [.dominant, .recessive] })).lineEvent
      .recessive = .read .recessive ∧
    (inRoll 3 (nine.setLine { nine.line with phase := 39, samples := [.dominant, .recessive, .dominant],
                                             value := .dominant })).lineEvent .recessive =
      .close .dominant false false := by decide +kernel

theorem test_flagReading_kept :
    (after (inRoll 42 nine) (.flagReading .dominant)).roll.flag = some .dominant := by decide +kernel

theorem test_lingerExpiry_releases :
    ((after stationS (.lingerExpiry 3)).table.recs[3]?).map UnitRec.view = some .releasing := by decide +kernel

theorem test_fenceExpiry_removes : (after stationKAfter (.fenceExpiry 7)).chans.fences = [] := by
  decide +kernel

theorem test_yieldHoldoffExpiry_zero :
    (after (nine.setNotice { nine.notice with holdoff := 1 }) .yieldHoldoffExpiry).notice.holdoff = 0 := by
  decide +kernel

theorem test_join_from_quiet : (after (inState .quiet nine) (.join (whole []))).stn.state = .joining := by
  decide +kernel

theorem test_leave_waits_for_roll_end :
    (after (inRoll 5 nine) (.leave (whole []))).stn.request = some .leave ∧
    (after nine (.leave (whole []))).stn.state = .left := by decide +kernel

theorem test_quiet_replaces_leave :
    (after (after (inRoll 5 nine) (.leave (whole []))) (.quiet (whole []))).stn.request = some .quiet := by
  decide +kernel

theorem test_softReset_clears_events :
    (after stationDLoss (.softReset (whole []))).port.events = 0 ∧
    (after stationDLoss (.softReset (whole []))).stn.incident = stationDLoss.stn.incident := by decide +kernel

/-! ### Chapter 09 -/

/-- The image of "a lock that fails and one that passes". -/
def lockPlan : List (Nat × Nat) :=
  [(0, 9), (4, 3), (5, 2), (6, 0), (7, 15), (8, 0), (0x29, 1), (0x2A, 2), (0x2B, 2), (0x32, 1), (0x33, 5),
   (0x34, 1), (0x35, 3)]

theorem test_lock_fails_at_33 :
    (after (config lockPlan) (.lock (whole []))).port.reply.code = 0xB3 ∧
    (after (config lockPlan) (.lock (whole []))).port.events = 0x1000 ∧
    (after (config lockPlan) (.lock (whole []))).stn.state = .config := by decide +kernel

theorem test_lock_passes_with_mask_3 :
    (after (config (lockPlan ++ [(0x34, 3)])) (.lock (whole []))).port.reply = .accepted ∧
    (after (after (config (lockPlan ++ [(0x34, 3)])) (.lock (whole []))) .statusCapture).port.rx.status = 0x21 :=
  by decide +kernel

theorem test_cfgWrite_range :
    (after State.reset (.cfgWrite (whole [0x13, 0]))).port.reply = .range ∧
    (after State.reset (.cfgWrite (whole [0x00, 255]))).port.reply = .accepted := by decide +kernel

theorem test_cfgRead_bus_loss :
    (after State.reset (.cfgRead (whole [0x11]))).port.rx.out = [0x00, 20] ∧
    (after State.reset (.cfgRead (whole [0x15]))).port.rx.out = [0x02] := by decide +kernel

theorem test_send_full_sets_no_port_error :
    (after (nine.setNotice { nine.notice with tx := List.replicate 4 { priority := 0, payload := [] } })
      (.send (whole [1, 0]))).port.reply = .full ∧
    (after (nine.setNotice { nine.notice with tx := List.replicate 4 { priority := 0, payload := [] } })
      (.send (whole [1, 0]))).port.events = 0 := by decide +kernel

theorem test_send_length_7 :
    (after nine (.send (whole [1, 7]))).port.reply = .range := by decide +kernel

theorem test_yield_busy :
    (after (slot (some (request 0 1 1 none)) nine) (.yield (whole [3, 1, 1]))).port.reply = .busy := by
  decide +kernel

/-- The station of "one transaction told through". -/
def stationPop : State :=
  (ring [notice 21 0x4A [0x5A, 0x01], notice 4 0x40 []] nine).setPort
    { (ring [] nine).port with events := 0x0400, enables := 0x0400 }

theorem test_statusCapture_59 : (after stationPop .statusCapture).port.rx.status = 0x59 := by decide +kernel

theorem test_pop_entry :
    (after stationPop (.pop (whole []))).port.rx.out =
      [0x00, 0x95, 0x4A, 0x00, 0x02, 0x5A, 0x01, 0, 0, 0, 0] ∧
    (after stationPop (.pop (whole []))).notice.ring.length = 1 := by decide +kernel

theorem test_clearEvents_releases_irqn :
    stationPop.irqLow = true ∧ (after stationPop (.clearEvents (whole [0x04, 0x00]))).irqLow = false := by
  decide +kernel

theorem test_readEvents_word :
    (after stationPop (.readEvents (whole []))).port.rx.out = [0x00, 0x04, 0x00] := by decide +kernel

theorem test_setEnables_flagless_read_0 :
    (after nine (.setEnables (whole [0xFF, 0xFF]))).port.enables = 0x1FFF := by decide +kernel

theorem test_readChannel_before_lock :
    (after State.reset (.readChannel (whole [0]))).port.rx.out =
      [0x00, 0, 1, 1, 0, 0, 0, 1, 0, 0, 6, 0x08, 0, 0, 0, 0, 0, 0, 0, 0, 0, 0, 0, 0, 0] := by decide +kernel

theorem test_readStation_tells_failed_lock :
    ((after (after State.reset (.lock (whole []))) (.readStation (whole []))).port.rx.out)[31]? = some 0x80 := by
  decide +kernel

theorem test_unknownCommand_reply :
    (after nine (.unknownCommand 0x00)).port.reply = .unknown ∧
    (after nine (.unknownCommand 0x00)).port.events = 0x1000 := by decide +kernel

/-- CSN rises seven bits into a further byte of PARK. -/
theorem test_csnRise_incomplete_byte :
    (after (nine.setPort { nine.port with
      rx := { nine.port.rx with stage := .drain, code := 0x22, got := [0x01], bits := 7 } }) .csnRise).port.reply
      = .count := by decide +kernel

/-! ### Witnesses: for each statement, states that meet its hypotheses, clause by clause -/

theorem witness_StepTakesFrontCommand : (nine.setPending [.killnHigh]).pending = .killnHigh :: [] := rfl

theorem witness_EveryStepAnswersNext : nine.pending = [] := by decide +kernel

theorem witness_KillnEdgesByState :
    (∀ x ∈ [StationState.joining, .active, .quiet, .left],
      (inState x nine).stn.state ∈ [StationState.joining, .active, .quiet, .left]) ∧
    (∀ x ∈ [StationState.config, .halted, .faulted],
      (inState x nine).stn.state ∈ [StationState.config, .halted, .faulted]) ∧
    nine.stn.state ≠ .halted ∧ (inState .halted nine).stn.state = .halted ∧
    ({ mkSend .txHead 2 2 [0x23] none with driven := 3 } : SendRecord).driven = [(0x23 : Byte)].length + 2 := by
  decide +kernel

/-- A station that wishes to open, the line's run and the gap given. -/
def wishing (x : RollState) (gap run : Nat) : State :=
  ((tracker x nine).setRoll { (tracker x nine).roll with openWish := true, gap := gap }).setLine
    { nine.line with domRun := run }

theorem witness_LineBetweenRolls :
    (tracker .settling nine).roll.state = .settling ∧ (tracker .idle nine).roll.state = .idle ∧
    (tracker .opening nine).roll.state = .opening ∧ (0 ≤ 2 ∧ 2 ≤ 2) ∧
    (tracker .trailing nine).roll.state ≠ .off ∧
    (wishing .idle 12 0).stn.state ∈ [StationState.active, .joining] ∧
    (wishing .idle 12 0).roll.openWish = true ∧ (wishing .idle 12 0).roll.openLeft = 0 ∧
    ((wishing .idle 12 0).roll.state = .idle ∧ (wishing .idle 12 0).roll.gap = 12) ∧
    ((wishing .opening 0 3).roll.state = .opening ∧ (wishing .opening 0 3).line.domRun < 4) := by
  decide +kernel

theorem witness_StuckLineByStationState :
    ∀ x ∈ [StationState.joining, .active, .quiet, .left, .halted, .faulted],
      (inState x (inRoll 9 nine)).roll.state ≠ .off ∧ (inState x (inRoll 9 nine)).line.stuckArmed = true ∧
      (inState x (inRoll 9 nine)).stn.state ≠ .config ∧
      (inState x (inRoll 9 nine)).roll.state ∈ [RollState.inRoll, .trailing] := by decide +kernel

/-- A won bid in TAKE, with a notice to send. -/
def driving (bid : Bid) : State :=
  (inRoll 30 (claim bid .won 0 nine)).setNotice { nine.notice with send := some (mkSend .presence 0 0 [1, 2, 3] none) }

theorem witness_DriveFollowsPhaseOwner :
    ((inState .joining nine).stn.state ≠ .active ∧ (tracker .idle nine).roll.state ≠ .inRoll) ∧
    ((driving .nothing).stn.state = .active ∧ (driving .nothing).cont.conflictMark = false ∧
      (driving .nothing).roll.parsing = true ∧ (driving .nothing).roll.state = .inRoll) ∧
    (0 < nine.numUnits ∧ 15 < nine.numUnits) ∧
    ((claim (.notice .presence 0 5) .bidding 0 nine).cont.outcome = .bidding ∧
      (claim (.notice .presence 0 5) .bidding 0 nine).cont.bid.word = some 5) ∧
    (claim .nothing (.lost 3) 0 nine).cont.outcome ≠ .won ∧
    (driving (.channel 5 [4, 6] none 1 613)).cont.bid = .channel 5 [4, 6] none 1 613 ∧
    (driving (.notice .presence 0 5)).cont.bid = .notice .presence 0 5 ∧
    (driving .nothing).notice.send = some (mkSend .presence 0 0 [1, 2, 3] none) ∧
    nine.notice.send = none := by decide +kernel

/-- A CLK period of a bit in HOLD, nothing else due. -/
def bitAt (phase : Nat) (samples : List Level) : State :=
  ((inRoll 3 nine).setInputs [Pins.idle]).setLine { nine.line with phase := phase, samples := samples }

theorem witness_BitTimeReadsAndDrives :
    (LinePeriod (bitAt 23 [.dominant, .dominant]) .idle [] ∧ LinePeriod (bitAt 39 []) .idle [] ∧
      bitLength (bitAt 23 []) = 40) ∧
    (Edge (bitAt 7 []) { Pins.idle with shr := .dominant } ∧ 2 * (7 + 1) < 40 ∧ ¬ Edge (bitAt 23 []) .idle ∧
      5 * (15 + 1) = 2 * 40 ∧ 2 * (19 + 1) = 40 ∧ 5 * (23 + 1) = 3 * 40 ∧ 23 + 1 < 40) ∧
    ((bitAt 39 []).roll.state = .inRoll ∧
      (bitAt 39 [.dominant, .dominant, .recessive]).line.samples.length = 3 ∧
      (bitAt 39 []).roll.openLeft = 0 ∧ (bitAt 39 []).roll.position + 1 < 2 * (bitAt 39 []).numUnits + 10 ∧
      (bitAt 39 []).roll.position + 1 ≠ (bitAt 39 []).numUnits ∧
      (bitAt 39 []).roll.position + 1 ≠ (bitAt 39 []).numUnits + 10) := by
  unfold LinePeriod; decide +kernel

theorem witness_BitEndStepsRollTracker :
    (LinePeriod (bitAt 39 [.dominant, .dominant, .recessive]) .idle [] ∧
      bitLength (bitAt 39 [.dominant, .dominant, .recessive]) ≤ 39 + 1) ∧
    (Edge (bitAt 19 [.recessive]) { Pins.idle with shr := .dominant } ∧
      bitLength (bitAt 19 [.recessive]) ≤ 2 * (19 + 1)) := by
  unfold LinePeriod; decide +kernel

/-- R18: a winner that drives a TAKE slot recessive and reads it dominant meets a conflict at the third sample; a HOLD slot
driven dominant and read recessive is a DRIVE fault in that CLK period. -/
theorem test_third_sample_reports :
    ((let s := driving (.channel 5 [4, 6] none 1 613)
      ((s.setInputs [{ Pins.idle with shr := .dominant }]).setLine
        { s.line with phase := 23, samples := [.dominant, .dominant], drive := some .recessive }).tick).cont.conflictMark,
     (let s := bitAt 23 [.recessive, .recessive]
      (s.setLine { s.line with drive := some .dominant }).tick).stn.state) = (true, .faulted) := by decide +kernel

/-- Log 40: a run that passed 7 before OPENING ends there as a malformed OPEN; one of 6 is an OPEN (R6). -/
theorem test_long_run_before_opening :
    [6, 11].map (fun n => ((wishing .opening 0 n).trackerBit n .recessive).roll.state) = [.inRoll, .settling] := by
  decide +kernel

theorem witness_RollStartLatchesDriveSet : (tracker .opening stationS).roll.state = .opening := by
  decide +kernel

theorem witness_HoldCompleteUpdatesViews :
    InPhase stationSHold stationSHold.numUnits ∧ stationSHold.listens = true ∧
    ∀ x ∈ [StationState.config, .left, .halted, .faulted],
      InPhase (inState x stationSHold) (inState x stationSHold).numUnits ∧
      (inState x stationSHold).stn.state ∈ [StationState.config, .left, .halted, .faulted] := by
  unfold InPhase; decide +kernel

theorem witness_HoldCompleteFormsChannelBid :
    InPhase stationF stationF.numUnits ∧ stationF.stn.state = .active ∧ stationF.stn.request = none ∧
    stationF.stn.killnLow = false ∧ stationF.cont.outcome = .noBid ∧ stationF.port.image.priority 5 ≤ 3 ∧
    stationF.port.image.stationId ≤ 62 ∧ stationF.chans.queue = [] ++ 5 :: [] ∧ ¬ Fenced stationF 5 ∧
    stationF.port.image.weight 5 ≤ (stationFBid.freeUsable 5).length ∧
    exec (.holdComplete [0, 1, 2, 3, 5, 8, 9, 11, 12, 13, 14, 15]) stationF = .next stationFBid := by
  refine ⟨?_, ?_, ?_, ?_, ?_, ?_, ?_, ?_, ?_, ?_, rfl⟩
  · unfold InPhase; decide +kernel
  all_goals first | decide +kernel | (unfold Fenced; decide +kernel)

/-- Nine in HOLD with the notices given. -/
def offering (presence : Bool) (x : Option YieldReq) (tx : List UserNotice) : State :=
  (inRoll 15 nine).setNotice { nine.notice with presence := presence, slot := x, tx := tx }

theorem witness_HoldCompleteFormsNoticeBid :
    (InPhase (offering true none []) nine.numUnits ∧ (offering true none []).cont.outcome = .noBid ∧
      (offering true none []).stn.state = .active ∧ (offering true none []).stn.request = none ∧
      (offering true none []).stn.killnLow = false ∧ (offering true none []).port.image.stationId ≤ 62 ∧
      NoneCovered (offering true none []) (after (offering true none []) (.holdComplete [])) ∧
      PendingIs (offering true none []) .presence 0 0x03 [0x10, 0x12, 0x00] none) ∧
    PendingIs (offering false (some (request 2 3 8 none)) []) .yieldSlot 2 0x31 [0x73] (some (request 2 3 8 none)) ∧
    PendingIs (offering false none [{ priority := 3, payload := [1, 2, 3, 4, 5, 6] }]) .txHead 3 0x5E
      [1, 2, 3, 4, 5, 6] none ∧
    ((offering false none []).notice.presence = false ∧ (offering false none []).notice.slot = none ∧
      (offering false none []).notice.tx = []) ∧
    (inState .joining (inRoll 15 nine)).stn.state ≠ .active ∧
    ((inRoll 15 nine).setStn { nine.stn with request := some .leave }).stn.request ≠ none ∧
    ((inRoll 15 nine).setStn { nine.stn with killnLow := true }).stn.killnLow = true := by
  refine ⟨⟨by unfold InPhase; decide +kernel, ?_, ?_, ?_, ?_, ?_, by unfold NoneCovered Fenced; decide +kernel,
    ?_, ?_, ?_, ?_, ?_, ?_⟩, ⟨?_, request 2 3 8 none, ?_, ?_, ?_, ?_, ?_, ?_, ?_, ?_⟩,
    ⟨?_, ?_, ?_, { priority := 3, payload := [1, 2, 3, 4, 5, 6] }, [], ?_, ?_, ?_, ?_, ?_, ?_⟩, ?_, ?_, ?_, ?_⟩ <;>
    decide +kernel

theorem witness_RollReadingsAreKept :
    (InPhase (inRoll 25 (claim .nothing .bidding 0 nine)) (nine.numUnits + 10) ∧
      (claim .nothing .bidding 0 nine).cont.outcome = .bidding) ∧
    InPhase (inRoll 42 nine) (2 * nine.numUnits + 11) ∧
    (InPhase (received .dominant none 4 [] (inRoll 53 nine)) (2 * nine.numUnits + 22) ∧
      (received .dominant none 4 [] (inRoll 53 nine)).roll.header = none) ∧
    (InPhase (received .dominant (some (.good 0)) 4 [good 0] (inRoll 54 nine)) (2 * nine.numUnits + 22 + 11) ∧
      (received .dominant (some (.good 0)) 4 [good 0] nine).roll.header = some (.good 0) ∧ 1 < 0 + 2) ∧
    (received .dominant (some .damaged) 4 [good 7] nine).roll.header = some .damaged := by
  unfold InPhase; decide +kernel

theorem witness_ClaimResolvedSettlesClaim :
    (InPhase stationFBid (stationFBid.numUnits + 10) ∧ stationFBid.stn.state = .active ∧
      stationFBid.cont.bid = .channel 5 [4, 6] none 1 613 ∧ stationFBid.cont.outcome = .bidding) ∧
    ((inRoll 25 (claim (.notice .presence 0 5) .bidding 0 nine)).cont.bid = .notice .presence 0 5) ∧
    (InPhase stationG (stationG.numUnits + 10) ∧ stationG.cont.outcome = .lost 6 ∧
      (613 : BitVec 10).setWidth 6 ≠ stationG.ownId) ∧
    ((inRoll 25 nine).cont.outcome = .noBid ∧ (1023 : BitVec 10).setWidth 6 ≠ nine.ownId) ∧
    ((inState .joining (inRoll 25 nine)).stn.state ≠ .active ∧
      (claim .nothing .abandoned 4 nine).cont.outcome = .abandoned) ∧
    (received .dominant none 4 [] stationG).notice.recv = some { sender := some 4, chars := [] } := by
  unfold InPhase; decide +kernel

theorem witness_ClaimWithOwnIdFaultsClash :
    ∀ x ∈ [StationState.joining, .active, .quiet],
      InPhase (inState x (inRoll 25 nine)) (nine.numUnits + 10) ∧
      (9 : BitVec 10).setWidth 6 = (inState x nine).ownId ∧ (inState x nine).cont.outcome ≠ .bidding ∧
      (8 : BitVec 10).setWidth 6 ≠ (inState x nine).ownId ∧
      (inState .left nine).stn.state ∉ [StationState.joining, .active, .quiet] ∧
      (stationFBid.stn.state = .active ∧ stationFBid.cont.outcome = .bidding ∧
        stationFBid.cont.bid.word = some 613) := by
  unfold InPhase; decide +kernel

/-- F at the last slot of TAKE. -/
def stationFWon : State := inRoll 41 (after stationFBid (.claimResolved 613))

theorem witness_TakeCompleteBindsWinner :
    InPhase stationFWon (2 * stationFWon.numUnits + 10) ∧ stationFWon.stn.state = .active ∧
    stationFWon.cont.outcome = .won ∧ stationFWon.cont.conflictMark = false ∧
    stationFWon.cont.bid = .channel 5 [4, 6] none 1 613 ∧ (stationFWon.chan 5).state = .waiting 0 none ∧
    stationFWon.stn.killnLow = false ∧ (stationFWon.setStn { nine.stn with killnLow := true }).stn.killnLow = true ∧
    (starts [0] 9999 0 stationFWon).seq.elapsed <
      stationFWon.port.image.staggerUs ((starts [0] 9999 0 stationFWon).seq.startList.headD 5) ∧
    (starts [] 9999 0 stationFWon).seq.elapsed <
      stationFWon.port.image.staggerUs ((starts [] 9999 0 stationFWon).seq.startList.headD 5) ∧
    stationFWon.port.image.staggerUs ((starts [] 10000 0 stationFWon).seq.startList.headD 5) ≤
      (starts [] 10000 0 stationFWon).seq.elapsed := by
  unfold InPhase; decide +kernel

theorem witness_TakeCompleteDiscardsOrReturns :
    (QueuesMatchStates stationFWon ∧ OwnersHold stationFWon) ∧
    InPhase stationFWon (2 * stationFWon.numUnits + 10) ∧ stationFWon.stn.state = .active ∧
    stationFWon.cont.outcome = .won ∧ stationFWon.cont.bid = .channel 5 [4, 6] none 1 613 ∧
    (stationFWon.setCont { stationFWon.cont with conflictMark := true }).cont.conflictMark = true ∧
    stationFWon.cont.conflictMark = false ∧
    ((chanIn 5 .off stationFWon).chan 5).state.isWaiting = false ∧
    (claim (.notice .presence 0 5) .won 0 stationFWon).cont.bid = .notice .presence 0 5 := by
  unfold InPhase QueuesMatchStates OwnersHold; decide +kernel

theorem witness_TakeCompleteMarksPeersAndSpares :
    InPhase stationSTake (2 * stationSTake.numUnits + 10) ∧ stationSTake.listens = true ∧
    stationSTake.cont.outcome ≠ .won ∧
    (stationSTake.table.recs[3]?).map UnitRec.view = some (.spare 1400000) ∧
    ∀ x ∈ [StationState.config, .left, .halted, .faulted],
      InPhase (inState x stationSTake) (2 * (inState x stationSTake).numUnits + 10) ∧
      (inState x stationSTake).stn.state ∈ [StationState.config, .left, .halted, .faulted] := by
  unfold InPhase; decide +kernel

theorem witness_TakeCompleteOverlapShedsChannel :
    InPhase (inRoll 41 stationC) (2 * stationC.numUnits + 10) ∧ (inRoll 41 stationC).stn.state = .active ∧
    (inRoll 41 stationC).cont.outcome ≠ .won ∧ (stationC.chan 2).state = .on false 19600000 ∧
    0 < stationC.port.image.minOffUs 2 ∧
    [1, 6].map (fun k => (stationC.table.recs[k]?).map UnitRec.view) = [some .free, some (.own 2)] ∧
    QueuesMatchStates (inRoll 41 stationC) ∧ OwnersHold (inRoll 41 stationC) := by
  unfold InPhase QueuesMatchStates OwnersHold; decide +kernel

theorem witness_ConflictStopsWinner :
    (inRoll 30 nine).roll.state = .inRoll ∧ (inRoll 30 nine).roll.parsing = true ∧
    (inRoll 30 nine).stn.state = .active ∧ (claim .nothing .won 0 nine).cont.outcome = .won ∧
    (claim .nothing .won 0 nine).cont.conflictMark = false ∧
    ((nine.setCont { nine.cont with conflictRun := 1 }).cont.conflictRun < 2 ∧
      (nine.setCont { nine.cont with conflictRun := 2 }).cont.conflictRun = 2) := by decide +kernel

theorem witness_DriveReportFaultsStation :
    ((inRoll 6 stationD).roll.state = .inRoll ∧ (inRoll 6 stationD).stn.state = .active ∧
      Phase.hold ≠ .openPulse ∧ ((inRoll 6 stationD).table.recs[7 - 1]?).map UnitRec.view = some (.own 3)) ∧
    ((inRoll 6 stationD).table.recs[10 - 1]?).map UnitRec.view = some (.spare 100000) ∧
    stationDLoss.stn.state = .joining := by decide +kernel

theorem witness_NoticeEndStoresNotice :
    ((cutAtRing 15).roll.flag = some .dominant ∧
      (cutAtRing 15).notice.recv = some { sender := some 4, chars := [good 0x39, good 0x21] } ∧
      NoticeDue (cutAtRing 15) .cut [good 0x39, good 0x21] ∧ (cutAtRing 15).listens = true ∧
      4 ≠ (cutAtRing 15).ownId ∧ (cutAtRing 15).notice.ring.length < 16 ∧
      (1 = (0x39 &&& 7 : Byte).toNat ∧ 1 = (0x39 >>> 5 : Byte).toNat)) ∧
    NoticeDue (received .dominant none 4 [] (inRoll 43 nine)) .cut [] ∧
    NoticeDue (received .dominant (some .damaged) 4 [good 7] (inRoll 54 nine)) .damaged [good 7] ∧
    NoticeDue (tracker .settling nine) .stuck [] ∧ NoticeDue (inRoll 54 nine) .stuck [] ∧
    NoticeDue (received .dominant (some (.good 0)) 4 [good 0x40, good 0xBF] (inRoll 65 nine)) .complete
      [good 0x40, good 0xBF] := by
  refine ⟨⟨by decide +kernel, by decide +kernel, ⟨by decide +kernel, by decide +kernel, .inr ⟨1, ?_, ?_⟩⟩,
    by decide +kernel, by decide +kernel, by decide +kernel, by decide +kernel, by decide +kernel⟩,
    ⟨by decide +kernel, by decide +kernel, .inl ?_⟩, ⟨by decide +kernel, by decide +kernel, ?_⟩,
    .inl ?_, .inr ⟨?_, ?_⟩, ⟨0, ?_, ?_⟩⟩ <;> decide +kernel

theorem witness_NoticeNotStored :
    (NoticeDue (cutAtRing 16) .cut [good 0x39, good 0x21] ∧ (cutAtRing 16).roll.flag = some .dominant ∧
      (cutAtRing 16).notice.recv = some { sender := some 4, chars := [good 0x39, good 0x21] } ∧
      4 ≠ (cutAtRing 16).ownId ∧ (cutAtRing 16).listens = true ∧ (cutAtRing 16).notice.ring.length = 16) ∧
    (received .dominant (some (.good 0)) 9 [good 0x40, good 0xBF] (inRoll 54 nine)).ownId = 9 ∧
    (inState .left nine).listens = false := by
  refine ⟨⟨⟨by decide +kernel, by decide +kernel, .inr ⟨1, ?_, ?_⟩⟩, ?_⟩, ?_, ?_⟩ <;> decide +kernel

/-- A peer's PRESENCE at nine, its reserve byte given. -/
def presenceAt (x : Byte) : State :=
  received .dominant (some (.good 3)) 4 [good 0x03, good 0x10, good 0x12, good x, good (0xDA - x)] (inRoll 87 nine)

theorem witness_PresenceComparesPlans :
    (∀ x ∈ [(0 : Byte), 1], (presenceAt x).listens = true ∧ (presenceAt x).roll.flag = some .dominant ∧
      4 ≠ (presenceAt x).ownId ∧ (4 : BitVec 6) ≠ 63 ∧ (presenceAt x).roll.header = some (.good 3) ∧
      (presenceAt x).notice.recv =
        some { sender := some 4, chars := [good 0x03, good 0x10, good 0x12, good x, good (0xDA - x)] } ∧
      ((0x03 &&& 0xE7 : Byte) = 0x03 ∧ (0x03 + 0x10 + 0x12 + x + (0xDA - x) : Byte) = 0xFF) ∧
      (∀ c ∈ [good 0x03, good 0x10, good 0x12, good x, good (0xDA - x)], c.framing = false ∧ c.marker = false) ∧
      ∀ w, (presenceAt x).port.image.reserve w ≤ 3) ∧
    (byteOf nine.port.image.units = 0x10 ∧
      byteOf ((allWins.map fun w => nine.port.image.winFirst w + nine.port.image.winLast w
        + nine.port.image.reserve w).sum) = 0x12) ∧
    [0, 1].map (fun x => (after (presenceAt x) (.noticeEnd .complete)).port.events.getLsbD 7) = [false, true] := by
  decide +kernel

theorem witness_YieldReceivedWritesFence :
    stationK.stn.state = .active ∧ stationK.roll.flag = some .dominant ∧ 7 ≠ stationK.ownId ∧
    stationK.notice.recv = some { sender := some 7, chars := [good 0x31, good 0x23, good 0xAB] } ∧
    stationK.roll.header = some (.good 1) ∧ (0x31 &&& 0xE7 : Byte) = 0x21 ∧ (0x23 &&& 0x0F : Byte) ≠ 0 ∧
    (0x31 + 0x23 + 0xAB : Byte) = 0xFF ∧ stationK.chans.fences.length ≤ 4 ∧
    ((0x30 &&& 0x0F : Byte) = 0 ∧ (0x31 + 0x30 + 0x9E : Byte) = 0xFF) ∧
    (stationKAfter.chans.fences.length < 4 ∧ ∃ f ∈ stationKAfter.chans.fences, f.sender = 7) := by decide +kernel

theorem witness_YieldShedsCandidates :
    QueuesMatchStates stationK ∧ 2 = (0x31 >>> 3 &&& 3 : Byte).toNat ∧
    (3 : BitVec 4) = (0x23 : Byte).setWidth 4 ∧ (3 : BitVec 4) ≠ 0 ∧ 3 = (0x23 >>> 4 &&& 7 : Byte).toNat + 1 ∧
    1 = (stationK.table.recs.countP fun r => r.view.isSpare && r.window.any fun w => (3 : BitVec 4).getLsbD w.val) ∧
    (∀ k ∈ stationK.seq.startList, stationK.seq.elapsed < stationK.port.image.staggerUs k) := by
  unfold QueuesMatchStates; decide +kernel

/-- The end of FLAG, read recessive, nothing sent. -/
def atFlag (s : State) : State := (inRoll 43 s).setRoll { (inRoll 43 s).roll with flag := some .recessive }

theorem witness_RollEndCountsJoining :
    (∀ n ∈ [0, 1], ((atFlag stationDLoss).setStn { stationDLoss.stn with joinCount := n }).stn.joinCount ≤ 1) ∧
    (atFlag stationDLoss).stn.state = .joining ∧ RollEndDue (atFlag stationDLoss) .flag ∧
    RollEndDue (tracker .trailing stationDLoss) .trailing ∧ RollEndDue (atFlag stationDLoss) .stuck ∧
    RollEndDue (received .dominant none 4 [] (inRoll 65 nine)) .check ∧ (atFlag stationDLoss).notice.send = none ∧
    (atFlag stationDLoss).notice.slot = none ∧
    ((atFlag nine).stn.state ≠ .joining ∧ RollEndDue (atFlag nine) .flag) ∧
    (RollEndDue (atFlag (view (.own 1) [4] nine).settle) .flag ∧
      (view (.own 1) [4] nine).settle.stn.busLoss = some 200000 ∧ (atFlag nine).stn.request = none ∧
      BusLossRuns (view (.own 1) [4] nine).settle) := by
  unfold RollEndDue BusLossRuns; decide +kernel

theorem witness_RollEndActsRequest :
    ((atFlag nine).setStn { nine.stn with request := some .quiet }).stn.request = some .quiet ∧
    (atFlag nine).stn.state = .active ∧ RollEndDue (atFlag nine) .flag ∧ (atFlag nine).notice.send = none ∧
    (mkSend .yieldSlot 1 2 [0x23] none).source = .yieldSlot ∧ RollEndOrder.checkFirst ≠ .noticeBetween := by
  unfold RollEndDue; decide +kernel

/-- A station at the end of its own notice, with n characters driven. -/
def sending (source : NoticeSource) (n : Nat) (q : Option YieldReq) : State :=
  (received .dominant (some (.good 1)) 9 [] (inRoll 76 nine)).setNotice
    { nine.notice with send := some { mkSend source 1 2 [0x23] q with driven := n }, slot := q }

theorem witness_RollEndCompletesSend :
    (sending .presence 3 none).stn.state = .active ∧ (sending .presence 3 none).stn.request = none ∧
    (∀ d ∈ (sending .presence 3 none).chans.queue, ¬ SpareFits (sending .presence 3 none) d) ∧
    (stationJ.chans.queue = [5] ∧ ∀ d ∈ stationJ.chans.queue, ¬ SpareFits stationJ d) ∧
    ((stationJ.chan 5).state = .waiting 0 (some 1) ∧ 1 ≤ stationJ.port.image.priority 5 ∧
      0 < stationJ.port.image.waitToYieldUs 5) ∧ RollEndDue (sending .presence 3 none) .check ∧
    (mkSend .yieldSlot 1 2 [0x23] (some (request 2 3 3 none))).request = some (request 2 3 3 none) ∧
    ({ mkSend .txHead 2 2 [0x23] none with driven := 3 } : SendRecord).driven = [(0x23 : Byte)].length + 2 ∧
    (sending .yieldSlot 3 (some (request 2 3 3 none))).notice.slot = some (request 2 3 3 none) ∧
    (request 3 3 3 none).priority ≠ (request 2 3 3 none).priority ∧
    ({ mkSend .txHead 2 2 [0x23] none with driven := 2 } : SendRecord).driven ≠ [(0x23 : Byte)].length + 2 := by
  unfold RollEndDue SpareFits Fenced; decide +kernel

theorem witness_SpareCheckBindsFirstFit :
    (stationSEnd.stn.state = .active ∧ RollEndDue stationSEnd .flag ∧ stationSEnd.stn.request = none ∧
      stationSEnd.chans.queue = [] ++ 3 :: [] ∧ SpareFits stationSEnd 3) ∧
    (stationT.stn.state = .active ∧ stationT.port.locked = true ∧ stationT.port.image.enabled 1 = true ∧
      (stationT.chan 1).park = false ∧ stationT.port.image.field 1 7 = 0 ∧ (stationT.chan 1).state = .off ∧
      (stationT.chan 1).level = false ∧ stationT.chans.queue = [] ∧ SpareFits stationT 1) ∧
    ¬ SpareFits (view .releasing [4] stationT) 1 := by
  unfold RollEndDue SpareFits Fenced; decide +kernel

theorem witness_BusLossExpiryRejoins :
    stationD.refreshBusLoss.stn.state = .active ∧ stationD.refreshBusLoss.stn.busLoss = some 200000 := by
  decide +kernel

theorem witness_WaitTimerExpiryOffersYield :
    stationJ.stn.state = .active ∧ (stationJ.chan 5).state = .waiting 0 (some 1) ∧
    1 ≤ stationJ.port.image.priority 5 ∧ 0 < stationJ.port.image.waitToYieldUs 5 ∧
    (stationJ.notice.holdoff = 0 ∧ stationJ.notice.slot = none) ∧
    ((request 1 1 1 none).requester ≠ some 5 ∧
      (request 1 1 1 none).priority < stationJ.port.image.priority 5) ∧
    stationJ.port.image.priority 5 ≤ (request 2 1 1 none).priority ∧
    (stationJ.setNotice { stationJ.notice with holdoff := 1 }).notice.holdoff ≠ 0 ∧
    ((slot (some (request 1 1 1 (some 4))) stationJ).notice.slot = some (request 1 1 1 (some 4)) ∧
      ((chanIn 4 (.waiting 1 (some 0)) stationJ).chan 4).state = .waiting 1 (some 0)) := by decide +kernel

theorem witness_MinOnExpiryStopsMarked :
    ((chanIn 2 (.on true 59999999) stationC).chan 2).state = .on true 59999999 ∧
    (stationC.chan 2).state = .on false 19600000 ∧
    ((chanIn 0 (.on true 0) stationS).chan 0).state = .on true 0 ∧
    [5, 6, 7].map (fun k => (stationS.table.recs[k]?).map UnitRec.view) =
      [some (.own 0), some (.own 0), some .releasing] ∧
    0 < stationS.port.image.lingerUs ∧ 0 + stationS.table.spareCount < stationS.port.image.spareMax ∧
    stationS.port.image.spareMax ≤ 1 + stationS.table.spareCount ∧ stationC.port.image.lingerUs = 0 := by decide +kernel

/-- Channel 1 of T with demand, in a state. -/
def stationTWith (x : ChState) : State := record (fun r => { r with level := true, state := x }) 1 stationT

theorem witness_MinOffExpiryLeavesCooldown :
    (stationCOff.chan 2).state = .cooldown ∧ ¬ Demands stationCOff.port.image 2 (stationCOff.chan 2) ∧
    Demands stationCOff.port.image 2 { stationCOff.chan 2 with level := true } ∧
    (inState .quiet stationCOff).stn.state ≠ .active ∧
    ((stationTWith .cooldown).stn.state = .active ∧ ((stationTWith .cooldown).chan 1).state = .cooldown ∧
      Demands stationT.port.image 1 ((stationTWith .cooldown).chan 1) ∧ SpareFits (stationTWith .cooldown) 1 ∧
      (stationTWith .cooldown).chans.queue = []) ∧
    ¬ SpareFits (view .releasing [4] (stationTWith .cooldown)) 1 := by
  unfold Demands SpareFits Fenced; decide +kernel

theorem witness_LingerFenceHoldoffStaggerEnd :
    (stationS.table.recs[3]?).map UnitRec.view = some (.spare 1400000) ∧
    stationT6.seq.startList = 4 :: [1, 6] ∧ stationT6.stn.state = .active ∧ stationT6.stn.killnLow = false ∧
    (inState .joining stationT6).stn.state ≠ .active ∧
    (stationT6.setStn { stationT6.stn with killnLow := true }).stn.killnLow = true := by decide +kernel

/-- The last CLK period of a microsecond, the line still. -/
def usAt (s : State) (ms : Nat) (p : Pins) : State :=
  ((s.setInputs [p]).setClock { sub := 3, ms := ms }).setLine { s.line with phase := 5 }

/-- Nine in IDLE, nothing running. -/
def still : State := tracker .idle nine

theorem witness_MicrosecondCountsAndSamples :
    ((usAt still 5 .idle).pending = [] ∧ (usAt still 5 .idle).inputs = Pins.idle :: [] ∧ Pins.idle.rstn = true ∧
      Pins.idle.csn = true ∧ (usAt still 5 .idle).pins.csn = true ∧ (usAt still 5 .idle).clock.sub = 3 ∧
      LineStill (usAt still 5 .idle) .idle ∧ (usAt still 5 .idle).port.locked = true ∧
      ((usAt still 5 .idle).chans.fences.map Fence.sender).Nodup) ∧
    EndsNow ((usAt still 5 .idle).setNotice { still.notice with holdoff := 1 }) .idle .yieldHoldoffExpiry ∧
    EndsNow (record (fun r => { r with run := 2 }) 0 (usAt still 999 { Pins.idle with dem := 1 }))
      { Pins.idle with dem := 1 } (.filteredLevelChange 1) ∧
    (State.reset.port.locked = false ∧ LineStill (usAt State.reset 0 .idle) .idle ∧
      KillnMoves State.reset { Pins.idle with killn := false } .killnLow) := by
  unfold LineStill EndsNow KillnMoves; decide +kernel

/-- Nine in the last CLK period before channel 0's stagger of 100 ms ends, with channel 0 as head. -/
def stageEnds : State := usAt (starts [0] (nine.port.image.staggerUs 0 - 1) 0 (chanIn 0 .starting still)) 5 .idle

/-- R97: an append taken first finds the head's stagger not yet reached, and the stagger's event then turns the head
on; both orders leave the same list and the same latch. -/
theorem test_append_with_stagger_reached :
    stageEnds.staggerEnds = true ∧ EndsNow stageEnds .idle .staggerReached ∧
    (stageEnds.advanceTimers.appendStart 1).seq.startList = [0, 1] ∧
    (stageEnds.advanceTimers.appendStart 1).seq.latch = 0 ∧
    (stageEnds.advanceTimers.appendStart 1).reachStagger.seq = { startList := [1], elapsed := 0, latch := 1 } ∧
    (stageEnds.advanceTimers.reachStagger.appendStart 1).seq = { startList := [1], elapsed := 0, latch := 1 } ∧
    stageEnds.tick.seq = { startList := [], elapsed := 0, latch := 1 } := by
  unfold EndsNow; decide +kernel

/-- Nothing ends with that microsecond. -/
theorem witness_MicrosecondCountsAndSamples_none (i : Instr) : ¬ EndsNow (usAt still 5 .idle) .idle i := by
  cases i <;> try exact id
  case killnLow => unfold EndsNow KillnMoves; decide +kernel
  case killnHigh => unfold EndsNow KillnMoves; decide +kernel
  case filteredLevelChange pins => exact fun h => absurd h.1 (by decide +kernel)
  case busLossExpiry =>
    rintro ⟨n, _, h⟩
    rw [show (usAt still 5 .idle).stn.busLoss = none from by decide +kernel] at h
    cases h
  case lingerExpiry k =>
    rintro ⟨r, n, h, hv, _⟩
    have : ∀ x ∈ (usAt still 5 .idle).table.recs, x.view.isSpare = false := by decide +kernel
    have := this r (List.mem_of_getElem? h)
    rw [hv] at this; cases this
  case waitTimerExpiry c =>
    rintro ⟨_, _, e, n, h, _⟩
    have : ∀ c, ((usAt still 5 .idle).chan c).state.isWaiting = false := by decide +kernel
    have := this c
    rw [h] at this; cases this
  case minOnExpiry c =>
    rintro ⟨m, n, h, _⟩
    have : ∀ c, ((usAt still 5 .idle).chan c).state.isOn = false := by decide +kernel
    have := this c
    rw [h] at this; cases this
  case minOffExpiry c =>
    have : ∀ c, ((usAt still 5 .idle).chan c).state ≠ .cooldown := by decide +kernel
    exact fun h => this c h.1
  case fenceExpiry x =>
    rintro ⟨f, h, _⟩
    rw [show (usAt still 5 .idle).chans.fences = [] from by decide +kernel] at h
    cases h
  case yieldHoldoffExpiry => unfold EndsNow; decide +kernel
  case staggerReached =>
    have : ∀ c : Chan, (usAt still 5 .idle).seq.elapsed + 1 ≠ (usAt still 5 .idle).port.image.staggerUs c := by
      decide +kernel
    exact fun ⟨c, h⟩ => this c h

/-- One PIN channel, 2, of a JOINING station. -/
def pinned : State := locked [(0, 9), (0x32, 1), (0x35, 2), (0x3A, 5)]

/-- Channel 2 of `pinned`, its pin high or low, in a state. -/
def pinnedIn (high : Bool) (x : ChState) : State := record (fun r => { r with level := high, state := x }) 2 pinned

theorem witness_FilteredLevelChangeMovesDemand :
    pinned.port.locked = true ∧
    (∀ x ∈ [ChState.off, .on true 7, .on false 7, .waiting 0 none, .starting, .cooldown],
      (¬ Demands pinned.port.image 2 ((pinnedIn false x).chan 2) ∧
        Demands pinned.port.image 2 { (pinnedIn false x).chan 2 with level := true, run := 0 }) ∧
      (Demands pinned.port.image 2 ((pinnedIn true x).chan 2) ∧
        ¬ Demands pinned.port.image 2 { (pinnedIn true x).chan 2 with level := false, run := 0 }) ∧
      ((pinnedIn true x).chan 2).state = x ∧ ((pinnedIn false x).chan 2).state = x) ∧
    (pinned.port.image.minOnUs 2 ≤ 7 ∧ 7 < stationC.port.image.minOnUs 2) ∧
    (¬ Demands pinned.port.image 3 (pinned.chan 3) ∧
      ¬ Demands pinned.port.image 3 { pinned.chan 3 with level := true, run := 0 }) := by
  refine ⟨by decide +kernel, ?_, by decide +kernel, ?_⟩
  · simp only [List.forall_mem_cons]
    refine ⟨?_, ?_, ?_, ?_, ?_, ?_, fun _ h => by cases h⟩ <;>
      refine ⟨⟨?_, ?_⟩, ⟨?_, ?_⟩, ?_, ?_⟩ <;> (try unfold Demands) <;> decide +kernel
  · unfold Demands; decide +kernel

/-- Channel 2 with the source SOFT or EITHER. -/
def softStation (source : Nat) : State := locked [(0, 9), (0x32, 1), (0x39, source)]

theorem witness_DemandCommandsMoveDemand :
    nine.stn.state ≠ .config ∧ State.reset.stn.state = .config ∧
    (∀ x ∈ [1, 2], ¬ Demands (softStation x).port.image 2 ((softStation x).chan 2) ∧
      Demands (softStation x).port.image 2 { (softStation x).chan 2 with soft := true }) ∧
    (¬ Demands pinned.port.image 2 (pinned.chan 2) ∧
      ¬ Demands pinned.port.image 2 { pinned.chan 2 with soft := true }) := by
  unfold Demands; decide +kernel

theorem witness_ParkAndUnparkChannels :
    ((after pinned (.filteredLevelChange 4)).stn.state ≠ .config ∧
      QueuesMatchStates (after pinned (.filteredLevelChange 4))) ∧
    (stationC.stn.state ≠ .config ∧ (stationC.chan 2).state = .on false 19600000 ∧
      0 < stationC.port.image.minOffUs 2) ∧
    (((pinnedIn true .parked).chan 2).state = .parked ∧ ((pinnedIn true .parked).chan 2).offSince = none ∧
      Demands pinned.port.image 2 { (pinnedIn true .parked).chan 2 with park := false } ∧
      ¬ Demands pinned.port.image 2 { (pinnedIn false .parked).chan 2 with park := false } ∧
      ((pinnedIn true .off).chan 2).state ≠ .parked) := by
  unfold QueuesMatchStates Demands; decide +kernel

theorem witness_CfgWriteStoresInRange :
    nine.stn.state ≠ .config ∧ State.reset.stn.state = .config ∧
    (∀ j ∈ [0x15, 0x1F, 0x68, 0xFF], ∀ v ≤ 18, ¬ Writable j v) ∧
    (Writable 0x67 255 ∧ Writable 0x14 15 ∧ ¬ Writable 0x14 16 ∧ Writable 0x0F 255 ∧ Writable 0x3A 255 ∧
      ¬ Writable 0x22 0 ∧ ¬ Writable 0x29 2) ∧
    (Holds State.reset.port.image 0x11 20 ∧ Holds State.reset.port.image 0x21 1) ∧
    (Instr.killnLow ≠ .por ∧ Instr.killnLow ≠ .reset ∧ Instr.killnLow ≠ .csnRise ∧
      ∀ x, Instr.killnLow ≠ .cfgWrite x) := by
  refine ⟨?_, ?_, by unfold Writable; decide +kernel, ?_, by unfold Holds; decide +kernel, ?_, ?_, ?_,
    fun x => by simp⟩
  case refine_3 => refine ⟨?_, ?_, ?_, ?_, ?_, ?_, ?_⟩ <;> (unfold Writable; decide +kernel)
  all_goals decide +kernel

theorem witness_LockStartsBlocks :
    nine.stn.state ≠ .config ∧
    (State.reset.stn.state = .config ∧ LockCheckFails State.reset.port.image 0) ∧
    (LockCheckFails (image lockPlan) 0x33 ∧ ∀ j < 0x33, ¬ LockCheckFails (image lockPlan) j) ∧
    ((config [(0, 62)]).stn.state = .config ∧ ∀ i, ¬ LockCheckFails (config [(0, 62)]).port.image i) ∧
    (Decodes (image lockPlan) 0 0 ∧ Decodes (image lockPlan) 15 1 ∧ ∀ w, ¬ Decodes (image [(4, 14)]) 15 w) := by
  refine ⟨?_, ⟨?_, ?_⟩, ⟨?_, ?_⟩, ⟨?_, ?_⟩, ?_, ?_, ?_⟩
  case refine_7 =>
    intro i h
    rcases h with ⟨_, h⟩ | ⟨_, h⟩ | ⟨_, h⟩ | ⟨w, rfl, h⟩ | ⟨_, h⟩ | ⟨_, h⟩ | ⟨_, h⟩ | ⟨c, rfl, h⟩
    · revert h; decide +kernel
    · revert h; decide +kernel
    · revert h; decide +kernel
    · revert w; decide +kernel
    · revert h; decide +kernel
    · revert h; decide +kernel
    · revert h; decide +kernel
    · revert c; decide +kernel
  all_goals first | decide +kernel | (unfold LockCheckFails; decide +kernel)

theorem witness_SendAndYieldCommands :
    (∀ x ∈ [StationState.config, .left, .halted, .faulted],
      (inState x nine).stn.state ∈ [StationState.config, .left, .halted, .faulted]) ∧
    (∀ x ∈ [StationState.joining, .active, .quiet],
      (inState x nine).stn.state ∈ [StationState.joining, .active, .quiet]) ∧
    ((3 : Byte).toNat ≤ 3 ∧ (6 : Byte).toNat ≤ 6 ∧ 6 < (7 : Byte).toNat ∧
      (List.replicate 6 (0 : Byte)).length = (6 : Byte).toNat ∧ ([] : List Byte) = []) ∧
    (nine.setNotice { nine.notice with tx := List.replicate 3 { priority := 0, payload := [] } }).notice.tx.length
      < 4 ∧
    4 ≤ (nine.setNotice { nine.notice with
      tx := List.replicate 4 { priority := 0, payload := [] } }).notice.tx.length ∧
    (inState .quiet nine).stn.state ≠ .active ∧ nine.stn.state = .active ∧
    ¬ ((4 : Byte).toNat ≤ 3 ∧ 1 ≤ (1 : Byte).toNat ∧ (1 : Byte).toNat ≤ 15 ∧ 1 ≤ (1 : Byte).toNat ∧
      (1 : Byte).toNat ≤ 8) ∧
    ((3 : Byte).toNat ≤ 3 ∧ 1 ≤ (15 : Byte).toNat ∧ (15 : Byte).toNat ≤ 15 ∧ 1 ≤ (8 : Byte).toNat ∧
      (8 : Byte).toNat ≤ 8) ∧
    (slot (some (request 0 1 1 none)) nine).notice.slot ≠ none ∧ nine.notice.slot = none := by decide +kernel

theorem witness_PopRemovesOldest :
    State.reset.stn.state = .config ∧ (nine.stn.state ≠ .config ∧ nine.notice.ring = []) ∧
    (stationPop.stn.state ≠ .config ∧
      stationPop.notice.ring = notice 21 0x4A [0x5A, 0x01] :: [notice 4 0x40 []] ∧
      (notice 21 0x4A [0x5A, 0x01]).payload.length ≤ 6) := by decide +kernel

theorem witness_ReadsReturnUnitsAndIncidents :
    (Holds nine.port.image (0x11 : Byte).toNat 20 ∧ ∀ i : Fin 21, (0x15 : Byte).toNat ≠ i.val) ∧
    nine.table.recs[(15 : Byte).toNat]? = some { view := .unknown, window := some 0 } ∧
    nine.table.recs[(16 : Byte).toNat]? = none ∧ 8 ≤ (8 : Byte).toNat := by
  unfold Holds; decide +kernel

theorem witness_ReadsReturnTables :
    stationKAfter.chans.fences[0]? = some { sender := 7, priority := 2, mask := 3, left := 1000000 } ∧
    stationKAfter.chans.fences[3]? = none := by decide +kernel

theorem witness_StationCommandsByState :
    (∀ x ∈ [StationState.quiet, .left], (inState x nine).stn.state ∈ [StationState.quiet, .left]) ∧
    nine.stn.state ∉ [StationState.quiet, .left] ∧ (inState .faulted nine).stn.state = .faulted ∧
    nine.stn.state ≠ .faulted ∧
    (nine.stn.state = .active ∧ (inRoll 5 nine).roll.state ∈ [RollState.inRoll, .trailing]) ∧
    (tracker .idle nine).roll.state ∉ [RollState.inRoll, .trailing] ∧
    (∀ x ∈ [StationState.joining, .quiet], (inState x nine).stn.state ∈ [StationState.joining, .quiet]) ∧
    (inState .joining nine).stn.state = .joining ∧
    (∀ x ∈ [StationState.config, .left, .halted, .faulted],
      (inState x nine).stn.state ∈ [StationState.config, .left, .halted, .faulted]) ∧
    (inState .quiet nine).stn.state ∈ [StationState.config, .quiet, .left, .halted, .faulted] := by decide +kernel

theorem witness_SoftResetClearsStation :
    nine.stn.state ≠ .config ∧ State.reset.stn.state = .config := by decide +kernel

theorem witness_TransactionEdges :
    (∀ x ∈ [RxStage.idle, .command, .data],
      (nine.setPort { nine.port with rx := { nine.port.rx with stage := x } }).port.rx.stage ∈
        [RxStage.idle, .command, .data]) ∧
    ((nine.setPort { nine.port with rx := { nine.port.rx with stage := .drain, code := 0x65 } }).port.rx.stage =
      .drain ∧ Command.ofCode 0x65 = none) ∧
    (Command.ofCode 0x12 = some .lock ∧ Command.lock.isRead = false ∧
      Command.ofCode 0x11 = some .cfgRead ∧ Command.cfgRead.isRead = true) ∧
    ([1, 2] : List Byte).length ≠ Command.lock.operandCount [1, 2] ∧
    ({ bytes := [1], tail := 7 } : Operands).tail ≠ 0 ∧ (whole []).bytes = [] := by decide +kernel

/-- A transaction of a station in CONFIG, in a stage, at a bit. -/
def spiAt (stage : RxStage) (bits : Nat) (code : Byte) (sck : Bool) : State :=
  let s := State.reset
  ((s.setPort { s.port with rx := { s.port.rx with stage := stage, bits := bits, code := code } }).setPins
    { s.pins with csn := false, sck := sck }).setInputs [{ Pins.idle with csn := false, sck := !sck }]

theorem witness_SpiShiftsBits :
    (∀ g ∈ [RxStage.command, .operands, .data, .drain], ∀ b ∈ [0, 6, 7], ∀ k ∈ [false, true],
      ((spiAt g b 0x11 k).pending = [] ∧
        (spiAt g b 0x11 k).inputs = [{ Pins.idle with csn := false, sck := !k }] ∧
        (spiAt g b 0x11 k).pins.csn = false ∧ (spiAt g b 0x11 k).clock.sub + 1 ≠ 4 ∧
        (spiAt g b 0x11 k).roll.state = .off) ∧
      ((spiAt g b 0x11 k).port.rx.stage = g ∧ g ≠ .idle ∧ (spiAt g b 0x11 k).port.rx.bits = b ∧
        (spiAt g b 0x11 k).pins.sck = k)) ∧
    (LineStill (spiAt .data 0 0x11 true) .idle ∧ Pins.idle.csn = true ∧ Pins.idle.rstn = true ∧
      State.reset.pins.csn = true ∧ LineStill State.reset { Pins.idle with csn := false } ∧
      { Pins.idle with rstn := false }.rstn = false) ∧
    (Command.ofCode 0x65 = none ∧ Command.ofCode 0x11 = some .cfgRead ∧ Command.ofCode 0x30 = some .send) ∧
    OperandsOf .cfgRead ([] ++ [0x11]) 1 ∧ OperandsOf .lock [] 0 ∧ OperandsOf .pop [] 0 ∧
    OperandsOf .send [1, 6] 8 ∧ OperandsOf .send [1, 7] 2 := by
  refine ⟨by decide +kernel, ⟨.inl (by decide +kernel), rfl, rfl, rfl, .inl (by decide +kernel), rfl⟩,
    by decide +kernel, ?_, ?_, ?_, ?_, ?_⟩ <;>
    (unfold OperandsOf; decide +kernel)

theorem witness_ActiveAndConfigDoors :
    (exec (.rollEnd .flag .checkFirst) stationDJoin = .next (after stationDJoin (.rollEnd .flag .checkFirst)) ∧
      stationDJoin.stn.state ≠ .active ∧
      (after stationDJoin (.rollEnd .flag .checkFirst)).stn.state = .active) ∧
    (exec (.lock (whole [])) (config [(0, 9)]) = .next (locked [(0, 9)]) ∧
      (config [(0, 9)]).stn.state = .config ∧ (locked [(0, 9)]).stn.state ≠ .config) ∧
    (exec .por nine = .next (after nine .por) ∧ nine.stn.state ≠ .config ∧
      (after nine .por).stn.state = .config) := by
  refine ⟨⟨rfl, ?_, ?_⟩, ⟨rfl, ?_, ?_⟩, ⟨rfl, ?_, ?_⟩⟩ <;> decide +kernel

theorem witness_ImageAndRingChangeByNamedCommands :
    ((nine.port.locked = true ↔ nine.stn.state ≠ .config) ∧ nine.port.locked = true ∧
      exec (.cfgWrite (whole [0, 1])) nine = .next (after nine (.cfgWrite (whole [0, 1])))) ∧
    exec .killnLow stationPop = .next (after stationPop .killnLow) := by
  refine ⟨⟨?_, ?_, rfl⟩, rfl⟩ <;> decide +kernel

/-- A locked station with a command waiting; it meets every invariant. -/
def stepping : State := (after pinned (.filteredLevelChange 4)).setPending [.killnLow]

theorem witness_RecordsStayLegal :
    (LockFlag stepping ∧ FlaglessClear stepping ∧ IncidentStates stepping) ∧ ∃ t, step stepping = .next t := by
  refine ⟨⟨by unfold LockFlag; decide +kernel, by unfold FlaglessClear; decide +kernel, ?_⟩, _, rfl⟩
  have h : stepping.stn.incident = none := by decide +kernel
  intro i hi
  rw [h] at hi
  cases hi

theorem witness_LoadsFollowStation :
    QueuesMatchStates stepping ∧ LoadsMatch stepping ∧ ∃ t, step stepping = .next t :=
  ⟨by unfold QueuesMatchStates; decide +kernel, by unfold LoadsMatch; decide +kernel, _, rfl⟩

/-- Nine in HOLD with a unit of its own, so that the bus-loss timer runs. -/
def holding : State := (view (.own 1) [4] (inRoll 3 nine)).settle

theorem witness_ConditionsFollowState :
    (ConditionsHold stepping ∧ ∃ t, step stepping = .next t) ∧
    (¬ BusLossRuns nine ∧ BusLossRuns holding ∧ holding.stn.busLoss = some (busLossSpan holding)) ∧
    (ConditionsHold holding ∧ BusLossRuns (after holding .yieldHoldoffExpiry)) :=
  ⟨⟨by unfold ConditionsHold Wishes BusLossRuns; decide +kernel, _, rfl⟩,
    by unfold BusLossRuns; decide +kernel, by unfold ConditionsHold Wishes BusLossRuns; decide +kernel⟩

theorem witness_StoresStayBounded : StoresBounded stepping ∧ ∃ t, step stepping = .next t :=
  ⟨by unfold StoresBounded; decide +kernel, _, rfl⟩

theorem witness_QueuesMatchChannelStates : QueuesMatchStates stepping ∧ ∃ t, step stepping = .next t :=
  ⟨by unfold QueuesMatchStates; decide +kernel, _, rfl⟩

theorem witness_UnitsMatchChannels :
    QueuesMatchStates stepping ∧ UnitsMatch stepping ∧ ∃ t, step stepping = .next t :=
  ⟨by unfold QueuesMatchStates; decide +kernel,
    ⟨by decide +kernel, by decide +kernel, by decide +kernel, fun h => absurd h (by decide +kernel)⟩, _, rfl⟩

end Sys2Proof.Tests
end

namespace Sys2Proof.Machine

/-! ### A command's answer -/

/-- Every command answers a next state, the one that `fire` takes. -/
theorem exec_eq_fire (i : Instr) (s : State) : exec i s = .next (s.fire i) := by
  cases i <;> rfl

/-! ### Loads may change and events may be set -/

/-- t differs from s at most in the four blocks that hold loads and by events that are set in t (R169). -/
structure MarkFrame (s t : State) : Prop where
  line : t.line = s.line
  roll : t.roll = s.roll
  cont : t.cont = s.cont
  stn : t.stn = s.stn
  image : t.port.image = s.port.image
  events : ∀ k, s.port.events.getLsbD k = true → t.port.events.getLsbD k = true

section
variable {s t u : State}

theorem MarkFrame.refl (s : State) : MarkFrame s s := ⟨rfl, rfl, rfl, rfl, rfl, fun _ h => h⟩

theorem MarkFrame.trans (h : MarkFrame s t) (k : MarkFrame t u) : MarkFrame s u :=
  ⟨k.line.trans h.line, k.roll.trans h.roll, k.cont.trans h.cont, k.stn.trans h.stn,
   k.image.trans h.image, fun i e => k.events i (h.events i e)⟩

theorem LoadFrame.marks (h : LoadFrame s t) : MarkFrame s t :=
  ⟨h.line, h.roll, h.cont, h.stn, by rw [h.port], fun _ e => by rw [h.port]; exact e⟩

end

@[simp] theorem setEvent_line (s : State) (e : Event) : (s.setEvent e).line = s.line := rfl
@[simp] theorem setEvent_roll (s : State) (e : Event) : (s.setEvent e).roll = s.roll := rfl
@[simp] theorem setEvent_table (s : State) (e : Event) : (s.setEvent e).table = s.table := rfl
@[simp] theorem setEvent_cont (s : State) (e : Event) : (s.setEvent e).cont = s.cont := rfl
@[simp] theorem setEvent_chans (s : State) (e : Event) : (s.setEvent e).chans = s.chans := rfl
@[simp] theorem setEvent_seq (s : State) (e : Event) : (s.setEvent e).seq = s.seq := rfl
@[simp] theorem setEvent_notice (s : State) (e : Event) : (s.setEvent e).notice = s.notice := rfl
@[simp] theorem setEvent_stn (s : State) (e : Event) : (s.setEvent e).stn = s.stn := rfl
@[simp] theorem setEvent_events (s : State) (e : Event) :
    (s.setEvent e).port.events = s.port.events ||| e.word := rfl

/-- A flag set is set, and no flag is cleared by it (R169). -/
theorem setEvent_bit (s : State) (e : Event) : (s.setEvent e).port.events.getLsbD e.bit = true := by
  cases e <;> simp [Event.word, Event.bit]

theorem setEvent_marks (s : State) (e : Event) : MarkFrame s (s.setEvent e) :=
  ⟨rfl, rfl, rfl, rfl, rfl, fun k h => by simp [h]⟩

section
variable (s : State)

theorem yieldSheds_marks (y : YieldIn) (n count : Nat) (s : State) : MarkFrame s (yieldSheds y n count s) := by
  induction n generalizing count s with
  | zero => exact .refl s
  | succ n ih =>
    unfold yieldSheds
    split
    · exact .refl s
    · split
      · exact .refl s
      · exact ((shedChan_load s _ _ _).marks.trans (setEvent_marks _ _)).trans (ih _ _)

theorem handleYield_marks (y : YieldIn) : MarkFrame s (s.handleYield y) := by
  unfold State.handleYield
  split
  · exact setEvent_marks s _
  · exact (((setChans_load s _).marks.trans (setEvent_marks _ _)).trans (releaseSpares_load _ _).marks).trans
      (yieldSheds_marks y 8 _ _)

theorem ringAppend_marks (n : StoredNotice) : MarkFrame s (s.ringAppend n) := by
  have h := setNotice_load s { s.notice with ring := s.notice.ring ++ [n] }
  unfold State.ringAppend
  dsimp only
  split
  · split
    · exact h.marks.trans (setEvent_marks _ _)
    · exact h.marks
  · exact setEvent_marks s _

theorem comparePresence_marks (payload : List Byte) : MarkFrame s (s.comparePresence payload) := by
  unfold State.comparePresence
  split
  · exact .refl s
  · exact setEvent_marks s _

theorem handOff_marks (n : StoredNotice) : MarkFrame s (s.handOff n) := by
  unfold State.handOff
  split
  · split
    · exact .refl s
    · split
      · exact comparePresence_marks s _
      · split
        · exact handleYield_marks s _
        · exact .refl s
      · exact .refl s
  · exact .refl s

theorem dispose_marks (n : StoredNotice) : MarkFrame s (s.dispose n) := by
  unfold State.dispose
  split
  · exact .refl s
  · exact (ringAppend_marks s n).trans (handOff_marks _ n)

/-- A notice end takes the Roll Tracker where its form says and then touches loads and events alone, or it does
nothing (R13, R130). -/
theorem takeNoticeEnd_cases (form : NoticeForm) :
    s.takeNoticeEnd form = s ∨ MarkFrame (s.setRoll (s.roll.noticeEnd form)) (s.takeNoticeEnd form) := by
  unfold State.takeNoticeEnd
  split
  · split
    · exact .inr ((setNotice_load _ _).marks.trans (dispose_marks _ _))
    · exact .inl rfl
  · exact .inl rfl

/-- The notice end of a whole notice, or of a stuck line, leaves the Roll Tracker where it stands. -/
theorem takeNoticeEnd_marks (form : NoticeForm) (h : s.roll.noticeEnd form = s.roll) :
    MarkFrame s (s.takeNoticeEnd form) := by
  obtain e | k := takeNoticeEnd_cases s form
  · rw [e]; exact .refl s
  · rw [h] at k; exact k

theorem noticeAtEnd_marks (cause : RollEndCause) : MarkFrame s (s.noticeAtEnd cause) := by
  cases cause with
  | flag => exact .refl s
  | check => exact takeNoticeEnd_marks s .complete rfl
  | trailing => exact .refl s
  | stuck => exact takeNoticeEnd_marks s .stuck rfl

theorem completeSource_marks (r : SendRecord) : MarkFrame s (s.completeSource r) := by
  unfold State.completeSource
  split
  · exact (setNotice_load s _).marks
  · exact (setNotice_load s _).marks
  · have h : MarkFrame s ((s.setNotice { s.notice with holdoff := s.port.image.holdoffUs }).setEvent .yieldOut) :=
      (setNotice_load s _).marks.trans (setEvent_marks _ _)
    dsimp only
    split
    · split
      · exact h.trans (emptySlot_load _).marks
      · exact h
    · exact h

theorem endSend_marks : MarkFrame s s.endSend := by
  unfold State.endSend
  split
  · dsimp only
    split
    · exact (completeSource_marks s _).trans (setNotice_load _ _).marks
    · exact (setNotice_load s _).marks
  · exact .refl s

theorem endRecv_load : LoadFrame s s.endRecv := by
  unfold State.endRecv
  split
  · exact .refl s
  · exact setNotice_load s _

theorem markSkew_marks (units : List Nat) : MarkFrame s (s.markSkew units) := by
  unfold State.markSkew
  split
  · exact (setTable_load s _).marks.trans (setEvent_marks _ _)
  · exact .refl s

theorem takeByPeer_marks (units : List Nat) : MarkFrame s (s.takeByPeer units) := by
  have first : MarkFrame s (if s.overlaps units then s.setEvent .overlap else s) := by
    split
    · exact setEvent_marks s _
    · exact .refl s
  have shed := (first.trans (setTable_load _ _).marks).trans
    (foldl_load _ (fun u c => shedChan_load u c .overlap false) (s.overlapped units)
      ((if s.overlaps units then s.setEvent .overlap else s).setTable
        ((if s.overlaps units then s.setEvent .overlap else s).table.mapViews (takeView units)))).marks
  unfold State.takeByPeer
  dsimp only
  split
  · exact shed.trans (setEvent_marks _ _)
  · exact shed

theorem takeByWinner_marks (units : List Nat) : MarkFrame s (s.takeByWinner units) := by
  unfold State.takeByWinner
  split
  · split
    · exact (setTable_load s _).marks.trans (takeByPeer_marks _ _)
    · split
      · exact ((bindUnits_load s _ _).trans (toStarting_load _ _)).marks
      · exact (setTable_load s _).marks
  · split
    · exact takeByPeer_marks s _
    · exact .refl s
  · exact takeByPeer_marks s _

end

end Sys2Proof.Machine

namespace Sys2Proof.Machine

/-! ### The conditions as Boolean tests (R15, R154) -/

theorem holdsAny_iff (t : UnitTable) : t.holdsAny = true ↔ ∃ r ∈ t.recs, r.view.held = true := by
  simp [UnitTable.holdsAny]

/-- A test of some channel's record is a test of the eight records. -/
theorem anyChan_iff (s : State) (p : ChState → Bool) :
    s.chans.recs.any (fun r => p r.state) = true ↔ ∃ c : Chan, p (s.chan c).state = true := by
  rw [Vector.any_eq_true]
  exact ⟨fun ⟨i, h, e⟩ => ⟨⟨i, h⟩, e⟩, fun ⟨c, e⟩ => ⟨c.val, c.isLt, e⟩⟩

theorem wishes_iff (s : State) : s.wishes = true ↔ Wishes s := by
  have h := anyChan_iff s ChState.isWaiting
  simp [State.wishes, Wishes, holdsAny_iff, h, or_assoc, Option.isSome_iff_ne_none]

theorem isActive_iff (s : State) : s.isActive = true ↔ s.stn.state = .active := by
  simp [State.isActive]

theorem busLossRuns_iff (s : State) : s.busLossRuns = true ↔ BusLossRuns s := by
  have h := anyChan_iff s ChState.isOn
  simp [State.busLossRuns, BusLossRuns, isActive_iff, holdsAny_iff, h]

theorem BusLossRuns.active {s : State} (h : BusLossRuns s) : s.stn.state = .active := h.1

/-! ### What settling leaves (R15, R99, R154) -/

section
variable (s : State)

theorem holdClear_seq_only : s.holdClear = s.setSeq s.holdClear.seq := by
  unfold State.holdClear
  split <;> rfl

@[simp] theorem settle_table : s.settle.table = s.table := by
  unfold State.settle; rw [holdClear_seq_only]; rfl
@[simp] theorem settle_chans : s.settle.chans = s.chans := by
  unfold State.settle; rw [holdClear_seq_only]; rfl
@[simp] theorem settle_notice : s.settle.notice = s.notice := by
  unfold State.settle; rw [holdClear_seq_only]; rfl
@[simp] theorem settle_cont : s.settle.cont = s.cont := by
  unfold State.settle; rw [holdClear_seq_only]; rfl
@[simp] theorem settle_line : s.settle.line = s.line := by
  unfold State.settle; rw [holdClear_seq_only]; rfl
@[simp] theorem settle_port : s.settle.port = s.port := by
  unfold State.settle; rw [holdClear_seq_only]; rfl
theorem settle_roll : s.settle.roll = { s.roll with
    openWish := match s.stn.state with
      | .active => s.wishes
      | .joining => s.roll.openWish
      | _ => false } := by
  unfold State.settle; rw [holdClear_seq_only]; rfl
theorem settle_stn : s.settle.stn = { s.stn with
    busLoss := if s.busLossRuns then some (s.stn.busLoss.getD s.port.image.busLossUs) else none } := by
  unfold State.settle; rw [holdClear_seq_only]; rfl

@[simp] theorem settle_state : s.settle.stn.state = s.stn.state := by rw [settle_stn]

@[simp] theorem settle_wishes : s.settle.wishes = s.wishes := by
  simp [State.wishes]

@[simp] theorem settle_busLossRuns : s.settle.busLossRuns = s.busLossRuns := by
  simp [State.busLossRuns, State.isActive]

end

/-! ### What a departure leaves of the Station Controller (R143) -/

section
variable (s : State) (cause : ShedCause) (x : StationState)

theorem stationShed_marks : MarkFrame s (s.stationShed cause) := by
  have h : MarkFrame s (allChans.foldl (fun u c => u.shedChan cause true c) s) :=
    (foldl_load _ (fun u c => shedChan_load u c cause true) allChans s).marks
  unfold State.stationShed
  dsimp only
  split
  · exact h.trans (setEvent_marks _ _)
  · exact h

theorem abandonSend_load : LoadFrame s s.abandonSend := by
  unfold State.abandonSend
  split
  · split
    · exact .refl s
    · exact setNotice_load s _
  · exact .refl s

theorem departNotice_load : LoadFrame s s.departNotice :=
  ((abandonSend_load s).trans (emptySlot_load _)).trans (setNotice_load _ _)

theorem abandonClaim_cont_only : s.abandonClaim = s.setCont s.abandonClaim.cont := by
  unfold State.abandonClaim
  split <;> rfl

@[simp] theorem abandonClaim_stn : s.abandonClaim.stn = s.stn := by
  rw [abandonClaim_cont_only]; rfl

/-- The blocks' parts of a departure, before the Station Controller enters its new state. -/
def State.departing : State := (s.stationShed cause).dropPicture.abandonClaim.departNotice.dropFences

theorem depart_eq : s.depart cause x = (s.departing cause).enterState x := rfl

theorem departing_stn : (s.departing cause).stn = s.stn := by
  have h : LoadFrame _ (s.departing cause) :=
    (departNotice_load (s.stationShed cause).dropPicture.abandonClaim).trans (setChans_load _ _)
  rw [h.stn, abandonClaim_stn]
  exact (dropPicture_load _).stn.trans (stationShed_marks s cause).stn

@[simp] theorem enterState_busLoss : (s.enterState x).stn.busLoss = s.stn.busLoss := by
  cases x <;> rfl

@[simp] theorem depart_busLoss : (s.depart cause x).stn.busLoss = s.stn.busLoss := by
  rw [depart_eq, enterState_busLoss, departing_stn]

end

/-! ### Steps that leave the bus-loss timer to the settling at their end -/

/-- The bus-loss timer and the image it is set from are as they were. -/
structure TimerKept (s t : State) : Prop where
  busLoss : t.stn.busLoss = s.stn.busLoss
  image : t.port.image = s.port.image

section
variable {s t u : State}

theorem TimerKept.refl (s : State) : TimerKept s s := ⟨rfl, rfl⟩

theorem TimerKept.trans (h : TimerKept s t) (k : TimerKept t u) : TimerKept s u :=
  ⟨k.busLoss.trans h.busLoss, k.image.trans h.image⟩

theorem MarkFrame.timer (h : MarkFrame s t) : TimerKept s t := ⟨by rw [h.stn], h.image⟩

theorem LoadFrame.timer (h : LoadFrame s t) : TimerKept s t := h.marks.timer

end

section
variable (s : State)

theorem setStn_timer (x : StationCtl) (h : x.busLoss = s.stn.busLoss) : TimerKept s (s.setStn x) := ⟨h, rfl⟩

theorem setRoll_timer (x : RollTracker) : TimerKept s (s.setRoll x) := ⟨rfl, rfl⟩

theorem setLine_timer (x : LineIf) : TimerKept s (s.setLine x) := ⟨rfl, rfl⟩

theorem releaseLine_timer : TimerKept s s.releaseLine := ⟨rfl, rfl⟩

theorem stuckTracker_timer : TimerKept s s.stuckTracker := (releaseLine_timer s).trans (setRoll_timer _ _)

theorem depart_timer (cause : ShedCause) (x : StationState) : TimerKept s (s.depart cause x) :=
  ⟨depart_busLoss s cause x, (depart_keep s cause x).image⟩

theorem enterState_timer (x : StationState) : TimerKept s (s.enterState x) :=
  ⟨enterState_busLoss s x, (enterState_keep s x).image⟩

theorem writeIncident_timer (cause : IncidentCause) (c : Option Chan) :
    TimerKept s (s.writeIncident cause c) := ⟨rfl, rfl⟩

/-- An incident record, a departure and the event of its cause. -/
theorem incident_depart_timer (i : IncidentCause) (c : Option Chan) (cause : ShedCause) (x : StationState) :
    TimerKept s ((s.writeIncident i c).depart cause x) :=
  (writeIncident_timer s i c).trans (depart_timer _ cause x)

theorem holdClear_timer : TimerKept s s.holdClear := by
  rw [holdClear_seq_only]; exact ⟨rfl, rfl⟩

theorem faultDrive_timer (c : Option Chan) : TimerKept s (s.faultDrive c) :=
  (incident_depart_timer s .drive c .drive .faulted).trans (setEvent_marks _ _).timer

theorem faultClash_timer : TimerKept s s.faultClash :=
  (incident_depart_timer s .clash none .clash .faulted).trans (setEvent_marks _ _).timer

theorem actRequest_timer (q : Request) : TimerKept s (s.actRequest q) := by
  cases q with
  | leave => exact depart_timer s _ _
  | quiet => exact depart_timer s _ _

theorem takeKillnLow_timer : TimerKept s s.takeKillnLow := by
  have low : TimerKept s (s.setStn { s.stn with killnLow := true }).holdClear :=
    (setStn_timer s _ (by rfl)).trans (holdClear_timer _)
  unfold State.takeKillnLow
  dsimp only
  split
  all_goals first
    | exact low.trans (incident_depart_timer _ _ _ _ _)
    | exact low

theorem takeKillnHigh_timer : TimerKept s s.takeKillnHigh := by
  unfold State.takeKillnHigh
  dsimp only
  split
  · exact (setStn_timer s _ (by rfl)).trans (enterState_timer _ _)
  · exact setStn_timer s _ (by rfl)

theorem takeRollStart_timer : TimerKept s s.takeRollStart := by
  unfold State.takeRollStart
  split <;> exact ⟨rfl, rfl⟩

theorem formBid_timer : TimerKept s s.formBid := ⟨rfl, rfl⟩

theorem takeHoldComplete_timer (units : List Nat) : TimerKept s (s.takeHoldComplete units) := by
  unfold State.takeHoldComplete
  split
  · refine .trans (t := s.toPosition s.numUnits) ⟨rfl, rfl⟩ (.trans ?_ (formBid_timer _))
    split
    · exact ((markSkew_marks _ units).trans (setTable_load _ _).marks).timer
    · exact .refl _
  · exact .refl s

theorem takeClaimResolved_timer (word : BitVec 10) : TimerKept s (s.takeClaimResolved word) := by
  have settled : TimerKept s ((s.toPosition (s.numUnits + 10)).settleClaim word) := ⟨rfl, rfl⟩
  unfold State.takeClaimResolved
  split
  · dsimp only
    split
    · exact settled.trans (faultClash_timer _)
    · exact settled
  · exact .refl s

theorem takeTakeComplete_timer (units : List Nat) : TimerKept s (s.takeTakeComplete units) := by
  unfold State.takeTakeComplete
  split
  · refine .trans (t := s.toPosition (2 * s.numUnits + 10)) ⟨rfl, rfl⟩ ?_
    dsimp only
    split
    · refine (markSkew_marks _ units).timer.trans ?_
      split
      · exact (takeByWinner_marks _ units).timer
      · exact (takeByPeer_marks _ units).timer
    · exact .refl _
  · exact .refl s

theorem takeNoticeEnd_timer (form : NoticeForm) : TimerKept s (s.takeNoticeEnd form) := by
  obtain e | h := takeNoticeEnd_cases s form
  · rw [e]; exact .refl s
  · exact (setRoll_timer s _).trans h.timer

theorem takeDriveReport_timer (phase : Phase) (position : Nat) :
    TimerKept s (s.takeDriveReport phase position) := by
  unfold State.takeDriveReport
  split
  · refine .trans (t := (s.setRoll (s.roll.driveReport phase)).dropRecv phase) ?_ (faultDrive_timer _ _)
    unfold State.dropRecv
    split <;> exact ⟨rfl, rfl⟩
  · exact .refl s

theorem takeConflict_timer (phase : OwnPhase) : TimerKept s (s.takeConflict phase) := by
  have effects : TimerKept s (s.conflictEffects phase) := ⟨rfl, rfl⟩
  unfold State.takeConflict
  split
  · dsimp only
    split
    · exact effects.trans (faultClash_timer _)
    · exact effects
  · exact .refl s

theorem stuckReport_timer : TimerKept s s.stuckReport := by
  unfold State.stuckReport
  split
  · exact (incident_depart_timer s _ _ _ _).trans (setEvent_marks _ _).timer
  all_goals exact ⟨rfl, rfl⟩

theorem takeStuckLine_timer : TimerKept s s.takeStuckLine := by
  unfold State.takeStuckLine
  split
  · exact ((setLine_timer s _).trans (stuckReport_timer _)).trans (stuckTracker_timer _)
  · exact .refl s

theorem takeBusLossExpiry_timer : TimerKept s s.takeBusLossExpiry := by
  unfold State.takeBusLossExpiry
  split
  · exact (incident_depart_timer s _ _ _ _).trans (setEvent_marks _ _).timer
  · exact .refl s

theorem takeWaitExpiry_load (c : Chan) : LoadFrame s (s.takeWaitExpiry c) := by
  unfold State.takeWaitExpiry
  split
  · split
    · exact (setChState_load s c _).trans (offer_load _ c)
    · exact .refl s
  · exact .refl s

theorem takeMinOnExpiry_load (c : Chan) : LoadFrame s (s.takeMinOnExpiry c) := by
  unfold State.takeMinOnExpiry
  split
  · dsimp only
    split
    · exact (setChState_load s c _).trans (stopChan_load _ c)
    · exact setChState_load s c _
  · exact .refl s

theorem takeMinOffExpiry_load (c : Chan) : LoadFrame s (s.takeMinOffExpiry c) := by
  unfold State.takeMinOffExpiry
  split
  · dsimp only
    split
    · exact (setChan_load s c _).trans (enterWaiting_load _ c _)
    · exact setChan_load s c _
  · exact .refl s

theorem takeStaggerReached_load : LoadFrame s s.takeStaggerReached := by
  unfold State.takeStaggerReached
  split
  · exact .refl s
  · exact (setSeq_load s _).trans (checkHead_load _)

theorem takeLevelChange_load (pins : BitVec 8) : LoadFrame s (s.takeLevelChange pins) := by
  unfold State.takeLevelChange
  split
  · exact foldl_load _ (fun u c => writeInputs_load u c _) _ s
  · exact .refl s

theorem parkChan_load (c : Chan) : LoadFrame s (s.parkChan c) := by
  have bit := setChan_load s c { s.chan c with park := true }
  unfold State.parkChan
  dsimp only
  split
  all_goals first
    | exact bit.trans (setChState_load _ c _)
    | exact bit.trans (shedChan_load _ c _ _)
    | exact bit

theorem unparkChan_load (c : Chan) : LoadFrame s (s.unparkChan c) := by
  have bit := setChan_load s c { s.chan c with park := false }
  unfold State.unparkChan
  dsimp only
  split
  · split
    · split
      · exact (bit.trans (setChState_load _ c _)).trans (enterWaiting_load _ c _)
      · exact bit.trans (setChState_load _ c _)
    · exact bit.trans (setChState_load _ c _)
  · exact bit

theorem request_timer (q : Request) : TimerKept s (s.request q) := by
  unfold State.request
  split
  · exact ⟨rfl, rfl⟩
  · exact actRequest_timer s q

theorem leaveEffect_timer : TimerKept s s.leaveEffect := by
  unfold State.leaveEffect
  split
  · exact request_timer s _
  · exact depart_timer s _ _

theorem quietEffect_timer : TimerKept s s.quietEffect := by
  unfold State.quietEffect
  split
  · exact request_timer s _
  · exact enterState_timer s _

end

/-! ### Steps under which flag and timer follow -/

theorem conditionsHold_iff (s : State) : ConditionsHold s ↔
    (s.stn.state = .active → s.roll.openWish = s.wishes) ∧ s.stn.busLoss.isSome = s.busLossRuns := by
  rw [Bool.eq_iff_iff (a := s.roll.openWish), Bool.eq_iff_iff (a := s.stn.busLoss.isSome), wishes_iff,
    busLossRuns_iff, Option.isSome_iff_ne_none]
  rfl

end Sys2Proof.Machine

namespace Sys2Proof.Machine

/-- t differs from s in nothing that the open-wish flag, the bus-loss timer and their conditions are read from. -/
structure SameConditions (s t : State) : Prop where
  state : t.stn.state = s.stn.state
  openWish : s.stn.state = .active → t.roll.openWish = s.roll.openWish
  wishes : t.wishes = s.wishes
  runs : t.busLossRuns = s.busLossRuns
  busLoss : t.stn.busLoss = s.stn.busLoss
  image : t.port.image = s.port.image

section
variable {s t u : State}

theorem SameConditions.refl (s : State) : SameConditions s s := ⟨rfl, fun _ => rfl, rfl, rfl, rfl, rfl⟩

theorem SameConditions.trans (h : SameConditions s t) (k : SameConditions t u) : SameConditions s u :=
  ⟨k.state.trans h.state, fun a => (k.openWish (h.state.trans a)).trans (h.openWish a),
   k.wishes.trans h.wishes, k.runs.trans h.runs, k.busLoss.trans h.busLoss, k.image.trans h.image⟩

theorem SameConditions.hold (h : SameConditions s t) (c : ConditionsHold s) : ConditionsHold t := by
  rw [conditionsHold_iff] at c ⊢
  refine ⟨fun a => ?_, ?_⟩
  · have active := h.state.symm.trans a
    rw [h.openWish active, h.wishes, c.1 active]
  · rw [h.busLoss, h.runs, c.2]

end

section
variable (s : State)

theorem setLine_same (x : LineIf) : SameConditions s (s.setLine x) := ⟨rfl, fun _ => rfl, rfl, rfl, rfl, rfl⟩

theorem setRoll_same (x : RollTracker) (h : s.stn.state = .active → x.openWish = s.roll.openWish) :
    SameConditions s (s.setRoll x) := ⟨rfl, h, rfl, rfl, rfl, rfl⟩

theorem setCont_same (x : Contention) : SameConditions s (s.setCont x) := ⟨rfl, fun _ => rfl, rfl, rfl, rfl, rfl⟩

theorem setStn_same (x : StationCtl) (h : x.state = s.stn.state) (k : x.busLoss = s.stn.busLoss) :
    SameConditions s (s.setStn x) :=
  ⟨h, fun _ => rfl, rfl, by simp [State.busLossRuns, State.isActive, h], k, rfl⟩

theorem setNotice_same (x : NoticeUnit) (h : x.presence = s.notice.presence) (k : x.slot = s.notice.slot)
    (l : x.tx = s.notice.tx) : SameConditions s (s.setNotice x) :=
  ⟨rfl, fun _ => rfl, by simp [State.wishes, h, k, l], rfl, rfl, rfl⟩

theorem setChans_same (x : Channels) (h : x.recs = s.chans.recs) : SameConditions s (s.setChans x) :=
  ⟨rfl, fun _ => rfl, by simp [State.wishes, h], by simp [State.busLossRuns, State.isActive, h], rfl, rfl⟩

theorem setPort_same (x : LocalPort) (h : x.image = s.port.image) : SameConditions s (s.setPort x) :=
  ⟨rfl, fun _ => rfl, rfl, rfl, rfl, h⟩

theorem setSeq_same (x : Sequencer) : SameConditions s (s.setSeq x) := ⟨rfl, fun _ => rfl, rfl, rfl, rfl, rfl⟩

theorem setClock_same (x : Clock) : SameConditions s (s.setClock x) := ⟨rfl, fun _ => rfl, rfl, rfl, rfl, rfl⟩

theorem setPins_same (x : Pins) : SameConditions s (s.setPins x) := ⟨rfl, fun _ => rfl, rfl, rfl, rfl, rfl⟩

theorem setInputs_same (x : List Pins) : SameConditions s (s.setInputs x) :=
  ⟨rfl, fun _ => rfl, rfl, rfl, rfl, rfl⟩

theorem setFree_same (x : Nat) : SameConditions s (s.setFree x) := ⟨rfl, fun _ => rfl, rfl, rfl, rfl, rfl⟩

theorem setPending_same (x : List Instr) : SameConditions s (s.setPending x) :=
  ⟨rfl, fun _ => rfl, rfl, rfl, rfl, rfl⟩

theorem setEvent_same (e : Event) : SameConditions s (s.setEvent e) := setPort_same s _ rfl

theorem rxIdle_same : SameConditions s s.rxIdle := setPort_same s _ rfl

theorem errorFor_same (r : Reply) : SameConditions s (s.errorFor r) := by
  unfold State.errorFor
  split
  · exact setEvent_same s _
  · exact .refl s

theorem finishWrite_same (r : Reply) : SameConditions s (s.finishWrite r) :=
  ((setPort_same s { s.port with reply := r } rfl).trans (errorFor_same _ r)).trans (rxIdle_same _)

theorem stageData_same (r : Reply) (data : List Byte) : SameConditions s (s.stageData r data) :=
  setPort_same s _ rfl

/-- A read changes no condition where its effect does not. -/
theorem readCommand_same (t : Operands) (n : Nat) (v : Reply) (data : List Byte) (e : State → State)
    (h : SameConditions s (e s)) : SameConditions s (s.readCommand t n v data e) := by
  unfold State.readCommand
  split
  · split
    · exact h.trans (stageData_same _ _ _)
    · exact (errorFor_same s v).trans (stageData_same _ _ _)
  · exact finishWrite_same s _

/-! ### The commands that touch no condition -/

theorem takeSettlingEnd_same : SameConditions s s.takeSettlingEnd := by
  unfold State.takeSettlingEnd
  split
  · exact (setRoll_same s _ fun _ => by rfl).trans (setLine_same _ _)
  · exact .refl s

theorem takeCandidateOpen_same : SameConditions s s.takeCandidateOpen := by
  unfold State.takeCandidateOpen
  split
  · exact (setRoll_same s _ fun _ => by rfl).trans (setLine_same _ _)
  · exact .refl s

theorem takeOpenNoise_same (run : Nat) : SameConditions s (s.takeOpenNoise run) := by
  unfold State.takeOpenNoise
  split
  · exact setRoll_same s _ fun _ => rfl
  · exact .refl s

theorem takeOpenRoll_same : SameConditions s s.takeOpenRoll := by
  unfold State.takeOpenRoll
  split
  · exact (setRoll_same s _ fun _ => by rfl).trans (setLine_same _ _)
  · exact .refl s

theorem takeMalformedOpen_same : SameConditions s s.takeMalformedOpen := by
  unfold State.takeMalformedOpen
  split
  · exact ((setRoll_same s _ fun _ => by rfl).trans (setLine_same _ _)).trans (setStn_same _ _ (by rfl) (by rfl))
  · exact .refl s

/-- The silence timer raises the open-wish flag in JOINING alone (R15, R141). -/
theorem takeSilenceExpiry_same : SameConditions s s.takeSilenceExpiry := by
  unfold State.takeSilenceExpiry
  split
  · refine (setStn_same s _ (by rfl) (by rfl)).trans (setRoll_same _ _ fun a => ?_)
    have active : s.stn.state = .active := a
    simp [active]
  · exact .refl s

theorem takeArbitrationLost_same (bit : Nat) : SameConditions s (s.takeArbitrationLost bit) := by
  unfold State.takeArbitrationLost
  split
  · exact (setCont_same s _).trans (setLine_same _ _)
  · exact .refl s

theorem takeFlagReading_same (level : Level) : SameConditions s (s.takeFlagReading level) := by
  unfold State.takeFlagReading
  split
  · exact setRoll_same s _ fun _ => rfl
  · exact .refl s

theorem trackCharacter_same (index : Nat) (data : Byte) (framing marker : Bool) :
    SameConditions s (s.trackCharacter index data framing marker) := setRoll_same s _ fun _ => rfl

theorem takeNoticeCharacter_same (index : Nat) (data : Byte) (framing marker : Bool) :
    SameConditions s (s.takeNoticeCharacter index data framing marker) := by
  unfold State.takeNoticeCharacter
  split
  · exact (trackCharacter_same s index data framing marker).trans (setNotice_same _ _ rfl rfl rfl)
  · exact .refl s

theorem takeUnknown_same (code : Byte) : SameConditions s (s.takeUnknown code) := by
  unfold State.takeUnknown
  split
  · exact finishWrite_same s _
  · exact .refl s

theorem takeCfgRead_same (t : Operands) : SameConditions s (s.takeCfgRead t) := by
  unfold State.takeCfgRead
  split <;> exact readCommand_same s _ _ _ _ _ (.refl s)

theorem takeReadUnit_same (t : Operands) : SameConditions s (s.takeReadUnit t) := by
  unfold State.takeReadUnit
  split <;> exact readCommand_same s _ _ _ _ _ (.refl s)

theorem takeReadChannel_same (t : Operands) : SameConditions s (s.takeReadChannel t) := by
  unfold State.takeReadChannel
  split <;> exact readCommand_same s _ _ _ _ _ (.refl s)

theorem takePop_same (t : Operands) : SameConditions s (s.takePop t) := by
  unfold State.takePop
  refine readCommand_same s _ _ _ _ _ ?_
  exact setNotice_same s _ rfl rfl rfl

theorem takeReadQueue_same (t : Operands) : SameConditions s (s.takeReadQueue t) := by
  unfold State.takeReadQueue
  refine readCommand_same s _ _ _ _ _ ?_
  exact .refl s

theorem takeReadStation_same (t : Operands) : SameConditions s (s.takeReadStation t) := by
  unfold State.takeReadStation
  refine readCommand_same s _ _ _ _ _ ?_
  exact .refl s

theorem takeReadIncident_same (t : Operands) : SameConditions s (s.takeReadIncident t) := by
  unfold State.takeReadIncident
  refine readCommand_same s _ _ _ _ _ ?_
  exact setStn_same s _ rfl rfl

theorem takeReadEvents_same (t : Operands) : SameConditions s (s.takeReadEvents t) := by
  unfold State.takeReadEvents
  refine readCommand_same s _ _ _ _ _ ?_
  exact .refl s

end

/-! ### How a command treats flag and timer -/

/-- The three ways of a command other than a roll end: it touches no condition; it settles after an effect that leaves
the timer alone; or it ends outside ACTIVE with the timer stopped. -/
inductive FollowsBy (s t : State) : Prop where
  | same (h : SameConditions s t)
  | settled (u : State) (h : TimerKept s u) (k : SameConditions u.settle t)
  | outside (h : t.stn.state ≠ .active) (k : t.stn.busLoss = none)

section
variable {s t u : State}

theorem TimerKept.settles (h : TimerKept s u) : FollowsBy s u.settle := .settled u h (.refl _)

theorem LoadFrame.settles (h : LoadFrame s u) : FollowsBy s u.settle := h.timer.settles

theorem FollowsBy.then_same (h : FollowsBy s t) (k : SameConditions t u) : FollowsBy s u := by
  cases h with
  | same h => exact .same (h.trans k)
  | settled v h l => exact .settled v h (l.trans k)
  | outside h l => exact .outside (fun a => h (k.state.symm.trans a)) (k.busLoss.trans l)

/-- A write command follows where the effect of an accepted one does. -/
theorem writeCommand_follows (x : Operands) (n : Nat) (v : Reply) (e : State → State)
    (h : v = .accepted → FollowsBy s (e s)) : FollowsBy s (s.writeCommand x n v e) := by
  unfold State.writeCommand
  split
  · split
    · exact (h ‹_›).then_same (finishWrite_same _ _)
    · exact .same (finishWrite_same s _)
  · exact .same (finishWrite_same s _)

/-- In CONFIG the timer stands, by its running condition (R154). -/
theorem busLoss_of_not_active (c : ConditionsHold s) (h : s.stn.state ≠ .active) : s.stn.busLoss = none := by
  by_contra k
  exact h (c.2.1 k).active

theorem inConfig_of_cfgWrite {i b : Byte} (h : s.cfgWriteVerdict i b = .accepted) : s.stn.state = .config := by
  by_contra k
  simp [State.cfgWriteVerdict, State.inConfig, k] at h

theorem inConfig_of_lock (h : s.lockVerdict = .accepted) : s.stn.state = .config := by
  by_contra k
  simp [State.lockVerdict, State.inConfig, k] at h

theorem takeCfgWrite_follows (c : ConditionsHold s) (x : Operands) : FollowsBy s (s.takeCfgWrite x) := by
  refine writeCommand_follows x _ _ _ fun v => .outside ?_ ?_
  all_goals
    have config := inConfig_of_cfgWrite v
    have stn : (s.storeItem (x.byte 0) (x.byte 1)).stn = s.stn := by
      unfold State.storeItem
      split <;> rfl
    rw [stn]
  · simp [config]
  · exact busLoss_of_not_active c (by simp [config])

theorem takeLock_follows (x : Operands) : FollowsBy s (s.takeLock x) := by
  refine writeCommand_follows x _ _ _ fun _ => .outside ?_ rfl
  change s.joinOrHalt ≠ .active
  unfold State.joinOrHalt
  split <;> simp

theorem softReset_follows : FollowsBy s s.softReset :=
  ((depart_timer s .reset s.joinOrHalt).trans ⟨rfl, rfl⟩ :
    TimerKept s (s.depart .reset s.joinOrHalt).softValues).settles

theorem takeDemandSet_follows (x : Operands) : FollowsBy s (s.takeDemandSet x) := by
  unfold State.takeDemandSet
  refine writeCommand_follows x _ _ _ fun _ => ?_
  exact (foldl_load _ (fun u c => writeInputs_load u c _) _ s).settles

theorem takeDemandClear_follows (x : Operands) : FollowsBy s (s.takeDemandClear x) := by
  unfold State.takeDemandClear
  refine writeCommand_follows x _ _ _ fun _ => ?_
  exact (foldl_load _ (fun u c => writeInputs_load u c _) _ s).settles

theorem takePark_follows (x : Operands) : FollowsBy s (s.takePark x) := by
  unfold State.takePark
  refine writeCommand_follows x _ _ _ fun _ => ?_
  exact (foldl_load _ parkChan_load _ s).settles

theorem takeUnpark_follows (x : Operands) : FollowsBy s (s.takeUnpark x) := by
  unfold State.takeUnpark
  refine writeCommand_follows x _ _ _ fun _ => ?_
  exact (foldl_load _ unparkChan_load _ s).settles

theorem takeSend_follows (x : Operands) : FollowsBy s (s.takeSend x) := by
  unfold State.takeSend
  refine writeCommand_follows x _ _ _ fun _ => ?_
  exact (setNotice_load s _).settles

theorem takeYield_follows (x : Operands) : FollowsBy s (s.takeYield x) := by
  unfold State.takeYield
  refine writeCommand_follows x _ _ _ fun _ => ?_
  exact (setSlot_load s _).settles

theorem takeClearEvents_follows (x : Operands) : FollowsBy s (s.takeClearEvents x) := by
  unfold State.takeClearEvents
  refine writeCommand_follows x _ _ _ fun _ => ?_
  exact .same (setPort_same s _ rfl)

theorem takeSetEnables_follows (x : Operands) : FollowsBy s (s.takeSetEnables x) := by
  unfold State.takeSetEnables
  refine writeCommand_follows x _ _ _ fun _ => ?_
  exact .same (setPort_same s _ rfl)

theorem takeJoin_follows (x : Operands) : FollowsBy s (s.takeJoin x) := by
  unfold State.takeJoin
  refine writeCommand_follows x _ _ _ fun _ => ?_
  exact (enterState_timer s _).settles

theorem takeLeave_follows (x : Operands) : FollowsBy s (s.takeLeave x) := by
  unfold State.takeLeave
  refine writeCommand_follows x _ _ _ fun _ => ?_
  exact (leaveEffect_timer s).settles

theorem takeQuiet_follows (x : Operands) : FollowsBy s (s.takeQuiet x) := by
  unfold State.takeQuiet
  refine writeCommand_follows x _ _ _ fun _ => ?_
  exact (quietEffect_timer s).settles

theorem takeClearFault_follows (x : Operands) : FollowsBy s (s.takeClearFault x) := by
  unfold State.takeClearFault
  refine writeCommand_follows x _ _ _ fun _ => ?_
  exact (enterState_timer s _).settles

theorem takeSoftReset_follows (x : Operands) : FollowsBy s (s.takeSoftReset x) := by
  unfold State.takeSoftReset
  refine writeCommand_follows x _ _ _ fun _ => ?_
  exact softReset_follows

/-- Each command of the local port follows. -/
theorem runCommand_follows (c : ConditionsHold s) (k : Command) (x : Operands) :
    FollowsBy s (s.runCommand k x) := by
  cases k with
  | cfgWrite => exact takeCfgWrite_follows c x
  | cfgRead => exact .same (takeCfgRead_same s x)
  | lock => exact takeLock_follows x
  | demandSet => exact takeDemandSet_follows x
  | demandClear => exact takeDemandClear_follows x
  | park => exact takePark_follows x
  | unpark => exact takeUnpark_follows x
  | send => exact takeSend_follows x
  | yield => exact takeYield_follows x
  | pop => exact .same (takePop_same s x)
  | readUnit => exact .same (takeReadUnit_same s x)
  | readChannel => exact .same (takeReadChannel_same s x)
  | readQueue => exact .same (takeReadQueue_same s x)
  | readStation => exact .same (takeReadStation_same s x)
  | readIncident => exact .same (takeReadIncident_same s x)
  | readEvents => exact .same (takeReadEvents_same s x)
  | clearEvents => exact takeClearEvents_follows x
  | setEnables => exact takeSetEnables_follows x
  | join => exact takeJoin_follows x
  | leave => exact takeLeave_follows x
  | quiet => exact takeQuiet_follows x
  | clearFault => exact takeClearFault_follows x
  | softReset => exact takeSoftReset_follows x

/-- A port command as a row of the table is the command run with its operands. -/
theorem fire_toInstr (s : State) (k : Command) (x : Operands) : s.fire (k.toInstr x) = s.runCommand k x := by
  cases k <;> rfl

theorem takeCsnRise_follows (c : ConditionsHold s) : FollowsBy s s.takeCsnRise := by
  have closed : FollowsBy s s.closeTransaction := by
    unfold State.closeTransaction
    split
    · exact .same (takeUnknown_same s _)
    · split
      · exact .same (finishWrite_same s _)
      · exact runCommand_follows c _ _
  unfold State.takeCsnRise
  split
  · exact closed.then_same (rxIdle_same _)
  · exact closed.then_same (rxIdle_same _)
  all_goals exact .same (rxIdle_same s)

/-- Every command but a roll end follows in one of the three ways. -/
theorem fire_follows (c : ConditionsHold s) (i : Instr) (h : ∀ cause order, i ≠ .rollEnd cause order) :
    FollowsBy s (s.fire i) := by
  cases i with
  | por => exact .outside (by simp [State.fire, exec, execPor, State.afterPor, State.keepOutside, State.reset,
      StationCtl.reset]) rfl
  | reset => exact .outside (by simp [State.fire, exec, execReset, State.afterReset, State.keepOutside,
      State.reset, StationCtl.reset]) rfl
  | killnLow => exact (takeKillnLow_timer s).settles
  | killnHigh => exact (takeKillnHigh_timer s).settles
  | filteredLevelChange pins => exact (takeLevelChange_load s pins).settles
  | settlingEnd => exact .same (takeSettlingEnd_same s)
  | openRoll => exact .same (takeOpenRoll_same s)
  | rollStart => exact (takeRollStart_timer s).settles
  | malformedOpen => exact .same (takeMalformedOpen_same s)
  | holdComplete units => exact (takeHoldComplete_timer s units).settles
  | arbitrationLost bit => exact .same (takeArbitrationLost_same s bit)
  | claimResolved word => exact (takeClaimResolved_timer s word).settles
  | takeComplete units => exact (takeTakeComplete_timer s units).settles
  | flagReading level => exact .same (takeFlagReading_same s level)
  | noticeCharacter index data framing marker => exact .same (takeNoticeCharacter_same s index data framing marker)
  | noticeEnd form => exact (takeNoticeEnd_timer s form).settles
  | rollEnd cause order => exact absurd rfl (h cause order)
  | driveReport phase position => exact (takeDriveReport_timer s phase position).settles
  | conflict phase => exact (takeConflict_timer s phase).settles
  | stuckLine => exact (takeStuckLine_timer s).settles
  | silenceTimerExpiry => exact .same (takeSilenceExpiry_same s)
  | busLossExpiry => exact (takeBusLossExpiry_timer s).settles
  | lingerExpiry unit => exact (setTable_load s _).settles
  | waitTimerExpiry d => exact (takeWaitExpiry_load s d).settles
  | minOnExpiry d => exact (takeMinOnExpiry_load s d).settles
  | minOffExpiry d => exact (takeMinOffExpiry_load s d).settles
  | fenceExpiry sender => exact .same (setChans_same s _ rfl)
  | yieldHoldoffExpiry => exact .same (setNotice_same s _ rfl rfl rfl)
  | staggerReached => exact (takeStaggerReached_load s).settles
  | statusCapture => exact .same (setPort_same s _ rfl)
  | cfgWrite x => exact runCommand_follows c .cfgWrite x
  | cfgRead x => exact runCommand_follows c .cfgRead x
  | lock x => exact runCommand_follows c .lock x
  | demandSet x => exact runCommand_follows c .demandSet x
  | demandClear x => exact runCommand_follows c .demandClear x
  | park x => exact runCommand_follows c .park x
  | unpark x => exact runCommand_follows c .unpark x
  | send x => exact runCommand_follows c .send x
  | yield x => exact runCommand_follows c .yield x
  | pop x => exact runCommand_follows c .pop x
  | readUnit x => exact runCommand_follows c .readUnit x
  | readChannel x => exact runCommand_follows c .readChannel x
  | readQueue x => exact runCommand_follows c .readQueue x
  | readStation x => exact runCommand_follows c .readStation x
  | readIncident x => exact runCommand_follows c .readIncident x
  | readEvents x => exact runCommand_follows c .readEvents x
  | clearEvents x => exact runCommand_follows c .clearEvents x
  | setEnables x => exact runCommand_follows c .setEnables x
  | join x => exact runCommand_follows c .join x
  | leave x => exact runCommand_follows c .leave x
  | quiet x => exact runCommand_follows c .quiet x
  | clearFault x => exact runCommand_follows c .clearFault x
  | softReset x => exact runCommand_follows c .softReset x
  | unknownCommand code => exact .same (takeUnknown_same s code)
  | candidateOpen => exact .same (takeCandidateOpen_same s)
  | openNoise run => exact .same (takeOpenNoise_same s run)
  | csnRise => exact takeCsnRise_follows c

end

end Sys2Proof.Machine

namespace Sys2Proof.Machine

/-! ### The roll end and the timer (R154) -/

/-- The timer is stopped, left or set back to BUS_LOSS; the image stays. -/
structure TimerRestarts (s t : State) : Prop where
  image : t.port.image = s.port.image
  busLoss : t.stn.busLoss = none ∨ t.stn.busLoss = s.stn.busLoss ∨ t.stn.busLoss = some (busLossSpan s)

section
variable {s t u : State}

theorem TimerKept.restarts (h : TimerKept s t) : TimerRestarts s t := ⟨h.image, .inr (.inl h.busLoss)⟩

theorem TimerRestarts.before (h : TimerKept s t) (k : TimerRestarts t u) : TimerRestarts s u := by
  have span : busLossSpan t = busLossSpan s := by simp [busLossSpan, h.image]
  refine ⟨k.image.trans h.image, ?_⟩
  rw [← h.busLoss, ← span]
  exact k.busLoss

theorem TimerRestarts.after (h : TimerRestarts s t) (k : TimerKept t u) : TimerRestarts s u := by
  refine ⟨k.image.trans h.image, ?_⟩
  rw [k.busLoss]
  exact h.busLoss

end

section
variable (s : State)

theorem endConflictRun_timer : TimerKept s s.endConflictRun := by
  unfold State.endConflictRun
  split <;> exact ⟨rfl, rfl⟩

theorem clearMark_timer : TimerKept s s.clearMark := ⟨rfl, rfl⟩

theorem restartBusLoss_restarts (valid : Bool) : TimerRestarts s (s.restartBusLoss valid) := by
  unfold State.restartBusLoss
  split
  · refine ⟨rfl, ?_⟩
    change s.stn.busLoss.map _ = none ∨ s.stn.busLoss.map _ = _ ∨ s.stn.busLoss.map _ = _
    cases s.stn.busLoss with
    | none => exact .inl rfl
    | some n => exact .inr (.inr rfl)
  · exact (TimerKept.refl s).restarts

theorem endActive_restarts (valid : Bool) : TimerRestarts s (s.endActive valid) := by
  unfold State.endActive
  dsimp only
  split
  · exact (restartBusLoss_restarts s valid).after (actRequest_timer _ _)
  · exact restartBusLoss_restarts s valid

theorem endJoining_restarts (valid : Bool) : TimerRestarts s (s.endJoining valid) := by
  unfold State.endJoining
  dsimp only
  split
  · exact ⟨rfl, .inl rfl⟩
  · exact (setStn_timer s _ (by rfl)).restarts

theorem endStation_restarts (valid : Bool) : TimerRestarts s (s.endStation valid) := by
  unfold State.endStation
  split
  · exact endJoining_restarts s valid
  · exact (endActive_restarts s valid).after (clearMark_timer _)
  all_goals exact (clearMark_timer s).restarts

theorem endBlocks_restarts (cause : RollEndCause) (valid : Bool) (order : RollEndOrder) :
    TimerRestarts s (s.endBlocks cause valid order) := by
  cases order with
  | checkFirst => exact .before (spareCheck_load s).timer (endStation_restarts _ valid)
  | requestFirst => exact (endStation_restarts s valid).after (spareCheck_load _).timer
  | noticeBetween =>
    exact .before ((spareCheck_load s).timer.trans (noticeAtEnd_marks _ cause).timer) (endStation_restarts _ valid)

/-- The blocks that act at a roll end before the Station Controller's part. -/
theorem endNotices_timer : TimerKept s s.endConflictRun.endSend.endRecv :=
  ((endConflictRun_timer s).trans (endSend_marks _).timer).trans (endRecv_load _).timer

theorem takeRollEnd_restarts (cause : RollEndCause) (order : RollEndOrder) :
    TimerRestarts s (s.takeRollEnd cause order) := by
  unfold State.takeRollEnd
  split
  · exact .before (((endNotices_timer s).trans (setRoll_timer _ _)).trans (setStn_timer _ _ (by rfl)))
      (endBlocks_restarts _ _ _ _)
  · exact (TimerKept.refl s).restarts

end

/-! ### What follows of flag and timer for every command -/

/-- After t the conditions hold, and the timer is stopped, or it is b or BUS_LOSS × 10 ms. -/
structure Follows (b : Option Nat) (t : State) : Prop where
  conditions : ConditionsHold t
  timer : t.stn.busLoss = none ∨ t.stn.busLoss = b ∨ t.stn.busLoss = some (busLossSpan t)

theorem settle_conditions (s : State) : ConditionsHold s.settle := by
  rw [conditionsHold_iff, settle_wishes, settle_busLossRuns, settle_stn, settle_roll]
  refine ⟨fun a => ?_, ?_⟩
  · have active : s.stn.state = .active := a
    simp [active]
  · cases s.busLossRuns <;> rfl

/-- The settling stops the timer, keeps it, or starts it at BUS_LOSS × 10 ms. -/
theorem settle_busLoss (s : State) : s.settle.stn.busLoss = none ∨
    s.settle.stn.busLoss = some (s.stn.busLoss.getD (busLossSpan s)) := by
  rw [settle_stn]
  cases s.busLossRuns
  · exact .inl rfl
  · exact .inr rfl

section
variable {s t u : State} {b : Option Nat}

theorem busLossSpan_congr (h : t.port.image = s.port.image) : busLossSpan t = busLossSpan s := by
  simp [busLossSpan, h]

theorem Follows.same (f : Follows b s) (h : SameConditions s t) : Follows b t := by
  refine ⟨h.hold f.conditions, ?_⟩
  rw [h.busLoss, busLossSpan_congr h.image]
  exact f.timer

/-- Settling after the timer was stopped, left or set back. -/
theorem Follows.restarts (f : Follows b s) (h : TimerRestarts s u) : Follows b u.settle := by
  refine ⟨settle_conditions u, ?_⟩
  have span : busLossSpan u.settle = busLossSpan s := by
    rw [busLossSpan_congr (by simp : u.settle.port.image = u.port.image), busLossSpan_congr h.image]
  obtain stopped | runs := settle_busLoss u
  · exact .inl stopped
  · rw [runs, span, busLossSpan_congr h.image]
    have start := f.timer
    obtain e | e | e := h.busLoss
    · simp [e]
    · rw [e]
      obtain e | e | e := start
      · simp [e]
      · cases hb : b <;> simp [e, hb]
      · simp [e]
    · simp [e]

theorem Follows.outside (h : t.stn.state ≠ .active) (k : t.stn.busLoss = none) : Follows b t := by
  refine ⟨⟨fun a => absurd a h, fun n => absurd k n, fun r => absurd r.active h⟩, .inl k⟩

theorem Follows.by_command (f : Follows b s) (h : FollowsBy s t) : Follows b t := by
  cases h with
  | same h => exact f.same h
  | settled u h k => exact (f.restarts h.restarts).same k
  | outside h k => exact .outside h k

/-- Flag and timer follow through every command. -/
theorem Follows.fire (f : Follows b s) (i : Instr) : Follows b (s.fire i) := by
  by_cases h : ∃ cause order, i = .rollEnd cause order
  · obtain ⟨cause, order, rfl⟩ := h
    exact f.restarts (takeRollEnd_restarts s cause order)
  · exact f.by_command (fire_follows f.conditions i fun cause order e => h ⟨cause, order, e⟩)

/-- A command other than a roll end leaves a timer that runs on as it is. -/
theorem FollowsBy.keeps_running (h : FollowsBy s t) (k : s.stn.busLoss ≠ none) (l : t.stn.busLoss ≠ none) :
    t.stn.busLoss = s.stn.busLoss := by
  cases h with
  | same h => exact h.busLoss
  | settled u h m =>
    rw [m.busLoss] at l ⊢
    obtain stopped | runs := settle_busLoss u
    · exact absurd stopped l
    · obtain ⟨n, e⟩ := Option.ne_none_iff_exists'.mp k
      rw [runs, h.busLoss, e]
      rfl
  | outside _ stopped => exact absurd stopped l

end

end Sys2Proof.Machine

namespace Sys2Proof.Machine

/-! ### The parts of one CLK period -/

section
variable {s : State} {b : Option Nat}

theorem Follows.free_order (f : Follows b s) (n : Nat) (l : List (State → State))
    (each : ∀ g ∈ l, ∀ s, Follows b s → Follows b (g s)) : Follows b (inFreeOrder n l s) :=
  inFreeOrder_keeps (fun u n f => f.same (setFree_same u n)) n l each s f

theorem Follows.fireRollEnd (f : Follows b s) (cause : RollEndCause) : Follows b (s.fireRollEnd cause) := by
  unfold State.fireRollEnd
  split
  · exact f.fire _
  · exact (f.same (setFree_same s _)).fire _

theorem Follows.readback (f : Follows b s) (v : Level) : Follows b (s.readback v) := by
  unfold State.readback
  split
  · exact f
  · split
    · exact f.fire _
    · exact f

theorem Follows.stuckNotice (f : Follows b s) : Follows b s.stuckNotice := by
  unfold State.stuckNotice
  split
  · exact f.fire _
  · exact f

theorem Follows.stuckBit (f : Follows b s) : Follows b s.stuckBit := by
  unfold State.stuckBit
  split
  · refine f.free_order _ _ fun g mem u h => ?_
    simp only [List.mem_cons, List.not_mem_nil, or_false] at mem
    obtain rfl | rfl | rfl := mem
    · exact h.fire _
    · exact h.stuckNotice
    · exact h.fireRollEnd _
  · exact f.fire _

theorem Follows.readLine (f : Follows b s) (v : Level) : Follows b (s.readLine v) := by
  have compared := (f.same (setLine_same s { s.line with value := v })).readback v
  unfold State.readLine
  dsimp only
  split
  · exact compared.stuckBit
  · exact compared

theorem Follows.silenceReads (f : Follows b s) (v : Level) : Follows b (s.silenceReads v) := by
  cases v with
  | dominant => exact f.same (setStn_same s _ rfl rfl)
  | recessive =>
    unfold State.silenceReads
    dsimp only
    split
    · exact f.fire _
    · exact f.same (setStn_same s _ rfl rfl)

theorem Follows.endWithNotice (f : Follows b s) : Follows b s.endWithNotice := by
  unfold State.endWithNotice
  split
  · refine f.free_order _ _ fun g mem u h => ?_
    simp only [List.mem_cons, List.not_mem_nil, or_false] at mem
    obtain rfl | rfl := mem
    · exact h.fire _
    · exact h.fireRollEnd _
  · exact f.fireRollEnd _

theorem noticeEnd_openWish (r : RollTracker) (form : NoticeForm) : (r.noticeEnd form).openWish = r.openWish := by
  cases form <;> rfl

theorem Follows.stopNotice (f : Follows b s) : Follows b s.stopNotice := by
  have fired (form : NoticeForm) : Follows b (if s.roll.parsing then s.fire (.noticeEnd form) else s) := by
    split
    · exact f.fire _
    · exact f
  have tracked {t : State} (h : Follows b t) (form : NoticeForm) :
      Follows b (if t.roll.state = .inRoll then t.setRoll (t.roll.noticeEnd form) else t) := by
    split
    · exact h.same (setRoll_same t _ fun _ => noticeEnd_openWish _ _)
    · exact h
  exact tracked (fired _) _

theorem Follows.endCharacter (f : Follows b s) (index : Nat) (bits : List Level) :
    Follows b (s.endCharacter index bits) := by
  have tracked (data : Byte) (framing marker : Bool) : Follows b
      (if s.roll.parsing then s.fire (.noticeCharacter index data framing marker)
        else s.trackCharacter index data framing marker) := by
    split
    · exact f.fire _
    · exact f.same (trackCharacter_same s index data framing marker)
  unfold State.endCharacter
  dsimp only
  split
  · split
    · exact (tracked _ _ _).endWithNotice
    · exact tracked _ _ _
  · exact tracked _ _ _

theorem Follows.noticeBit (f : Follows b s) (n : Nat) (v : Level) : Follows b (s.noticeBit n v) := by
  unfold State.noticeBit
  split
  · cases v with
    | recessive => exact f.stopNotice
    | dominant => exact f.same (setRoll_same s _ fun _ => rfl)
  · split
    · exact f.endCharacter _ _
    · exact f.same (setRoll_same s _ fun _ => rfl)

theorem Follows.phaseEvent (f : Follows b s) (q last : Nat) (i : Instr) : Follows b (s.phaseEvent q last i) := by
  unfold State.phaseEvent
  split
  · exact f.fire _
  · exact f.same (setRoll_same s _ fun _ => rfl)

theorem Follows.flagBit (f : Follows b s) (q : Nat) (v : Level) : Follows b (s.flagBit q v) := by
  have kept : Follows b (if s.roll.parsing then s.fire (.flagReading v)
      else s.setRoll { s.roll with position := q, flag := some v }) := by
    split
    · exact f.fire _
    · exact f.same (setRoll_same s _ fun _ => rfl)
  unfold State.flagBit
  dsimp only
  split
  · exact kept.fireRollEnd _
  · exact kept

theorem Follows.rollBit (f : Follows b s) (v : Level) : Follows b (s.rollBit v) := by
  have reading (r : RollTracker) (h : r.openWish = s.roll.openWish) : Follows b (s.setRoll r) :=
    f.same (setRoll_same s r fun _ => h)
  unfold State.rollBit
  dsimp only
  split
  · exact (reading _ (by rfl)).phaseEvent _ _ _
  · exact (reading _ (by rfl)).phaseEvent _ _ _
  · exact (reading _ (by rfl)).phaseEvent _ _ _
  · exact (reading _ (by rfl)).phaseEvent _ _ _
  · exact f.flagBit _ _
  · exact f.noticeBit _ _

theorem Follows.trackerBit (f : Follows b s) (run : Nat) (v : Level) : Follows b (s.trackerBit run v) := by
  have counted (r : RollTracker) (h : r.openWish = s.roll.openWish) : Follows b (s.setRoll r) :=
    f.same (setRoll_same s r fun _ => h)
  unfold State.trackerBit
  dsimp only
  split
  · exact f
  · split
    · exact (counted _ (by rfl)).fire _
    · exact counted _ (by rfl)
  · exact counted _ (by rfl)
  · exact counted _ (by rfl)
  · exact counted _ (by rfl)
  · split
    · exact (counted _ (by rfl)).fire _
    · exact counted _ (by rfl)
  · split
    · exact f.fire _
    · split
      · exact f.fire _
      · exact f.fire _
  · exact f.rollBit _
  · split
    · exact (counted _ (by rfl)).fireRollEnd _
    · exact counted _ (by rfl)
  · exact counted _ (by rfl)

theorem Follows.boundary (f : Follows b s) : Follows b s.boundary := by
  have counted := f.same (setRoll_same s { s.roll with openLeft := s.roll.openLeft - 1 } fun _ => rfl)
  unfold State.boundary
  dsimp only
  split
  · exact (counted.fire _).same (setLine_same _ _)
  · exact counted.same (setLine_same _ _)

theorem Follows.closeBit (f : Follows b s) (v : Level) : Follows b (s.closeBit v) :=
  (((f.same (setLine_same s _)).silenceReads v).trackerBit _ v).boundary

theorem Follows.takeLine (f : Follows b s) (e : LineEvent) : Follows b (s.takeLine e) := by
  cases e with
  | quiet => exact f
  | restart => exact f.fire .candidateOpen
  | read v => exact f.readLine v
  | close v unread edge =>
    have closed : Follows b ((if unread then s.readLine v else s).closeBit v) := by
      split
      · exact (f.readLine v).closeBit v
      · exact f.closeBit v
    unfold State.takeLine
    dsimp only
    split
    · exact closed.fire _
    · exact closed

/-! #### The port's pins -/

theorem Follows.commandByte (f : Follows b s) (code : Byte) : Follows b (s.commandByte code) := by
  have received (x : SpiRx) : Follows b (s.setPort { s.port with rx := x }) := f.same (setPort_same s _ rfl)
  unfold State.commandByte
  dsimp only
  split
  · exact received _
  · split
    · split
      · exact (received _).fire _
      · exact received _
    · exact received _

theorem Follows.operandByte (f : Follows b s) (x : Byte) : Follows b (s.operandByte x) := by
  have received (x : SpiRx) : Follows b (s.setPort { s.port with rx := x }) := f.same (setPort_same s _ rfl)
  unfold State.operandByte
  dsimp only
  split
  · exact received _
  · split
    · split
      · exact (received _).fire _
      · exact received _
    · exact received _

theorem Follows.byteIn (f : Follows b s) (x : Byte) : Follows b (s.byteIn x) := by
  unfold State.byteIn
  split
  · exact f
  · exact f.commandByte x
  · exact f.operandByte x
  · exact f.same (setPort_same s _ rfl)
  · exact f.same (setPort_same s _ rfl)

theorem Follows.takePort (f : Follows b s) (e : PortEvent) : Follows b (s.takePort e) := by
  cases e with
  | none => exact f
  | select => exact f.fire .statusCapture
  | deselect => exact f.fire .csnRise
  | rise =>
    have shifted (x : SpiRx) : Follows b (s.setPort { s.port with rx := x }) := f.same (setPort_same s _ rfl)
    change Follows b s.sckRise
    unfold State.sckRise
    dsimp only
    split
    · exact (shifted _).byteIn _
    · exact shifted _
  | fall => exact f.same (setPort_same s _ rfl)

/-! #### The events of one instant -/

theorem Follows.takeRow (f : Follows b s) (i : Instr) : Follows b (s.takeRow i) := by
  by_cases h : i = .staggerReached
  · subst h
    change Follows b s.reachStagger
    unfold State.reachStagger
    dsimp only
    split
    · split
      · exact (f.same (setSeq_same s _)).fire _
      · exact f.same (setSeq_same s _)
    · exact f
  · rw [takeRow_of_ne h]
    split
    · exact f.fire i
    · exact f

theorem Follows.takeEvents (f : Follows b s) (l : List TickEvent) : Follows b (s.takeEvents l) := by
  refine takeEvents_keeps (fun u n f => f.same (setFree_same u n)) l (fun e _ u h => ?_) s f
  cases e with
  | row i => exact h.takeRow i
  | line x => exact h.takeLine x
  | port x => exact h.takePort x

end

/-! ### One microsecond of the timers -/

/-- Views that change among the held ones, and among the others, leave the holding as it is. -/
theorem mapViews_holdsAny (t : UnitTable) (f : Nat → View → View) (h : ∀ k v, (f k v).held = v.held) :
    (t.mapViews f).holdsAny = t.holdsAny := by
  rw [Bool.eq_iff_iff, holdsAny_iff, holdsAny_iff]
  simp only [List.mem_iff_getElem?, mapViews_record]
  constructor
  · rintro ⟨r, ⟨k, e⟩, held⟩
    obtain ⟨r', e', rfl⟩ := Option.map_eq_some_iff.mp e
    exact ⟨r', ⟨k, e'⟩, (h k r'.view).symm.trans held⟩
  · rintro ⟨r, ⟨k, e⟩, held⟩
    exact ⟨_, ⟨k, by rw [e]; rfl⟩, (h k r.view).trans held⟩

/-- A table of new records is read channel by channel. -/
theorem chan_ofFn (s : State) (f : Chan → ChannelRec) (x : Channels) (h : x.recs = Vector.ofFn f) (c : Chan) :
    (s.setChans x).chan c = f c := by
  simp [State.chan, h]

/-- Channel records under which each test of a channel's state answers as before. -/
theorem any_ofFn (s : State) (f : Chan → ChannelRec) (p : ChState → Bool)
    (h : ∀ c, p (f c).state = p (s.chan c).state) :
    (Vector.ofFn f).any (fun r => p r.state) = s.chans.recs.any (fun r => p r.state) := by
  have record (c : Chan) : (s.setChans { s.chans with recs := Vector.ofFn f }).chan c = f c := chan_ofFn s f _ rfl c
  have new := anyChan_iff (s.setChans { s.chans with recs := Vector.ofFn f }) p
  simp only [record, h] at new
  rw [Bool.eq_iff_iff]
  exact new.trans (anyChan_iff s p).symm

theorem advanceChan_isWaiting (s : State) (c : Chan) :
    (s.advanceChan c).state.isWaiting = (s.chan c).state.isWaiting := by
  unfold State.advanceChan
  cases h : (s.chan c).state <;> simp only [h] <;> rfl

theorem advanceChan_isOn (s : State) (c : Chan) : (s.advanceChan c).state.isOn = (s.chan c).state.isOn := by
  unfold State.advanceChan
  cases h : (s.chan c).state <;> simp only [h] <;> rfl

theorem advance_held (v : View) : v.advance.held = v.held := by
  cases v <;> rfl

section
variable {s t : State} {b : Option Nat}

/-- One count of every timer changes none of the conditions, and takes one off the bus-loss timer. -/
theorem Follows.advanceTimers (h : ConditionsHold s) :
    Follows (s.stn.busLoss.map (· - 1)) s.advanceTimers := by
  have holds : s.advanceTimers.table.holdsAny = s.table.holdsAny :=
    mapViews_holdsAny _ _ fun _ => advance_held
  have waiting := any_ofFn s s.advanceChan ChState.isWaiting (advanceChan_isWaiting s)
  have on := any_ofFn s s.advanceChan ChState.isOn (advanceChan_isOn s)
  have wishes : s.advanceTimers.wishes = s.wishes := by
    unfold State.wishes
    rw [holds, ← waiting]
    rfl
  have runs : s.advanceTimers.busLossRuns = s.busLossRuns := by
    unfold State.busLossRuns
    rw [holds, ← on]
    rfl
  rw [conditionsHold_iff] at h
  refine ⟨(conditionsHold_iff _).2 ⟨fun a => ?_, ?_⟩, .inr (.inl rfl)⟩
  · rw [wishes]
    exact h.1 a
  · rw [runs, ← h.2]
    exact Option.isSome_map

theorem sampleFilters_same (s : State) : SameConditions s s.sampleFilters := by
  have waiting := any_ofFn s s.sampleFilter ChState.isWaiting fun _ => rfl
  have on := any_ofFn s s.sampleFilter ChState.isOn fun _ => rfl
  refine ⟨rfl, fun _ => rfl, ?_, ?_, rfl, rfl⟩
  · unfold State.wishes
    rw [← waiting]
    rfl
  · unfold State.busLossRuns
    rw [← on]
    rfl

/-- The time base leaves the timer or takes one off it (R154). -/
theorem timeBase_follows (h : ConditionsHold s) :
    Follows s.stn.busLoss s.timeBase.2 ∨ Follows (s.stn.busLoss.map (· - 1)) s.timeBase.2 := by
  have start : Follows s.stn.busLoss s := ⟨h, .inr (.inl rfl)⟩
  unfold State.timeBase
  split
  · have divided := start.same (setClock_same s { s.clock with sub := 0 })
    unfold State.microsecond
    split
    · right
      have counted : Follows (s.stn.busLoss.map (· - 1)) (s.setClock { s.clock with sub := 0 }).advanceTimers :=
        Follows.advanceTimers divided.conditions
      unfold State.lockedMicrosecond
      dsimp only
      refine Follows.same ?_ (setClock_same _ _)
      split
      · exact counted.same (sampleFilters_same _)
      · exact counted
    · exact .inl divided
  · exact .inl (start.same (setClock_same s _))

theorem drawPins_same (s : State) : SameConditions s s.drawPins := by
  unfold State.drawPins
  split
  · exact (setInputs_same s _).trans (setPins_same _ _)
  · exact (setPins_same s _).trans (setFree_same _ _)

theorem advanceBit_same (s : State) (e : LineEvent) : SameConditions s (s.advanceBit e) := by
  unfold State.advanceBit
  dsimp only
  split
  · split
    · exact .refl s
    · exact setLine_same s _
  · split
    · exact .refl s
    · exact setLine_same s _
  · exact setLine_same s _
  · exact setLine_same s _

/-- One CLK period leaves the timer, takes one off it, or sets it to BUS_LOSS × 10 ms. -/
theorem tick_follows (h : ConditionsHold s) :
    Follows s.stn.busLoss s.tick ∨ Follows (s.stn.busLoss.map (· - 1)) s.tick := by
  have drawn := drawPins_same s
  unfold State.tick
  dsimp only
  split
  · have bit := drawn.trans (advanceBit_same s.drawPins (s.drawPins.lineEvent s.pins.shr))
    have time := timeBase_follows (bit.hold h)
    rw [bit.busLoss] at time
    exact time.imp (fun f => f.takeEvents _) (fun f => f.takeEvents _)
  · exact .inl (.outside (by simp [State.fire, exec, execReset, State.afterReset, State.keepOutside, State.reset,
      StationCtl.reset]) rfl)

/-- Settles O56: every command follows in one of three ways or is a roll end, and a CLK period is made of commands and
of counts that touch no condition. -/
theorem conditionsFollowState : Obligations.ConditionsFollowState := by
  unfold Obligations.ConditionsFollowState
  intro s t hold taken
  have starts {b : Option Nat} (f : Follows b t) (h : b = none) (runs : BusLossRuns t) :
      t.stn.busLoss = some (busLossSpan t) := by
    have on := f.conditions.2.2 runs
    obtain e | e | e := f.timer
    · exact absurd e on
    · exact absurd (e.trans h) on
    · exact e
  unfold step at taken
  split at taken
  · rename_i empty
    cases taken
    have follows := tick_follows hold
    refine ⟨follows.elim Follows.conditions Follows.conditions, fun idle runs => ?_, fun was runs => ?_⟩
    · have stopped : s.stn.busLoss = none := by
        by_contra n
        exact idle (hold.2.1 n)
      exact follows.elim (fun f => starts f stopped runs) (fun f => starts f (by simp [stopped]) runs)
    · refine ⟨fun c rest e => ?_, fun _ => ?_⟩
      · rw [empty] at e
        cases e
      · obtain f | f := follows
        all_goals
          have on := f.conditions.2.2 runs
          obtain e | e | e := f.timer
        · exact absurd e on
        · exact .inl e
        · exact .inr (.inr e)
        · exact absurd e on
        · exact .inr (.inl e)
        · exact .inr (.inr e)
  · rename_i c rest waiting
    rw [exec_eq_fire] at taken
    cases taken
    have popped := setPending_same s rest
    have before := popped.hold hold
    have follows : Follows s.stn.busLoss ((s.setPending rest).fire c) :=
      Follows.fire ⟨before, .inr (.inl rfl)⟩ c
    refine ⟨follows.conditions, fun idle runs => ?_, fun was runs => ⟨fun d rest' e other => ?_, fun e => ?_⟩⟩
    · refine starts follows ?_ runs
      by_contra n
      exact idle (hold.2.1 n)
    · rw [waiting] at e
      cases e
      exact (fire_follows before c other).keeps_running (hold.2.2 was) (follows.conditions.2.2 runs)
    · rw [waiting] at e
      cases e

end

end Sys2Proof.Machine

namespace Sys2Proof.Machine

/-! ### Reset (R4, R43, R45, R90, R104, R137, R138, R160, R173) -/

/-- Settles O3: the values are those of `State.reset`, and a reset overwrites every block with them. -/
theorem porAndResetLeaveSpecValues : Obligations.PorAndResetLeaveSpecValues := by
  unfold Obligations.PorAndResetLeaveSpecValues
  refine ⟨?_, fun s => ⟨_, _, rfl, rfl, rfl, rfl, rfl, rfl⟩⟩
  rintro s rfl
  decide +kernel

/-- Settles O60: one evaluation an invariant. -/
theorem resetMeetsInvariants : Obligations.ResetMeetsInvariants := by
  unfold Obligations.ResetMeetsInvariants
  refine ⟨?_, ?_, ?_, ?_, ?_, ?_, ?_, ?_⟩
  · unfold LockFlag; decide
  · unfold FlaglessClear; decide
  · rintro i ⟨⟩
  · unfold LoadsMatch; decide +kernel
  · unfold ConditionsHold Wishes BusLossRuns; decide +kernel
  · unfold StoresBounded; decide +kernel
  · unfold QueuesMatchStates; decide +kernel
  · refine ⟨by decide +kernel, by decide +kernel, by decide +kernel, fun h => ?_⟩
    exact absurd h (by decide)

/-! ### The line between rolls (R4 to R8, R15, R16) -/

theorem mayOpen_iff (s : State) : s.mayOpen = true ↔ s.stn.state ∈ [.active, .joining] := by
  unfold State.mayOpen
  cases s.stn.state <;> decide

/-- A station that is ready to open drives dominant for the rest of the 4 bit times (R16). -/
theorem exec_openRoll_ready {s : State} (h : s.openReady = true) : exec .openRoll s = .next { s with
    roll := { s.roll with openLeft := 4 - (if s.roll.state = .opening then s.line.domRun else 0) }
    line := { s.line with drive := some .dominant } } :=
  congrArg Host.Outcome.next (if_pos h)

/-- Settles O5: each row's guard is its clause's premise, and its effect the state the clause names. -/
theorem lineBetweenRolls : Obligations.LineBetweenRolls := by
  unfold Obligations.LineBetweenRolls
  intro s
  refine ⟨fun settling => congrArg Host.Outcome.next (if_pos settling),
    fun idle => congrArg Host.Outcome.next (if_pos idle),
    fun opening run short => congrArg Host.Outcome.next (if_pos ⟨opening, short⟩),
    fun opening => congrArg Host.Outcome.next (if_pos opening),
    fun on => congrArg Host.Outcome.next (if_pos on), fun state wish left => ?_⟩
  have may := (mayOpen_iff s).2 state
  constructor
  · rintro ⟨idle, gap⟩
    rw [exec_openRoll_ready (by simp [State.openReady, may, wish, left, idle, gap, Config.gapBits])]
    simp [idle]
  · rintro ⟨opening, run⟩
    rw [exec_openRoll_ready (by simp [State.openReady, may, wish, left, opening, run, Config.openBits])]
    simp [opening]

/-! ### The roll start (R7, R9, R15, R26, R29, R45, R130, R140, R141) -/

/-- Settles O10: the row writes its blocks, and the settling after it judges the open-wish flag. -/
theorem rollStartLatchesDriveSet : Obligations.RollStartLatchesDriveSet := by
  unfold Obligations.RollStartLatchesDriveSet
  intro s opening
  refine ⟨s.takeRollStart.settle, rfl, ?_⟩
  have wishes : s.takeRollStart.wishes = s.wishes := by
    unfold State.takeRollStart
    rw [if_pos opening]
    rfl
  have state : s.takeRollStart.stn.state = s.stn.state := by
    unfold State.takeRollStart
    rw [if_pos opening]
    rfl
  rw [← wishes_iff s, ← wishes, settle_roll, settle_stn]
  simp only [settle_line, settle_table, settle_cont, settle_notice, settle_chans, settle_port, state]
  unfold State.takeRollStart
  rw [if_pos opening]
  refine ⟨rfl, fun active => by rw [active], ?_, rfl, rfl, rfl, rfl, fun k => ?_, rfl, rfl, rfl, trivial, rfl, rfl, rfl, ?_,
    rfl, rfl⟩
  · intro other
    cases h : s.stn.state <;> simp_all [RollTracker.start]
  · exact mem_unitsWhere s.table _ k
  · by_cases h : s.stn.state = .joining <;> simp [h]

/-! ### Readings inside a roll (R9, R11, R12, R18, R52, R125, R130) -/

/-- A phase event of position q comes now exactly by the rule of R9. -/
theorem phaseDue_iff (s : State) (q : Nat) : s.phaseDue q = true ↔ InPhase s q := by
  simp [State.phaseDue, InPhase, and_assoc]

/-- Settles O14: each reading's guard is its clause's premise. -/
theorem rollReadingsAreKept : Obligations.RollReadingsAreKept := by
  unfold Obligations.RollReadingsAreKept
  intro s
  refine ⟨fun j due bidding => congrArg Host.Outcome.next (if_pos ⟨(phaseDue_iff s _).2 due, bidding⟩),
    fun v due => congrArg Host.Outcome.next (if_pos ((phaseDue_iff s _).2 due)), ?_⟩
  intro i b framing marker r due flag recv next
  have expects : s.roll.expects i = true := by
    unfold RollTracker.expects
    obtain ⟨first, header⟩ | ⟨later, header⟩ | ⟨later, l, header, more⟩ := next
    · simp [header, first]
    · simp [header, later]
    · simp [header, later, more]
  have taken : s.takeNoticeCharacter i b framing marker =
      (s.trackCharacter i b framing marker).storeCharacter b framing marker :=
    if_pos ⟨(phaseDue_iff s _).2 due, flag, expects⟩
  obtain ⟨-, parsing, -⟩ := due
  have sending : (s.trackCharacter i b framing marker).sending = true ↔
      s.stn.state = .active ∧ s.cont.conflictMark = false ∧ s.cont.outcome = .won := by
    simp [State.sending, State.takesPart, State.trackCharacter, State.isActive, parsing, and_assoc]
  change Host.Outcome.next (s.takeNoticeCharacter i b framing marker) = _
  rw [taken]
  unfold State.storeCharacter
  simp only [sending]
  simp [State.trackCharacter, State.setNotice, State.setRoll, recv, State.charEnd, readHeader, headerLength]
  rfl

end Sys2Proof.Machine

namespace Sys2Proof.Machine

/-! ### What the owner of a phase drives (R10) -/

section
variable {s : State} {q : Nat}

/-- The station takes part in the bits of the roll in flight. -/
def State.drives (s : State) : Prop := s.takesPart = true ∧ s.roll.state = .inRoll

theorem drives_iff : s.drives ↔ s.stn.state = .active ∧ s.cont.conflictMark = false ∧ s.roll.parsing = true ∧
    s.roll.state = .inRoll := by
  simp [State.drives, State.takesPart, State.isActive, and_assoc]

theorem driveAt_absent (h : ¬ s.drives) : s.driveAt q = none := by
  refine if_pos ?_
  by_cases part : s.takesPart = true
  · exact .inr (.inl fun state => h ⟨part, state⟩)
  · exact .inl (by simpa using part)

theorem driveAt_sync : s.driveAt 0 = none := if_pos (.inr (.inr rfl))

/-- The value by the owner of the position, for a station that takes part (R10). -/
theorem driveAt_present (h : s.drives) (pos : 0 < q) : s.driveAt q =
    if q ≤ s.numUnits then some (levelOf (decide (q - 1 ∈ s.table.driveSet)))
    else if q ≤ s.numUnits + 10 then
      if s.cont.outcome = .bidding then
        s.cont.bid.word.map fun w => levelOf (!w.getMsbD (q - s.numUnits - 1))
      else none
    else if s.cont.outcome ≠ .won then none
    else if q ≤ 2 * s.numUnits + 10 then some (levelOf (decide (q - s.numUnits - 11 ∈ s.cont.bid.chosen)))
    else if q = 2 * s.numUnits + 11 then some (levelOf s.cont.bid.hasNotice)
    else
      match s.notice.send with
      | some r => (r.bytes[(q - (2 * s.numUnits + 12)) / 11]?).map fun b =>
          charBit ((q - (2 * s.numUnits + 12)) / 11) ((q - (2 * s.numUnits + 12)) % 11) b
      | none => none := by
  obtain ⟨part, state⟩ := h
  have away : ¬ (s.takesPart = false ∨ s.roll.state ≠ .inRoll ∨ q = 0) := by
    rintro (a | b | c)
    · simp [part] at a
    · exact b state
    · omega
  exact if_neg away

theorem driveAt_hold (h : s.drives) {k : Nat} (unit : k < s.numUnits) :
    s.driveAt (1 + k) = some (levelOf (decide (k ∈ s.table.driveSet))) := by
  rw [driveAt_present h (by omega), if_pos (by omega), Nat.add_sub_cancel_left]

theorem driveAt_claim (h : s.drives) {j : Nat} (bit : j < 10) : s.driveAt (s.numUnits + 1 + j) =
    if s.cont.outcome = .bidding then s.cont.bid.word.map fun w => levelOf (!w.getMsbD j) else none := by
  have place : s.numUnits + 1 + j - s.numUnits - 1 = j := by omega
  rw [driveAt_present h (by omega), if_neg (by omega), if_pos (by omega), place]

theorem driveAt_not_won (h : s.drives) (lost : s.cont.outcome ≠ .won) (later : s.numUnits + 10 < q) :
    s.driveAt q = none := by
  rw [driveAt_present h (by omega), if_neg (by omega), if_neg (by omega), if_pos lost]

section
variable (h : s.drives) (won : s.cont.outcome = .won)
include h won

theorem driveAt_take {k : Nat} (unit : k < s.numUnits) :
    s.driveAt (s.numUnits + 11 + k) = some (levelOf (decide (k ∈ s.cont.bid.chosen))) := by
  have place : s.numUnits + 11 + k - s.numUnits - 11 = k := by omega
  rw [driveAt_present h (by omega), if_neg (by omega), if_neg (by omega), if_neg (not_not.2 won),
    if_pos (by omega), place]

theorem driveAt_flag : s.driveAt (2 * s.numUnits + 11) = some (levelOf s.cont.bid.hasNotice) := by
  rw [driveAt_present h (by omega), if_neg (by omega), if_neg (by omega), if_neg (not_not.2 won),
    if_neg (by omega), if_pos rfl]

theorem driveAt_notice (later : 2 * s.numUnits + 11 < q) : s.driveAt q =
    s.notice.send.bind fun r => (r.bytes[(q - (2 * s.numUnits + 12)) / 11]?).map fun b =>
      charBit ((q - (2 * s.numUnits + 12)) / 11) ((q - (2 * s.numUnits + 12)) % 11) b := by
  rw [driveAt_present h (by omega), if_neg (by omega), if_neg (by omega), if_neg (not_not.2 won),
    if_neg (by omega), if_neg (by omega)]
  cases s.notice.send <;> rfl

end

/-- A character's bits as R11 orders them: start, d0 to d7, marker, stop. -/
theorem charBit_eq (i b : Nat) (x : Byte) : charBit i b x = levelOf (if b = 0 then true
    else if b ≤ 8 then !x.getLsbD (b - 1) else if b = 9 then decide (i ≠ 0) else false) := by
  unfold charBit
  split
  · rfl
  · split
    · cases x.getLsbD (b - 1) <;> rfl
    · split
      · by_cases first : i = 0 <;> simp [first, levelOf]
      · rfl

theorem msb_is_place (w : BitVec 10) {j : Nat} (bit : j < 10) : w.getMsbD j = w.getLsbD (9 - j) := by
  simp [BitVec.getMsbD_eq_getLsbD, bit]

end

/-- Settles O7: each position is read off the value that its phase's owner gives. -/
theorem driveFollowsPhaseOwner : Obligations.DriveFollowsPhaseOwner := by
  unfold Obligations.DriveFollowsPhaseOwner
  intro s
  refine ⟨fun absent q => driveAt_absent fun h => ?_, driveAt_sync, fun active mark parsing state => ?_⟩
  · obtain ⟨active, mark, parsing, state⟩ := drives_iff.1 h
    simp [active, mark, parsing, state] at absent
  have h : s.drives := drives_iff.2 ⟨active, mark, parsing, state⟩
  refine ⟨fun k unit => driveAt_hold h unit, fun j bit => ⟨fun w bidding word => ?_, fun other => ?_⟩,
    fun lost q later => driveAt_not_won h lost later, fun won => ⟨?_, ?_, ?_, ?_⟩⟩
  · rw [driveAt_claim h bit, if_pos bidding, word, ← msb_is_place w bit]
    rfl
  · rw [driveAt_claim h bit, if_neg other]
  · intro c chosen a p w bid
    refine ⟨fun k unit => ?_, ?_⟩
    · rw [driveAt_take h won unit, bid]
      rfl
    · rw [driveAt_flag h won, bid]
      rfl
  · intro n p w bid
    refine ⟨fun k unit => ?_, ?_⟩
    · rw [driveAt_take h won unit, bid]
      rfl
    · rw [driveAt_flag h won, bid]
      rfl
  · intro r i b send bit
    have offset : 2 * s.numUnits + 12 + 11 * i + b - (2 * s.numUnits + 12) = b + 11 * i := by omega
    have char : (b + 11 * i) / 11 = i := by omega
    have place : (b + 11 * i) % 11 = b := by omega
    rw [driveAt_notice h won (by omega), send, offset, char, place, Option.bind_some, Option.map_eq_bind]
    change (r.bytes[i]?).bind _ = (r.bytes[i]?).bind _
    refine congrArg _ (funext fun x => ?_)
    exact congrArg some (charBit_eq i b x)
  · intro none q later
    rw [driveAt_notice h won (by omega), none]
    rfl

end Sys2Proof.Machine

namespace Sys2Proof.Machine

/-! ### One channel of a station-level shed (R82, R84) -/

/-- What a shed with this cause makes of a channel's record: a channel that held units holds none and has the cause
written; the demand inputs stay. -/
structure ShedRecord (cause : ShedCause) (r r' : ChannelRec) : Prop where
  load : r'.state.holdsUnits = false
  cause : r'.lastShed = if r.state.holdsUnits then cause else r.lastShed
  inputs : r'.soft = r.soft ∧ r'.park = r.park ∧ r'.level = r.level

/-- A step of a station-level shed keeps the windows and the Notice Unit. -/
structure ShedFrame (s t : State) : Prop where
  windows : t.table.recs.map UnitRec.window = s.table.recs.map UnitRec.window
  notice : t.notice = s.notice

section
variable {s t u : State}

theorem ShedFrame.refl (s : State) : ShedFrame s s := ⟨rfl, rfl⟩

theorem ShedFrame.trans (h : ShedFrame s t) (k : ShedFrame t u) : ShedFrame s u :=
  ⟨k.windows.trans h.windows, k.notice.trans h.notice⟩

/-- A change of views leaves every window (R27). -/
theorem mapViews_windows (x : UnitTable) (f : Nat → View → View) :
    (x.mapViews f).recs.map UnitRec.window = x.recs.map UnitRec.window := by
  refine List.ext_getElem? fun k => ?_
  rw [List.getElem?_map, List.getElem?_map, mapViews_record]
  cases x.recs[k]? <;> rfl

end

section
variable (s : State) (c d : Chan) (cause : ShedCause)

theorem releaseUnits_shed : ShedFrame s (s.releaseUnits c) := ⟨mapViews_windows s.table _, rfl⟩

theorem setChState_frame (x : ChState) : ShedFrame s (s.setChState c x) := ⟨rfl, rfl⟩

/-- Removing a channel from the start list while the station is leaving turns nothing on (R95). -/
theorem removeStart_leaving :
    s.removeStart c true = s.setSeq { s.seq with startList := s.seq.startList.filter (· ≠ c) } := by
  simp [State.removeStart]

theorem enterWaiting_leaving : s.enterWaiting c true = s.joinQueue c := by
  simp [State.enterWaiting]

theorem joinQueue_chan_self : (s.joinQueue c).chan c =
    { s.chan c with state := .waiting s.chans.entries (s.fullWait c) } := by
  unfold State.joinQueue
  rw [chan_setChState_self]
  rfl

theorem joinQueue_chan_other (h : d ≠ c) : (s.joinQueue c).chan d = s.chan d := by
  unfold State.joinQueue
  rw [chan_setChState_other _ _ _ _ h]
  rfl

/-- After a shed the channel waits, or it stays where the shed has put it (R82, 4). -/
theorem shedNext_leaving_cases : s.shedNext c true = s ∨ s.shedNext c true = s.joinQueue c := by
  unfold State.shedNext
  split
  · exact .inr (enterWaiting_leaving s c)
  · exact .inl rfl

theorem shedNext_leaving_frame : ShedFrame s (s.shedNext c true) := by
  obtain e | e := shedNext_leaving_cases s c
  all_goals rw [e]
  · exact .refl s
  · exact ⟨rfl, rfl⟩

theorem shedNext_leaving_other (h : d ≠ c) : (s.shedNext c true).chan d = s.chan d := by
  obtain e | e := shedNext_leaving_cases s c
  all_goals rw [e]
  exact joinQueue_chan_other s c d h

/-- Going on to WAITING changes nothing of a shed record but its state. -/
theorem shedNext_leaving_self {r : ChannelRec} (h : ShedRecord cause r (s.chan c)) :
    ShedRecord cause r ((s.shedNext c true).chan c) := by
  obtain e | e := shedNext_leaving_cases s c
  all_goals rw [e]
  · exact h
  · rw [joinQueue_chan_self]
    exact ⟨rfl, h.cause, h.inputs⟩

/-- An ON channel's part of a shed up to its next state (R82, 1 to 3). -/
def State.shedOn (s : State) (cause : ShedCause) (c : Chan) : State :=
  (((s.clearOutput c).releaseUnits c).startOffSince c).writeCause c cause

theorem shedOn_frame : ShedFrame s (s.shedOn cause c) := ⟨mapViews_windows s.table _, rfl⟩

theorem shedOn_chan_self : (s.shedOn cause c).chan c =
    { s.chan c with offSince := some 0, lastShed := cause } := by
  unfold State.shedOn State.writeCause State.startOffSince
  rw [chan_setChan_self, chan_setChan_self]
  rfl

theorem shedOn_chan_other (h : d ≠ c) : (s.shedOn cause c).chan d = s.chan d := by
  unfold State.shedOn State.writeCause State.startOffSince
  rw [chan_setChan_other _ _ _ _ h, chan_setChan_other _ _ _ _ h]
  rfl

/-- A STARTING channel's part of a shed up to its next state (R82, 1 to 3). -/
def State.shedStarting (s : State) (cause : ShedCause) (c : Chan) : State :=
  (((s.releaseUnits c).writeCause c cause).setChState c .off).removeStart c true

theorem shedStarting_frame : ShedFrame s (s.shedStarting cause c) := by
  unfold State.shedStarting
  rw [removeStart_leaving]
  exact ⟨mapViews_windows s.table _, rfl⟩

theorem shedStarting_chan_self : (s.shedStarting cause c).chan c =
    { s.chan c with state := .off, lastShed := cause } := by
  unfold State.shedStarting State.writeCause
  rw [removeStart_leaving]
  change ((((s.releaseUnits c).setChan c _).setChState c .off).chan c) = _
  rw [chan_setChState_self, chan_setChan_self]
  rfl

theorem shedStarting_chan_other (h : d ≠ c) : (s.shedStarting cause c).chan d = s.chan d := by
  unfold State.shedStarting State.writeCause
  rw [removeStart_leaving]
  change ((((s.releaseUnits c).setChan c _).setChState c .off).chan d) = _
  rw [chan_setChState_other _ _ _ _ h, chan_setChan_other _ _ _ _ h]
  rfl

/-- A channel's part of a station-level shed, by its state (R82, R84); no such shed parks. -/
theorem shedChan_leaving_cases (park : cause ≠ .park) :
    ((s.chan c).state.isOn = true ∧ (s.shedChan cause true c = (s.shedOn cause c).setChState c .cooldown ∨
        s.shedChan cause true c = ((s.shedOn cause c).setChState c .off).shedNext c true)) ∨
      ((s.chan c).state = .starting ∧ s.shedChan cause true c = (s.shedStarting cause c).shedNext c true) ∨
      ((s.chan c).state.holdsUnits = false ∧ s.shedChan cause true c = s) := by
  unfold State.shedChan
  split
  · rename_i m n on
    refine .inl ⟨by rw [on]; rfl, ?_⟩
    rw [if_neg park]
    split
    · exact .inl rfl
    · exact .inr rfl
  · rename_i starting
    refine .inr (.inl ⟨starting, ?_⟩)
    rw [if_neg park]
    rfl
  · rename_i e w waiting
    exact .inr (.inr ⟨by rw [waiting]; rfl, if_neg park⟩)
  · rename_i on starting waiting
    refine .inr (.inr ⟨?_, rfl⟩)
    cases h : (s.chan c).state with
    | on m n => exact absurd h (on m n)
    | starting => exact absurd h starting
    | waiting e w => exact absurd h (waiting e w)
    | off => rfl
    | cooldown => rfl
    | parked => rfl
    | disabled => rfl

theorem shedChan_leaving_frame (park : cause ≠ .park) : ShedFrame s (s.shedChan cause true c) := by
  obtain ⟨-, e | e⟩ | ⟨-, e⟩ | ⟨-, e⟩ := shedChan_leaving_cases s c cause park
  all_goals rw [e]
  · exact (shedOn_frame s c cause).trans (setChState_frame _ c _)
  · exact ((shedOn_frame s c cause).trans (setChState_frame _ c _)).trans (shedNext_leaving_frame _ c)
  · exact (shedStarting_frame s c cause).trans (shedNext_leaving_frame _ c)
  · exact .refl s

theorem shedChan_leaving_other (park : cause ≠ .park) (h : d ≠ c) :
    (s.shedChan cause true c).chan d = s.chan d := by
  obtain ⟨-, e | e⟩ | ⟨-, e⟩ | ⟨-, e⟩ := shedChan_leaving_cases s c cause park
  all_goals rw [e]
  · rw [chan_setChState_other _ _ _ _ h, shedOn_chan_other s c d cause h]
  · rw [shedNext_leaving_other _ c d h, chan_setChState_other _ _ _ _ h, shedOn_chan_other s c d cause h]
  · rw [shedNext_leaving_other _ c d h, shedStarting_chan_other s c d cause h]

theorem isOn_holdsUnits {x : ChState} (h : x.isOn = true) : x.holdsUnits = true := by
  cases x with
  | on => rfl
  | _ => cases h

theorem shedChan_leaving_self (park : cause ≠ .park) :
    ShedRecord cause (s.chan c) ((s.shedChan cause true c).chan c) := by
  obtain ⟨on, e⟩ | ⟨starting, e⟩ | ⟨other, e⟩ := shedChan_leaving_cases s c cause park
  · have record (x : ChState) (h : x.holdsUnits = false) :
        ShedRecord cause (s.chan c) (((s.shedOn cause c).setChState c x).chan c) := by
      rw [chan_setChState_self, shedOn_chan_self]
      exact ⟨h, by rw [if_pos (isOn_holdsUnits on)], rfl, rfl, rfl⟩
    obtain e | e := e
    all_goals rw [e]
    · exact record .cooldown rfl
    · exact shedNext_leaving_self _ c cause (record .off rfl)
  · rw [e]
    refine shedNext_leaving_self _ c cause ?_
    rw [shedStarting_chan_self]
    exact ⟨rfl, by rw [starting]; rfl, rfl, rfl, rfl⟩
  · rw [e]
    exact ⟨other, by simp [other], rfl, rfl, rfl⟩

/-- The sheds of different channels touch each its own record. -/
theorem foldl_shed_records (park : cause ≠ .park) (l : List Chan) (once : l.Nodup) (s : State) :
    (∀ c ∈ l, ShedRecord cause (s.chan c) ((l.foldl (fun u c => u.shedChan cause true c) s).chan c)) ∧
      ∀ c ∉ l, (l.foldl (fun u c => u.shedChan cause true c) s).chan c = s.chan c := by
  induction l generalizing s with
  | nil => simp
  | cons a l ih =>
    obtain ⟨notin, once⟩ := List.nodup_cons.1 once
    obtain ⟨inside, outside⟩ := ih once (s.shedChan cause true a)
    refine ⟨fun c mem => ?_, fun c mem => ?_⟩
    · rw [List.foldl_cons]
      obtain rfl | mem := List.mem_cons.1 mem
      · rw [outside c notin]
        exact shedChan_leaving_self s c cause park
      · have other : c ≠ a := fun e => notin (e ▸ mem)
        rw [← shedChan_leaving_other s a c cause park other]
        exact inside c mem
    · rw [List.mem_cons, not_or] at mem
      rw [List.foldl_cons, outside c mem.2, shedChan_leaving_other s a c cause park mem.1]

theorem mem_allChans : c ∈ allChans := by
  revert c; decide

theorem allChans_nodup : allChans.Nodup := by decide

theorem foldl_shed_frame (park : cause ≠ .park) (l : List Chan) (s : State) :
    ShedFrame s (l.foldl (fun u c => u.shedChan cause true c) s) := by
  induction l generalizing s with
  | nil => exact .refl s
  | cons a l ih => exact (shedChan_leaving_frame s a cause park).trans (ih _)

/-! ### The station-level shed (R83, R84) -/

/-- The station-level shed is the channels' sheds, with or without the event. -/
theorem stationShed_cases : s.stationShed cause = allChans.foldl (fun u c => u.shedChan cause true c) s ∨
    s.stationShed cause = (allChans.foldl (fun u c => u.shedChan cause true c) s).setEvent .shed := by
  unfold State.stationShed
  dsimp only
  split
  · exact .inr rfl
  · exact .inl rfl

@[simp] theorem setEvent_chan (e : Event) : (s.setEvent e).chan c = s.chan c := rfl

theorem stationShed_chan (park : cause ≠ .park) : ShedRecord cause (s.chan c) ((s.stationShed cause).chan c) := by
  have record := (foldl_shed_records cause park allChans allChans_nodup s).1 c (mem_allChans c)
  obtain e | e := stationShed_cases s cause
  all_goals rw [e]
  · exact record
  · rw [setEvent_chan]
    exact record

theorem stationShed_frame (park : cause ≠ .park) : ShedFrame s (s.stationShed cause) := by
  have frame := foldl_shed_frame cause park allChans s
  obtain e | e := stationShed_cases s cause
  all_goals rw [e]
  · exact frame
  · exact ⟨by rw [setEvent_table, frame.windows], by rw [setEvent_notice, frame.notice]⟩

/-- SHED is set where the shed finds a load and its cause sets it (R83). -/
theorem stationShed_events : (s.stationShed cause).port.events = shedFlag s cause := by
  have port : (allChans.foldl (fun u c => u.shedChan cause true c) s).port = s.port :=
    (foldl_load _ (fun u c => shedChan_load u c cause true) allChans s).port
  unfold State.stationShed shedFlag
  simp only [Bool.and_eq_true, anyChan_iff s ChState.holdsUnits]
  split
  · rw [setEvent_events, port]
    rfl
  · rw [port]

end

end Sys2Proof.Machine

namespace Sys2Proof.Machine

/-! ### The blocks' parts of a departure (R42, R63, R87, R105, R124, R129, R143) -/

section
variable (s : State) (c : Chan) (cause : ShedCause) (x : StationState)

theorem dropPicture_recs : s.dropPicture.table.recs =
    (s.table.mapViews fun _ v => if v = .dead then .dead else .unknown).recs := rfl

theorem dropPicture_views : ∀ r ∈ s.dropPicture.table.recs, r.view = .dead ∨ r.view = .unknown := by
  intro r mem
  obtain ⟨k, e⟩ := List.mem_iff_getElem?.1 mem
  rw [dropPicture_recs, mapViews_record] at e
  obtain ⟨r', -, rfl⟩ := Option.map_eq_some_iff.1 e
  dsimp only
  split
  · exact .inl rfl
  · exact .inr rfl

theorem dropPicture_windows :
    s.dropPicture.table.recs.map UnitRec.window = s.table.recs.map UnitRec.window := by
  rw [dropPicture_recs, mapViews_windows]

/-- A wait timer that starts again changes a channel's record in no way that a shed is told by. -/
theorem restartWait_record {r : ChannelRec} (d : Chan) (h : ShedRecord cause r (s.chan d)) :
    ShedRecord cause r ((s.restartWait c).chan d) := by
  unfold State.restartWait
  split
  · by_cases e : d = c
    · subst e
      rw [chan_setChState_self]
      exact ⟨rfl, h.cause, h.inputs⟩
    · rw [chan_setChState_other _ _ _ _ e]
      exact h
  · exact h

theorem freeRequester_record {r : ChannelRec} (d : Chan) (h : ShedRecord cause r (s.chan d)) :
    ShedRecord cause r (s.freeRequester.chan d) := by
  unfold State.freeRequester
  split
  · split
    · exact restartWait_record s _ cause d h
    · exact h
  · exact h

/-- Freeing the slot's requester touches the Channel Controller alone (R109). -/
theorem freeRequester_chans_only : s.freeRequester = s.setChans s.freeRequester.chans := by
  unfold State.freeRequester
  split
  · split
    · unfold State.restartWait
      split <;> rfl
    · rfl
  · rfl

theorem abandonSend_notice_only : s.abandonSend = s.setNotice s.abandonSend.notice := by
  unfold State.abandonSend
  split
  · split <;> rfl
  · rfl

/-- The Notice Unit after a departure: no send record that is not whole, an empty slot, no presence (R129). -/
theorem departNotice_notice :
    s.departNotice.notice = { s.abandonSend.notice with slot := none, presence := false } := by
  unfold State.departNotice State.emptySlot
  dsimp only
  rw [freeRequester_chans_only]
  rfl

theorem departNotice_table : s.departNotice.table = s.table := by
  unfold State.departNotice State.emptySlot
  dsimp only
  rw [freeRequester_chans_only, abandonSend_notice_only]
  rfl

theorem departNotice_record {r : ChannelRec} (d : Chan) (h : ShedRecord cause r (s.chan d)) :
    ShedRecord cause r (s.departNotice.chan d) := by
  have sent : s.abandonSend.chan d = s.chan d := by
    rw [abandonSend_notice_only]
    rfl
  rw [← sent] at h
  exact freeRequester_record s.abandonSend cause d h

theorem abandonSend_send (r : SendRecord) (h : s.abandonSend.notice.send = some r) :
    r.driven = r.payload.length + 2 := by
  unfold State.abandonSend at h
  split at h
  · split at h
    · rename_i r' e whole
      rw [e] at h
      cases h
      simpa [SendRecord.whole] using whole
    · cases h
  · rename_i e
    rw [e] at h
    cases h

theorem abandonSend_ring : s.abandonSend.notice.ring = s.notice.ring := by
  unfold State.abandonSend
  split
  · split <;> rfl
  · rfl

theorem inFlight_iff : s.inFlight = true ↔ s.roll.state ∈ [.inRoll, .trailing] := by
  unfold State.inFlight
  cases s.roll.state <;> decide

/-- The claim outcome of a departure from ACTIVE with a roll in flight (R63). -/
theorem abandonClaim_outcome (active : s.stn.state = .active) (flight : s.roll.state ∈ [.inRoll, .trailing]) :
    s.abandonClaim.cont = { s.cont with bid := .nothing, outcome := .abandoned } := by
  unfold State.abandonClaim
  rw [if_pos (by simp [(isActive_iff s).2 active, (inFlight_iff s).2 flight])]
  rfl

theorem abandonClaim_runs : RunsKept s s.abandonClaim := by
  unfold State.abandonClaim
  split <;> exact ⟨rfl, rfl, rfl⟩

/-- The station, the Roll Tracker and the claim that a departure finds are those of before. -/
theorem dropped_marks : MarkFrame s (s.stationShed cause).dropPicture :=
  (stationShed_marks s cause).trans (dropPicture_load _).marks

theorem departing_load : LoadFrame (s.stationShed cause).dropPicture.abandonClaim (s.departing cause) :=
  (departNotice_load _).trans (setChans_load _ _)

theorem departing_cont :
    (s.departing cause).cont = (s.stationShed cause).dropPicture.abandonClaim.cont :=
  (departing_load s cause).cont

theorem departing_runs : RunsKept s (s.departing cause) := by
  unfold RunsKept
  rw [departing_cont, ← (dropped_marks s cause).cont]
  exact abandonClaim_runs _

theorem departing_line : (s.departing cause).line = s.line := by
  rw [(departing_load s cause).line, abandonClaim_cont_only]
  exact (dropped_marks s cause).line

theorem departing_roll : (s.departing cause).roll = s.roll := by
  rw [(departing_load s cause).roll, abandonClaim_cont_only]
  exact (dropped_marks s cause).roll

theorem departing_events : (s.departing cause).port.events = shedFlag s cause := by
  rw [(departing_load s cause).port, abandonClaim_cont_only]
  change (s.stationShed cause).dropPicture.port.events = _
  rw [(dropPicture_load _).port, stationShed_events]

theorem departing_table : (s.departing cause).table = (s.stationShed cause).dropPicture.table := by
  change (s.stationShed cause).dropPicture.abandonClaim.departNotice.table = _
  rw [departNotice_table, abandonClaim_cont_only]
  rfl

theorem departing_chan (park : cause ≠ .park) :
    ShedRecord cause (s.chan c) ((s.departing cause).chan c) := by
  refine departNotice_record _ cause c ?_
  rw [abandonClaim_cont_only]
  exact stationShed_chan s c cause park

theorem departing_notice : (s.departing cause).notice =
    { (s.stationShed cause).dropPicture.abandonClaim.abandonSend.notice with slot := none, presence := false } :=
  departNotice_notice _

theorem departing_ring (park : cause ≠ .park) : (s.departing cause).notice.ring = s.notice.ring := by
  rw [departing_notice]
  change (State.abandonSend _).notice.ring = _
  rw [abandonSend_ring, abandonClaim_cont_only]
  exact congrArg NoticeUnit.ring (stationShed_frame s cause park).notice

/-! ### Entering the new state -/

/-- Entering a state touches the line, the Roll Tracker's OPEN part and the Station Controller alone (R1, R143). -/
structure EnterFrame (s t : State) : Prop where
  table : t.table = s.table
  cont : t.cont = s.cont
  chans : t.chans = s.chans
  notice : t.notice = s.notice
  port : t.port = s.port
  drive : t.line = { s.line with drive := none }
  roll : t.roll = { s.roll with openLeft := 0, openWish := t.roll.openWish }

theorem enterState_frame : EnterFrame s (s.enterState x) := by
  cases x <;> exact ⟨rfl, rfl, rfl, rfl, rfl, rfl, rfl⟩

theorem depart_frame : EnterFrame (s.departing cause) (s.depart cause x) := enterState_frame _ x

theorem depart_events : (s.depart cause x).port.events = shedFlag s cause := by
  rw [(depart_frame s cause x).port, departing_events]

theorem depart_runs : RunsKept s (s.depart cause x) := by
  unfold RunsKept
  rw [(depart_frame s cause x).cont]
  exact departing_runs s cause

theorem depart_roll : (s.depart cause x).roll =
    { s.roll with openLeft := 0, openWish := (s.depart cause x).roll.openWish } := by
  rw [(depart_frame s cause x).roll, departing_roll]

theorem depart_line : (s.depart cause x).line = { s.line with drive := none } := by
  rw [(depart_frame s cause x).drive, departing_line]

theorem depart_stn_state : (s.depart cause x).stn.state = x := (enterState_stn _ x).1

theorem depart_stn_request : (s.depart cause x).stn.request = none := (enterState_stn _ x).2

/-- A departure leaves the incident record to its cause's row. -/
theorem depart_incident : (s.depart cause x).stn.incident = s.stn.incident := by
  have same : (s.depart cause x).stn.incident = (s.departing cause).stn.incident := by
    cases x <;> rfl
  rw [same, departing_stn]

/-- Into JOINING the count starts at 0 (R140). -/
theorem depart_joining_count : (s.depart cause .joining).stn.joinCount = 0 := rfl

/-! ### The departure settled -/

/-- What every departure leaves, where the steps after it keep the blocks that it has left (R143). -/
theorem departed_settle {u : State} (park : cause ≠ .park) (away : x ≠ .active)
    (table : u.table = (s.depart cause x).table) (chans : u.chans = (s.depart cause x).chans)
    (notice : u.notice = (s.depart cause x).notice) (cont : u.cont = (s.depart cause x).cont)
    (drive : u.line.drive = none) (state : u.stn.state = x) (request : u.stn.request = none) :
    Departed s u.settle cause x := by
  have frame := depart_frame s cause x
  rw [frame.table] at table
  rw [frame.chans] at chans
  rw [frame.notice] at notice
  rw [frame.cont] at cont
  have inactive : u.isActive = false := by
    cases h : u.isActive
    · rfl
    · exact absurd (state.symm.trans ((isActive_iff u).1 h)) away
  have record (c : Chan) : ShedRecord cause (s.chan c) (u.settle.chan c) := by
    have same : u.settle.chan c = (s.departing cause).chan c := by
      unfold State.chan
      rw [settle_chans, chans]
    rw [same]
    exact departing_chan s c cause park
  have drop := (stationShed_frame s cause park).windows
  constructor
  case state => rw [settle_state, state]
  case request => rw [settle_stn]; exact request
  case busLoss =>
    rw [settle_stn]
    simp [State.busLossRuns, inactive]
  case views =>
    rw [settle_table, table, departing_table]
    exact dropPicture_views _
  case sets => rw [settle_table, table, departing_table]; exact ⟨rfl, rfl⟩
  case windows => rw [settle_table, table, departing_table, dropPicture_windows, drop]
  case latch => exact settle_latch u (.inl inactive)
  case loads => exact fun c => (record c).load
  case causes => exact fun c => (record c).cause
  case inputs => exact fun c => (record c).inputs
  case line => rw [settle_line, drive]
  case fences => rw [settle_chans, chans]; rfl
  case slot => rw [settle_notice, notice, departing_notice]
  case presence => rw [settle_notice, notice, departing_notice]
  case ring => rw [settle_notice, notice, departing_ring s cause park]
  case claim =>
    intro active flight
    have before := dropped_marks s cause
    rw [settle_cont, cont, departing_cont, abandonClaim_outcome _ (by rw [before.stn, active])
      (by rw [before.roll]; exact flight)]
    exact ⟨rfl, rfl⟩
  case send =>
    intro r h
    rw [settle_notice, notice, departing_notice] at h
    exact abandonSend_send _ r h

/-- A departure is told by the blocks it finds, not by what its row has written of line, report or roll before. -/
theorem Departed.congr {s s' t : State} (h : Departed s' t cause x) (table : s'.table = s.table)
    (chans : s'.chans = s.chans) (ring : s'.notice.ring = s.notice.ring) (state : s'.stn.state = s.stn.state)
    (roll : s'.roll.state = s.roll.state) : Departed s t cause x := by
  have chan (c : Chan) : s'.chan c = s.chan c := by
    unfold State.chan
    rw [chans]
  constructor
  case windows => rw [h.windows, table]
  case causes => exact fun c => chan c ▸ h.causes c
  case inputs => exact fun c => chan c ▸ h.inputs c
  case ring => rw [h.ring, ring]
  case claim => exact fun active flight => h.claim (state.trans active) (roll ▸ flight)
  case state => exact h.state
  case request => exact h.request
  case busLoss => exact h.busLoss
  case views => exact h.views
  case sets => exact h.sets
  case latch => exact h.latch
  case loads => exact h.loads
  case line => exact h.line
  case fences => exact h.fences
  case slot => exact h.slot
  case presence => exact h.presence
  case send => exact h.send

end

end Sys2Proof.Machine

namespace Sys2Proof.Machine

/-! ### An incident record, a departure and the event of its cause (R143, R158) -/

/-- What such a row leaves: the departure, the record with the state it was taken in, the event, the runs, and the Roll
Tracker but for its OPEN part. -/
structure IncidentTaken (s t : State) (i : IncidentCause) (c : Option Chan) (cause : ShedCause) (x : StationState)
    (e : Event) : Prop where
  departed : Departed s t cause x
  incident : t.stn.incident = some { cause := i, state := s.stn.state, channel := c }
  events : t.port.events = shedFlag s cause ||| e.word
  runs : RunsKept s t
  roll : t.roll = { s.roll with openLeft := 0, openWish := t.roll.openWish }

section
variable (s : State) (i : IncidentCause) (c : Option Chan) (cause : ShedCause) (x : StationState) (e : Event)

theorem incident_departs_settled (park : cause ≠ .park) (away : x ≠ .active) :
    IncidentTaken s (((s.writeIncident i c).depart cause x).setEvent e).settle i c cause x e := by
  constructor
  case departed =>
    have left := departed_settle (s.writeIncident i c) cause x (u := ((s.writeIncident i c).depart cause x).setEvent e)
      park away rfl rfl rfl rfl (by rw [setEvent_line, depart_line]) (by rw [setEvent_stn, depart_stn_state])
      (by rw [setEvent_stn, depart_stn_request])
    exact left.congr cause x rfl rfl rfl rfl rfl
  case incident =>
    rw [settle_stn]
    exact depart_incident (s.writeIncident i c) cause x
  case events =>
    rw [settle_port, setEvent_events, depart_events]
    rfl
  case runs =>
    unfold RunsKept
    rw [settle_cont]
    exact depart_runs (s.writeIncident i c) cause x
  case roll =>
    have before := depart_roll (s.writeIncident i c) cause x
    rw [settle_roll, setEvent_roll, before]
    rfl

end

/-! ### The DRIVE report (R19, R151) -/

section
variable (s : State) (phase : Phase) (q : Nat)

/-- The state that a DRIVE report departs from: the roll invalid, its parsing ended, its receive record given up. -/
def State.driveReported (s : State) (phase : Phase) : State := (s.setRoll (s.roll.driveReport phase)).dropRecv phase

theorem driveReported_blocks : (s.driveReported phase).roll = s.roll.driveReport phase ∧
    (s.driveReported phase).stn = s.stn ∧ (s.driveReported phase).table = s.table ∧
    (s.driveReported phase).chans = s.chans ∧ (s.driveReported phase).cont = s.cont ∧
    (s.driveReported phase).port = s.port ∧ (s.driveReported phase).notice.ring = s.notice.ring := by
  unfold State.driveReported State.dropRecv
  split <;> exact ⟨rfl, rfl, rfl, rfl, rfl, rfl, rfl⟩

theorem driveReport_state (r : RollTracker) : (r.driveReport phase).state = r.state := by
  unfold RollTracker.driveReport
  split <;> rfl

theorem driveReport_valid (r : RollTracker) : (r.driveReport phase).valid = false := by
  unfold RollTracker.driveReport
  split <;> rfl

/-- A report that can arise faults the station (R151). -/
theorem driveReport_faults (may : s.mayReportDrive phase = true) :
    ∃ t, exec (.driveReport phase q) s = .next t ∧ Departed s t .drive .faulted ∧
      t.stn.incident = some { cause := .drive, state := s.stn.state, channel := s.driveChannel phase q } ∧
      t.port.events = shedFlag s .drive ||| 0x0010 ∧ RunsKept s t ∧
      t.roll = { s.roll.driveReport phase with openLeft := 0, openWish := t.roll.openWish } := by
  obtain ⟨roll, stn, table, chans, cont, port, ring⟩ := driveReported_blocks s phase
  have taken : s.takeDriveReport phase q = (s.driveReported phase).faultDrive (s.driveChannel phase q) := if_pos may
  have fault := incident_departs_settled (s.driveReported phase) .drive (s.driveChannel phase q) .drive .faulted
    .fault (by decide) (by decide)
  refine ⟨_, rfl, ?_⟩
  rw [taken]
  refine ⟨fault.departed.congr _ _ table chans ring (by rw [stn]) (by rw [roll, driveReport_state]), ?_, ?_, ?_, ?_⟩
  · rw [← stn]; exact fault.incident
  · have flag : shedFlag (s.driveReported phase) .drive = shedFlag s .drive := by
      unfold shedFlag State.chan
      rw [chans, port]
    rw [← flag]
    exact fault.events
  · have runs := fault.runs
    unfold RunsKept at runs ⊢
    rw [cont] at runs
    exact runs
  · have left := fault.roll
    rw [roll] at left
    exact left

/-- The channel that the record of a failed HOLD slot names (R19, R151). -/
theorem driveChannel_own {r : UnitRec} {c : Chan} (slot : s.table.recs[q - 1]? = some r) (own : r.view = .own c) :
    s.driveChannel .hold q = some c := by
  simp [State.driveChannel, slot, own]

theorem driveChannel_none (h : phase ≠ .hold ∨ ∀ r c, s.table.recs[q - 1]? = some r → r.view ≠ .own c) :
    s.driveChannel phase q = none := by
  unfold State.driveChannel
  split
  · have none := h.resolve_left (by simp)
    split
    · rename_i r slot
      split
      · rename_i c own
        exact absurd own (none r c slot)
      · rfl
    · rfl
  · rfl

end

/-- Settles O22: a report that can arise is an incident, a departure to FAULTED and FAULT. -/
theorem driveReportFaultsStation : Obligations.DriveReportFaultsStation := by
  unfold Obligations.DriveReportFaultsStation
  intro s phase q
  refine ⟨fun rolling active inside => ?_, fun state => ?_⟩
  · have may : s.mayReportDrive phase = true := by simp [State.mayReportDrive, active, rolling]
    have report : s.roll.driveReport phase = { s.roll with valid := false, parsing := false } := if_neg inside
    obtain ⟨t, e, departed, incident, events, runs, roll⟩ := driveReport_faults s phase q may
    rw [report] at roll
    rw [active] at incident
    refine ⟨t, e, departed, by rw [roll], by rw [roll], by rw [roll]; exact rolling, events, runs, ?_, fun none => ?_⟩
    · rintro r c rfl slot own
      rw [incident, driveChannel_own s q slot own]
    · rw [incident, driveChannel_none s phase q none]
  · have may : s.mayReportDrive .openPulse = true := by
      unfold State.mayReportDrive
      simp only [List.mem_cons, List.not_mem_nil, or_false] at state
      obtain h | h := state <;> simp [h]
    obtain ⟨t, e, departed, incident, events, -, roll⟩ := driveReport_faults s .openPulse q may
    refine ⟨t, e, departed, ?_, by rw [roll]; rfl, by rw [roll]; rfl, by rw [roll]; rfl, events⟩
    rw [incident, driveChannel_none s .openPulse q (.inl (by decide))]

/-! ### The stuck line (R17, R156) -/

section
variable (s : State)

/-- The Roll Tracker and the line after a stuck line (R17). -/
theorem stuckTracker_eq : s.stuckTracker = { s with
    line := { s.line with drive := none }
    roll := { s.roll with
      openLeft := 0, state := .settling, recessive := 0, openFault := false
      valid := s.roll.valid && (!s.inFlight || s.roll.flag.isSome)
      endDue := s.roll.endDue || s.inFlight } } := rfl

@[simp] theorem stuckTracker_table : s.stuckTracker.table = s.table := rfl
@[simp] theorem stuckTracker_cont : s.stuckTracker.cont = s.cont := rfl
@[simp] theorem stuckTracker_chans : s.stuckTracker.chans = s.chans := rfl
@[simp] theorem stuckTracker_notice : s.stuckTracker.notice = s.notice := rfl
@[simp] theorem stuckTracker_stn : s.stuckTracker.stn = s.stn := rfl
@[simp] theorem stuckTracker_port : s.stuckTracker.port = s.port := rfl

/-- The state in which the Station Controller takes a stuck line's report. -/
def State.disarmed (s : State) : State := s.setLine { s.line with stuckArmed := false }

theorem takeStuckLine_armed (on : s.roll.state ≠ .off) (armed : s.line.stuckArmed = true) :
    s.takeStuckLine = s.disarmed.stuckReport.stuckTracker := if_pos ⟨on, armed⟩

/-- A stuck line's report keeps the armed mark and the Roll Tracker but for its OPEN part, and sets STUCK but in CONFIG. -/
theorem stuckReport_keeps : s.stuckReport.line.stuckArmed = s.line.stuckArmed ∧
    s.stuckReport.roll = { s.roll with
      openLeft := s.stuckReport.roll.openLeft, openWish := s.stuckReport.roll.openWish } ∧
    (s.stn.state ≠ .config → s.stuckReport.port.events.getLsbD 6 = true) := by
  unfold State.stuckReport
  split
  · refine ⟨?_, ?_, fun _ => setEvent_bit _ .stuck⟩
    · rw [setEvent_line, depart_line]; rfl
    · rw [setEvent_roll, depart_roll]; rfl
  · exact ⟨rfl, rfl, fun _ => setEvent_bit _ .stuck⟩
  · exact ⟨rfl, rfl, fun _ => setEvent_bit _ .stuck⟩
  · exact ⟨rfl, rfl, fun _ => setEvent_bit _ .stuck⟩
  · exact ⟨rfl, rfl, fun _ => setEvent_bit _ .stuck⟩
  · exact ⟨rfl, rfl, fun _ => setEvent_bit _ .stuck⟩
  · rename_i config
    exact ⟨rfl, rfl, fun other => absurd config other⟩

theorem stuckReport_active (active : s.stn.state = .active) : s.stuckReport =
    ((s.writeIncident .stuck none).depart .stuck .joining).setEvent .stuck := by
  unfold State.stuckReport
  rw [active]

/-- Outside ACTIVE and CONFIG the report sets STUCK, and in JOINING and QUIET the join count to 0 (R156). -/
theorem stuckReport_elsewhere (inactive : s.stn.state ≠ .active) (locked : s.stn.state ≠ .config) :
    s.stuckReport = (s.setStn { s.stn with
      joinCount := if s.stn.state ∈ [.joining, .quiet] then 0 else s.stn.joinCount }).setEvent .stuck := by
  unfold State.stuckReport
  cases h : s.stn.state with
  | active => exact absurd h inactive
  | config => exact absurd h locked
  | joining => rfl
  | quiet => rfl
  | left => rfl
  | halted => rfl
  | faulted => rfl

/-- What a stuck line leaves in ACTIVE (R143, R156, R158). -/
theorem stuckLine_departs (active : s.stn.state = .active) :
    Departed s s.disarmed.stuckReport.stuckTracker.settle .stuck .joining ∧
      s.disarmed.stuckReport.stn.joinCount = 0 ∧
      s.disarmed.stuckReport.stn.incident = some { cause := .stuck, state := .active, channel := none } ∧
      s.disarmed.stuckReport.port.events = shedFlag s .stuck ||| 0x0040 ∧
      RunsKept s s.disarmed.stuckReport := by
  have report := stuckReport_active s.disarmed active
  refine ⟨?_, ?_, ?_, ?_, ?_⟩
  · have left := departed_settle (s.disarmed.writeIncident .stuck none) .stuck .joining
      (u := s.disarmed.stuckReport.stuckTracker) (by decide) (by decide) (by simp [report]) (by simp [report])
      (by simp [report]) (by simp [report]) rfl (by simp [report, depart_stn_state])
      (by simp [report, depart_stn_request])
    exact left.congr _ _ rfl rfl rfl rfl rfl
  all_goals rw [report]
  · rfl
  · rw [setEvent_stn, depart_incident, ← active]; rfl
  · rw [setEvent_events, depart_events]; rfl
  · exact depart_runs (s.disarmed.writeIncident .stuck none) .stuck .joining

end

/-- Settles O6: the report is the Station Controller's part, by its state; the Roll Tracker's part is the same in all. -/
theorem stuckLineByStationState : Obligations.StuckLineByStationState := by
  unfold Obligations.StuckLineByStationState
  intro s on armed locked
  obtain ⟨disarmed, roll, stuck⟩ := stuckReport_keeps s.disarmed
  refine ⟨s.disarmed.stuckReport.stuckTracker.settle, ?_, ?_, ?_, ?_, ?_, ?_, fun active => ?_, fun inactive => ?_,
    fun flight => ?_⟩
  · rw [← takeStuckLine_armed s on armed]
    rfl
  · rw [settle_line]
    exact disarmed
  · rw [settle_roll]; rfl
  · rw [settle_roll]; rfl
  · rw [settle_line]; rfl
  · rw [settle_port]
    exact stuck locked
  · obtain ⟨departed, count, incident, events, runs⟩ := stuckLine_departs s active
    rw [settle_stn, settle_port]
    refine ⟨departed, count, incident, events, ?_⟩
    unfold RunsKept
    rw [settle_cont]
    exact runs
  · have report := stuckReport_elsewhere s.disarmed inactive locked
    rw [settle_stn, settle_table, settle_chans, settle_notice, settle_cont, settle_port, report]
    exact ⟨rfl, rfl, rfl, rfl, rfl, rfl, rfl, rfl⟩
  · have before : s.disarmed.stuckReport.inFlight = true := by
      rw [inFlight_iff, roll]
      exact flight
    rw [settle_roll, stuckTracker_eq]
    simp only [before]
    rw [roll]
    simp [State.disarmed]

end Sys2Proof.Machine

namespace Sys2Proof.Machine

/-! ### The roll end against a queued channel that is ON -/

/-- The reset image with weight 0 for channel 0. -/
def weightlessImage : Image := { Image.reset with
  channels := Image.reset.channels.set 0 #v[0, 0, 1, 0, 0, 0, 1, 0, 0] }

/-- ACTIVE in a roll whose FLAG was read recessive, with channel 0 ON, of weight 0, and in the demand queue; the bus-loss
timer runs for the ON channel alone. -/
def queuedWhileOn : State := { State.reset with
  roll := { RollTracker.reset with state := .inRoll, parsing := true, flag := some .recessive }
  chans := { Channels.reset with
    recs := Channels.reset.recs.set 0 { ChannelRec.reset with state := .on false 0 }, queue := [0] }
  stn := { StationCtl.reset with state := .active, busLoss := some 5 }
  port := { LocalPort.reset with image := weightlessImage } }

/-- The spare-binding check finds the weight 0 covered by no spare at all, so the ON channel goes to STARTING. -/
theorem queuedWhileOn_starts :
    ((queuedWhileOn.fire (.rollEnd .flag .checkFirst)).chan 0).state = .starting := by decide +kernel

/-- With it the running condition is gone, and the timer stops. -/
theorem queuedWhileOn_timer_stops :
    (queuedWhileOn.fire (.rollEnd .flag .checkFirst)).stn.busLoss = none := by decide +kernel

theorem queuedWhileOn_runs : BusLossRuns queuedWhileOn := by
  unfold BusLossRuns
  decide +kernel

/-- Refutes O28: its last clause keeps the timer of a station whose running condition held before the roll end, but the
spare-binding check of that roll end can end the condition. It takes a queued channel that is ON and of weight 0 to
STARTING with no unit bound; the statement has no premise that excludes such a state. -/
theorem not_rollEndCountsJoining : ¬ Obligations.RollEndCountsJoining := by
  unfold Obligations.RollEndCountsJoining
  intro holds
  obtain ⟨-, elsewhere⟩ := holds queuedWhileOn .flag .checkFirst ⟨rfl, rfl⟩ (fun h => absurd rfl h)
  obtain ⟨t, taken, -, -, -, -, -, timer⟩ := elsewhere (by decide)
  have stays := timer 5 rfl rfl rfl (.inr ⟨queuedWhileOn_runs, by decide⟩)
  rw [exec_eq_fire] at taken
  cases taken
  rw [queuedWhileOn_timer_stops] at stays
  cases stays

end Sys2Proof.Machine

namespace Sys2Proof.Machine

/-! ### One CLK period on an empty queue (R2, R3, log 4) -/

section
variable {s : State} {p : Pins} {rest : List Pins}

theorem step_empty (empty : s.pending = []) : step s = .next s.tick := by
  unfold step
  rw [empty]

theorem drawPins_given (inputs : s.inputs = p :: rest) : s.drawPins = (s.setInputs rest).setPins p := by
  unfold State.drawPins
  rw [inputs]

/-- A bit time in CLK periods, by the table of R2. -/
theorem bitClks_eq (s : State) : s.bitClks = bitLength s := by
  have table : ∀ n, Config.bitTimeUs n = [5, 10, 20, 50, 100].getD n 100 := by
    rintro (_ | _ | _ | _ | _ | n) <;> rfl
  unfold State.bitClks bitLength
  rw [table, Nat.mul_comm]
  rfl

/-- With CSN high and steady the port's pins do nothing (R164). -/
theorem portEvent_steady (before : Pins) (csn : s.pins.csn = true) (high : before.csn = true) :
    s.portEvent before = .none := by
  simp [State.portEvent, csn, high]

/-- A CLK period with RSTN high and the port's pins steady: what the line does, and what the time base brings. -/
theorem tick_steady (inputs : s.inputs = p :: rest) (rstn : p.rstn = true) (csn : p.csn = true)
    (high : s.pins.csn = true) :
    let t := (s.setInputs rest).setPins p
    let e := t.lineEvent s.pins.shr
    let m := (t.advanceBit e).timeBase
    s.tick = m.2.takeEvents (t.lineRows e ++ m.1.map .row) := by
  intro t e m
  have port : t.portEvent s.pins = .none := portEvent_steady s.pins csn high
  have rstnHigh : t.pins.rstn = true := rstn
  unfold State.tick
  rw [drawPins_given inputs]
  change (if t.pins.rstn = true then t.clock1 s.pins else _) = _
  rw [if_pos rstnHigh]
  unfold State.clock1
  rw [port]
  simp [portRows, m, e]

end

/-! ### One microsecond -/

section
variable {s : State} {p : Pins} {rest : List Pins}

/-- The state one CLK period on in which the time base has come to its microsecond. -/
def microPeriod (s : State) (p : Pins) (rest : List Pins) : State :=
  { afterPeriod s p rest with clock := { s.clock with sub := 0 } }

/-- A still line has no event, and its bit time goes on by one period (R2). -/
theorem lineEvent_still (still : LineStill s p) :
    ((s.setInputs rest).setPins p).lineEvent s.pins.shr = .quiet := by
  unfold State.lineEvent
  rw [bitClks_eq]
  obtain off | ⟨short, -, -, third, noEdge⟩ := still
  · exact if_pos off
  · have edge : (s.pins.shr == .recessive && p.shr == .dominant) = false := by
      simpa using noEdge
    change (if s.roll.state = .off then _ else if bitLength s ≤ s.line.phase + 1 then _ else _) = _
    have length : bitLength s = 4 * [5, 10, 20, 50, 100].getD s.port.image.bitTime 100 := rfl
    split
    · rfl
    · rw [if_neg (by rw [length]; omega)]
      change (if (s.pins.shr == .recessive && p.shr == .dominant) = true then _ else
        if 5 * (s.line.phase + 1) = 3 * bitLength s then _ else _) = _
      rw [edge, if_neg (by simp), if_neg (by rw [length]; omega)]

theorem advanceBit_still (still : LineStill s p) :
    (((s.setInputs rest).setPins p).advanceBit .quiet).setClock { s.clock with sub := 0 } = microPeriod s p rest := by
  unfold State.advanceBit
  dsimp only
  rw [bitClks_eq]
  unfold microPeriod afterPeriod
  obtain off | ⟨short, two, half, third, -⟩ := still
  · have off' : ((s.setInputs rest).setPins p).roll.state = .off := off
    rw [if_pos off', if_pos off]
    rfl
  · have noPoint : samplePoint (bitLength ((s.setInputs rest).setPins p)) (s.line.phase + 1) = false := by
      have away := And.intro (And.intro two half) third
      simpa [samplePoint, bitLength] using away
    change (if s.roll.state = .off then _ else State.setLine _ { s.line with
      phase := s.line.phase + 1
      samples := if samplePoint (bitLength ((s.setInputs rest).setPins p)) (s.line.phase + 1) = true
        then _ else s.line.samples }).setClock _ = _
    rw [noPoint]
    split <;> rfl

/-- A step of a microsecond with line and port still takes what the microsecond brings. -/
theorem step_microsecond (empty : s.pending = []) (inputs : s.inputs = p :: rest) (rstn : p.rstn = true)
    (csn : p.csn = true) (high : s.pins.csn = true) (sub : s.clock.sub = 3) (still : LineStill s p) :
    step s = .next ((microPeriod s p rest).microsecond.2.takeEvents
      ((microPeriod s p rest).microsecond.1.map .row)) := by
  have divided : (((s.setInputs rest).setPins p).advanceBit .quiet).timeBase = (microPeriod s p rest).microsecond := by
    have clock : (((s.setInputs rest).setPins p).advanceBit .quiet).clock = s.clock := by
      unfold State.advanceBit
      dsimp only
      split <;> rfl
    unfold State.timeBase
    rw [clock, if_pos (by rw [sub]; rfl), advanceBit_still still]
  rw [step_empty empty, tick_steady inputs rstn csn high, lineEvent_still still, divided]
  rfl

end

end Sys2Proof.Machine

namespace Sys2Proof.Machine

/-! ### What a microsecond brings to KILLN (R100) -/

section
variable {s : State} {p : Pins} {rest : List Pins} {i : Instr}

/-- The rows of KILLN's sample are the changes of KILLN. -/
theorem mem_killRows : i ∈ (microPeriod s p rest).killRows ↔ KillnMoves s p i := by
  change i ∈ (if p.killn = s.stn.killnLow then [if p.killn then Instr.killnHigh else .killnLow] else []) ↔ _
  unfold KillnMoves
  cases p.killn <;> cases s.stn.killnLow <;> simp

theorem killRows_nodup (u : State) : u.killRows.Nodup := by
  unfold State.killRows
  split
  · exact List.nodup_singleton _
  · exact List.nodup_nil

/-- A list that holds each of its members once and no member but one is that one alone. -/
theorem eq_singleton_of_nodup {α : Type} {l : List α} {a : α} (once : l.Nodup) (mem : a ∈ l) (only : ∀ b ∈ l, b = a) :
    l = [a] := by
  match l, once, mem, only with
  | [b], _, mem, _ => rw [List.mem_singleton.1 mem]
  | b :: c :: l, once, _, only =>
    have same : b = c := (only b (by simp)).trans (only c (by simp)).symm
    simp [same] at once

/-! ### What a microsecond brings to a locked station -/

/-- The state of a locked station with its timers counted, before what ends with the microsecond is taken. -/
def counted (s : State) (p : Pins) (rest : List Pins) : State := (microPeriod s p rest).lockedMicrosecond.2

/-- The events of the microsecond. -/
def brought (s : State) (p : Pins) (rest : List Pins) : List Instr := (microPeriod s p rest).lockedMicrosecond.1

theorem step_locked (empty : s.pending = []) (inputs : s.inputs = p :: rest) (rstn : p.rstn = true)
    (csn : p.csn = true) (high : s.pins.csn = true) (sub : s.clock.sub = 3) (still : LineStill s p)
    (locked : s.port.locked = true) :
    step s = .next ((counted s p rest).takeEvents ((brought s p rest).map .row)) := by
  have micro : (microPeriod s p rest).microsecond = (microPeriod s p rest).lockedMicrosecond := if_pos locked
  rw [step_microsecond empty inputs rstn csn high sub still, micro]
  rfl

theorem min_on_due_iff (u : State) (c : Chan) :
    u.minOnDue c = true ↔ ∃ m n, (u.chan c).state = .on m n ∧ n + 1 = u.port.image.minOnUs c := by
  unfold State.minOnDue
  split
  · rename_i m n on
    simp [on]
  · rename_i other
    simp only [Bool.false_eq_true, false_iff]
    rintro ⟨m, n, on, -⟩
    exact other m n on

theorem staggerEnds_iff (u : State) :
    u.staggerEnds = true ↔ ∃ c : Chan, u.seq.elapsed + 1 = u.port.image.staggerUs c := by
  simp [State.staggerEnds, mem_allChans]

/-- A channel's record with its timers counted; an on-since timer that comes to min on counts in its own event. -/
def countedRecord (s : State) (p : Pins) (c : Chan) : ChannelRec := { channelCounted s p c with
  state := if s.minOnDue c then (s.chan c).state else (channelCounted s p c).state }

/-- The timers of the record, before its filter samples. -/
theorem microPeriod_advanceChan (c : Chan) :
    (microPeriod s p rest).advanceChan c = { countedRecord s p c with run := (s.chan c).run } := by
  have due : (microPeriod s p rest).minOnDue c = s.minOnDue c := rfl
  have chan : (microPeriod s p rest).chan c = s.chan c := rfl
  have active : (microPeriod s p rest).isActive = decide (s.stn.state = .active) := rfl
  unfold State.advanceChan countedRecord channelCounted
  rw [due, chan, active]
  cases state : (s.chan c).state with
  | on m n => cases s.minOnDue c <;> simp [state, Config.sinceMax]
  | waiting e w =>
    have never : s.minOnDue c = false := by simp [State.minOnDue, state]
    simp [never, state, Config.sinceMax]
  | _ => simp [state, Config.sinceMax]

/-- The record after the microsecond: the filters sample in the period that completes a millisecond (R67). -/
theorem sampled_record (c : Chan) :
    (if s.clock.ms + 1 = 1000
      then { (microPeriod s p rest).advanceChan c with
        run := if p.dem.getLsbD c.val = (s.chan c).level then 0 else (s.chan c).run + 1 }
      else (microPeriod s p rest).advanceChan c) = countedRecord s p c := by
  rw [microPeriod_advanceChan]
  unfold countedRecord channelCounted
  by_cases sample : s.clock.ms + 1 = 1000 <;> simp [sample]

/-- States with the same blocks are the same. -/
theorem eq_of_blocks {a b : State} (line : a.line = b.line) (roll : a.roll = b.roll) (table : a.table = b.table)
    (cont : a.cont = b.cont) (chans : a.chans = b.chans) (seq : a.seq = b.seq) (notice : a.notice = b.notice)
    (stn : a.stn = b.stn) (port : a.port = b.port) (clock : a.clock = b.clock) (pins : a.pins = b.pins)
    (inputs : a.inputs = b.inputs) (free : a.free = b.free) (pending : a.pending = b.pending) : a = b := by
  cases a
  cases b
  simp_all

/-- Counting linger is a change of views. -/
theorem advance_recs (t : UnitTable) : (t.mapViews fun _ v => v.advance).recs = t.recs.map fun r =>
    match r.view with
    | .spare n => { r with view := .spare (n - 1) }
    | _ => r := by
  refine List.ext_getElem? fun k => ?_
  rw [mapViews_record, List.getElem?_map]
  refine congrArg (fun f => (t.recs[k]?).map f) (funext fun r => ?_)
  obtain ⟨view, window⟩ := r
  cases view <;> rfl

/-- A locked station one microsecond on, but for the holdoff, the elapsed timer and the on-since timers that come to
their end: those count in their own events (log 25). -/
theorem counted_eq : counted s p rest = { afterMicrosecond s p rest with
    notice := { s.notice with holdoff := if s.notice.holdoff = 1 then 1 else s.notice.holdoff - 1 }
    seq := { s.seq with elapsed := if s.staggerEnds then s.seq.elapsed else min 2550000 (s.seq.elapsed + 1) }
    chans := { (afterMicrosecond s p rest).chans with recs := Vector.ofFn (countedRecord s p) } } := by
  have recs : (if s.clock.ms + 1 = 1000
      then Vector.ofFn fun c => { (microPeriod s p rest).advanceChan c with
        run := if p.dem.getLsbD c.val = (s.chan c).level then 0 else (s.chan c).run + 1 }
      else Vector.ofFn (microPeriod s p rest).advanceChan) = Vector.ofFn (countedRecord s p) := by
    have record : countedRecord s p = _ := funext fun c => (sampled_record (s := s) (p := p) (rest := rest) c).symm
    rw [record]
    split <;> rfl
  have table : (s.table.mapViews fun _ v => v.advance) = (afterMicrosecond s p rest).table :=
    congrArg (fun r => { s.table with recs := r }) (advance_recs s.table)
  unfold counted State.lockedMicrosecond
  dsimp only
  have ms : (microPeriod s p rest).clock.ms + 1 = Config.milliSecond ↔ s.clock.ms + 1 = 1000 := Iff.rfl
  simp only [ms, decide_eq_true_eq]
  split
  · rename_i sample
    rw [if_pos sample] at recs
    refine eq_of_blocks rfl rfl table rfl ?_ rfl rfl rfl rfl ?_ rfl rfl rfl rfl
    · exact congrArg (fun r => { (afterMicrosecond s p rest).chans with recs := r }) recs
    · simp [afterMicrosecond, sample]
      rfl
  · rename_i sample
    rw [if_neg sample] at recs
    refine eq_of_blocks rfl rfl table rfl ?_ rfl rfl rfl rfl ?_ rfl rfl rfl rfl
    · exact congrArg (fun r => { (afterMicrosecond s p rest).chans with recs := r }) recs
    · simp [afterMicrosecond, sample]
      exact ⟨rfl, rfl⟩

theorem counted_chan (c : Chan) : (counted s p rest).chan c = countedRecord s p c := by
  rw [counted_eq]
  exact chan_ofFn (afterMicrosecond s p rest) _ _ rfl c

theorem counted_stn : (counted s p rest).stn = { s.stn with busLoss := s.stn.busLoss.map (· - 1) } := by
  rw [counted_eq]; rfl

theorem counted_port : (counted s p rest).port = s.port := by
  rw [counted_eq]; rfl

theorem counted_fences :
    (counted s p rest).chans.fences = s.chans.fences.map fun f => { f with left := f.left - 1 } := by
  rw [counted_eq]; rfl

theorem counted_table : (counted s p rest).table = s.table.mapViews fun _ v => v.advance := by
  rw [counted_eq]
  exact (congrArg (fun r => { s.table with recs := r }) (advance_recs s.table)).symm

theorem counted_slot : (counted s p rest).notice.slot = s.notice.slot := by
  rw [counted_eq]

/-! ### Which events the microsecond brings -/

theorem pred_zero_iff (o : Option Nat) : o.map (· - 1) = some 0 ↔ ∃ n ≤ 1, o = some n := by
  cases o with
  | none => simp
  | some n => simp; omega

theorem busLoss_due : (counted s p rest).stillDue .busLossExpiry = true ↔ EndsNow s p .busLossExpiry := by
  simp only [State.stillDue, counted_stn, decide_eq_true_eq, pred_zero_iff, EndsNow]

theorem linger_due (k : Nat) : (counted s p rest).stillDue (.lingerExpiry k) = true ↔ EndsNow s p (.lingerExpiry k) := by
  have advanced (v : View) : v.advance = .spare 0 ↔ ∃ n ≤ 1, v = .spare n := by
    cases v <;> simp [View.advance, Nat.sub_eq_zero_iff_le]
  simp only [State.stillDue, counted_table, mapViews_record, EndsNow]
  cases s.table.recs[k]? with
  | none => simp
  | some r => simp [advanced, and_comm]

theorem wait_due (c : Chan) :
    (counted s p rest).stillDue (.waitTimerExpiry c) = true ↔ EndsNow s p (.waitTimerExpiry c) := by
  have held : (counted s p rest).waitHeld c = false ↔ ∀ q, s.notice.slot = some q → q.requester ≠ some c := by
    unfold State.waitHeld
    rw [counted_slot]
    cases s.notice.slot <;> simp
  have active : (counted s p rest).isActive = true ↔ s.stn.state = .active := by
    rw [isActive_iff, counted_stn]
  simp only [State.stillDue, EndsNow, Bool.and_eq_true, Bool.not_eq_true', active, held, counted_chan, and_assoc]
  refine and_congr_right fun on => and_congr_right fun _ => ?_
  unfold countedRecord channelCounted
  cases state : (s.chan c).state with
  | waiting e w =>
    have never : s.minOnDue c = false := by simp [State.minOnDue, state]
    simp [never, state, on, Nat.sub_eq_zero_iff_le, and_comm]
  | on m n => cases s.minOnDue c <;> simp [state]
  | _ => simp [state]

/-- No min off is longer than the off-since timer runs (R79, R160). -/
theorem minOffUs_le (m : Image) (c : Chan) : m.minOffUs c ≤ 255000000 := by
  have byte : m.field c 5 < 256 := (m.channels[c][5]).isLt
  unfold Image.minOffUs Config.second
  omega

theorem minOff_due (c : Chan) :
    (counted s p rest).stillDue (.minOffExpiry c) = true ↔ EndsNow s p (.minOffExpiry c) := by
  have most := minOffUs_le s.port.image c
  simp only [State.stillDue, EndsNow, counted_chan, counted_port]
  unfold countedRecord channelCounted
  cases state : (s.chan c).state with
  | on m n => cases s.minOnDue c <;> simp [state]
  | cooldown =>
    have never : s.minOnDue c = false := by simp [State.minOnDue, state]
    cases since : (s.chan c).offSince with
    | none => simp [never, state, since]
    | some n => simp [never, state, since, most]
  | waiting e w =>
    have never : s.minOnDue c = false := by simp [State.minOnDue, state]
    simp [never, state]
  | _ => simp [state]

theorem fence_due (x : BitVec 6) :
    (counted s p rest).stillDue (.fenceExpiry x) = true ↔ EndsNow s p (.fenceExpiry x) := by
  simp [State.stillDue, EndsNow, counted_fences, Nat.sub_eq_zero_iff_le]

/-- The pins gathered from a list of channels are those of the list. -/
theorem gathered_bit (l : List Chan) (m : BitVec 8) (c : Chan) :
    (l.foldl (fun m d => m ||| BitVec.twoPow 8 d.val) m).getLsbD c.val = true ↔
      m.getLsbD c.val = true ∨ c ∈ l := by
  induction l generalizing m with
  | nil => simp
  | cons d l ih =>
    have same : d.val = c.val ↔ c = d := ⟨fun e => Fin.ext e.symm, fun e => by rw [e]⟩
    rw [List.foldl_cons, ih, List.mem_cons, BitVec.getLsbD_or, BitVec.getLsbD_twoPow]
    simp [same, or_assoc]

theorem accepted_bit (u : State) (c : Chan) :
    u.acceptedPins.getLsbD c.val = true ↔ u.port.image.filter < (u.chan c).run := by
  unfold State.acceptedPins
  rw [gathered_bit]
  simp [mem_allChans]

/-- Pins are told by their eight bits. -/
theorem pins_ext {a b : BitVec 8} (h : ∀ c : Chan, a.getLsbD c.val = true ↔ b.getLsbD c.val = true) : a = b :=
  BitVec.eq_of_getLsbD_eq fun i lt => Bool.eq_iff_iff.2 (h ⟨i, lt⟩)

/-- The filters' event of the period that completes a millisecond (R67). -/
theorem mem_filterRows : i ∈ (if s.clock.ms + 1 = 1000 then (counted s p rest).filterRows else []) ↔
    ∃ pins, i = .filteredLevelChange pins ∧ EndsNow s p i := by
  have bit (c : Chan) : (counted s p rest).acceptedPins.getLsbD c.val = true ↔
      s.port.image.filter < (channelCounted s p c).run := by
    rw [accepted_bit, counted_chan, counted_port]
    rfl
  constructor
  · intro mem
    split at mem
    · rename_i sample
      unfold State.filterRows at mem
      split at mem
      · cases mem
      · rename_i some
        rw [List.mem_singleton.1 mem]
        exact ⟨_, rfl, sample, some, bit⟩
    · cases mem
  · rintro ⟨pins, rfl, sample, some, level⟩
    have same : (counted s p rest).acceptedPins = pins := pins_ext fun c => (bit c).trans (level c).symm
    rw [if_pos sample]
    unfold State.filterRows
    rw [same, if_neg some]
    exact List.mem_singleton_self _

theorem mem_endRows : i ∈ (microPeriod s p rest).endRows ↔ (i = .yieldHoldoffExpiry ∧ s.notice.holdoff = 1) ∨
    (∃ c, i = .minOnExpiry c ∧ s.minOnDue c = true) ∨ (i = .staggerReached ∧ s.staggerEnds = true) := by
  have stagger : (microPeriod s p rest).staggerEnds = s.staggerEnds := rfl
  have holdoff : (microPeriod s p rest).stillDue .yieldHoldoffExpiry = decide (s.notice.holdoff = 1) := rfl
  have due (c : Chan) : (microPeriod s p rest).stillDue (.minOnExpiry c) = s.minOnDue c := rfl
  have tail : i ∈ (if s.staggerEnds then [Instr.staggerReached] else []) ↔
      i = .staggerReached ∧ s.staggerEnds = true := by
    cases s.staggerEnds <;> simp
  unfold State.endRows
  rw [stagger, List.mem_append, tail, List.mem_filter, List.mem_cons, List.mem_map, ← or_assoc]
  refine or_congr_left ⟨?_, ?_⟩
  · rintro ⟨rfl | ⟨c, -, rfl⟩, still⟩
    · exact .inl ⟨rfl, by simpa [holdoff] using still⟩
    · exact .inr ⟨c, rfl, by simpa [due] using still⟩
  · rintro (⟨rfl, one⟩ | ⟨c, rfl, on⟩)
    · exact ⟨.inl rfl, by simpa [holdoff] using one⟩
    · exact ⟨.inr ⟨c, mem_allChans c, rfl⟩, by simpa [due] using on⟩

/-- A time event of the table's rows: one whose timer counts ahead of it (log 36). -/
def TimeRow (i : Instr) : Prop :=
  i = .busLossExpiry ∨ (∃ k, i = .lingerExpiry k) ∨ (∃ c, i = .waitTimerExpiry c) ∨
    (∃ c, i = .minOffExpiry c) ∨ ∃ x, i = .fenceExpiry x

theorem timeRow_due (row : TimeRow i) : (counted s p rest).stillDue i = true ↔ EndsNow s p i := by
  obtain rfl | ⟨k, rfl⟩ | ⟨c, rfl⟩ | ⟨c, rfl⟩ | ⟨x, rfl⟩ := row
  · exact busLoss_due
  · exact linger_due k
  · exact wait_due c
  · exact minOff_due c
  · exact fence_due x

theorem mem_timeRows : i ∈ (counted s p rest).timeRows.filter (counted s p rest).stillDue ↔
    TimeRow i ∧ EndsNow s p i := by
  rw [List.mem_filter]
  have rows : i ∈ (counted s p rest).timeRows ↔ i = .busLossExpiry ∨
      (∃ k < s.table.recs.length, i = .lingerExpiry k) ∨ (∃ c, i = .waitTimerExpiry c) ∨
      (∃ c, i = .minOffExpiry c) ∨ ∃ f ∈ s.chans.fences, i = .fenceExpiry f.sender := by
    simp [State.timeRows, counted_fences, counted_table, mem_allChans, eq_comm]
  rw [rows]
  constructor
  · rintro ⟨row, still⟩
    have time : TimeRow i := by
      obtain e | ⟨k, -, e⟩ | ⟨c, e⟩ | ⟨c, e⟩ | ⟨f, -, e⟩ := row
      · exact .inl e
      · exact .inr (.inl ⟨k, e⟩)
      · exact .inr (.inr (.inl ⟨c, e⟩))
      · exact .inr (.inr (.inr (.inl ⟨c, e⟩)))
      · exact .inr (.inr (.inr (.inr ⟨f.sender, e⟩)))
    exact ⟨time, (timeRow_due time).1 still⟩
  · rintro ⟨time, ends⟩
    refine ⟨?_, (timeRow_due time).2 ends⟩
    obtain e | ⟨k, rfl⟩ | ⟨c, e⟩ | ⟨c, e⟩ | ⟨x, rfl⟩ := time
    · exact .inl e
    · obtain ⟨r, n, record, -⟩ := ends
      exact .inr (.inl ⟨k, (List.getElem?_eq_some_iff.1 record).1, rfl⟩)
    · exact .inr (.inr (.inl ⟨c, e⟩))
    · exact .inr (.inr (.inr (.inl ⟨c, e⟩)))
    · obtain ⟨f, mem, rfl, -⟩ := ends
      exact .inr (.inr (.inr (.inr ⟨f, mem, rfl⟩)))

theorem brought_eq : brought s p rest = (microPeriod s p rest).killRows ++ (microPeriod s p rest).endRows ++
    (counted s p rest).timeRows.filter (counted s p rest).stillDue ++
    (if s.clock.ms + 1 = 1000 then (counted s p rest).filterRows else []) := by
  have ms : (microPeriod s p rest).clock.ms + 1 = Config.milliSecond ↔ s.clock.ms + 1 = 1000 := Iff.rfl
  unfold brought counted State.lockedMicrosecond
  simp only [ms, decide_eq_true_eq]

/-- The microsecond brings what ends with it, and nothing else. -/
theorem mem_brought : i ∈ brought s p rest ↔ EndsNow s p i := by
  rw [brought_eq, List.mem_append, List.mem_append, List.mem_append, mem_killRows, mem_endRows, mem_timeRows,
    mem_filterRows, staggerEnds_iff]
  have kill : KillnMoves s p i → i = .killnLow ∨ i = .killnHigh := Or.imp And.left And.left
  constructor
  · rintro (((moves | ⟨rfl, one⟩ | ⟨c, rfl, due⟩ | ⟨rfl, stagger⟩) | ⟨-, ends⟩) | ⟨pins, -, ends⟩)
    · obtain rfl | rfl := kill moves <;> exact moves
    · exact one
    · exact (min_on_due_iff s c).1 due
    · exact stagger
    · exact ends
    · exact ends
  · intro ends
    cases i with
    | killnLow => exact .inl (.inl (.inl ends))
    | killnHigh => exact .inl (.inl (.inl ends))
    | yieldHoldoffExpiry => exact .inl (.inl (.inr (.inl ⟨rfl, ends⟩)))
    | minOnExpiry c => exact .inl (.inl (.inr (.inr (.inl ⟨c, rfl, (min_on_due_iff s c).2 ends⟩))))
    | staggerReached => exact .inl (.inl (.inr (.inr (.inr ⟨rfl, ends⟩))))
    | busLossExpiry => exact .inl (.inr ⟨.inl rfl, ends⟩)
    | lingerExpiry k => exact .inl (.inr ⟨.inr (.inl ⟨k, rfl⟩), ends⟩)
    | waitTimerExpiry c => exact .inl (.inr ⟨.inr (.inr (.inl ⟨c, rfl⟩)), ends⟩)
    | minOffExpiry c => exact .inl (.inr ⟨.inr (.inr (.inr (.inl ⟨c, rfl⟩))), ends⟩)
    | fenceExpiry x => exact .inl (.inr ⟨.inr (.inr (.inr (.inr ⟨x, rfl⟩))), ends⟩)
    | filteredLevelChange pins => exact .inr ⟨pins, rfl, ends⟩
    | _ => exact ends.elim

end

end Sys2Proof.Machine

namespace Sys2Proof.Machine

section
variable {s : State} {p : Pins} {rest : List Pins} {i : Instr}

/-! ### No event comes twice in a microsecond -/

theorem endRows_nodup (u : State) : u.endRows.Nodup := by
  have rows : (Instr.yieldHoldoffExpiry :: allChans.map Instr.minOnExpiry).Nodup := by decide
  have stagger : (if u.staggerEnds then [Instr.staggerReached] else []).Nodup := by
    split
    · exact List.nodup_singleton _
    · exact List.nodup_nil
  refine List.Nodup.append (rows.filter _) stagger fun i first second => ?_
  have late : i = .staggerReached := by
    split at second
    · exact List.mem_singleton.1 second
    · cases second
  subst late
  have absent : Instr.staggerReached ∉ Instr.yieldHoldoffExpiry :: allChans.map Instr.minOnExpiry := by decide
  exact absent (List.mem_filter.1 first).1

theorem filterRows_nodup (u : State) : u.filterRows.Nodup := by
  unfold State.filterRows
  split
  · exact List.nodup_nil
  · exact List.nodup_singleton _

theorem timeRows_nodup (u : State) (fences : (u.chans.fences.map Fence.sender).Nodup) : u.timeRows.Nodup := by
  have lingers : ((List.range u.table.recs.length).map Instr.lingerExpiry).Nodup :=
    List.nodup_range.map fun a b e => by injection e
  have waits : (allChans.map Instr.waitTimerExpiry).Nodup := by decide
  have offs : (allChans.map Instr.minOffExpiry).Nodup := by decide
  have senders : (u.chans.fences.map fun f => Instr.fenceExpiry f.sender).Nodup := by
    have injective : Function.Injective Instr.fenceExpiry := fun a b e => by injection e
    have renamed := fences.map injective
    rw [List.map_map] at renamed
    exact renamed
  simp only [State.timeRows, List.nodup_append, List.nodup_cons, lingers, waits, offs, senders, true_and, and_true]
  refine ⟨⟨⟨by simp, ?_⟩, ?_⟩, ?_⟩
  all_goals intro i first j second same
  all_goals subst same
  all_goals simp only [List.mem_append, List.mem_cons, List.mem_map] at first second
  · obtain ⟨c, -, rfl⟩ := second
    simp at first
  · obtain ⟨c, -, rfl⟩ := second
    simp at first
  · obtain ⟨f, -, rfl⟩ := second
    simp at first

/-- The events of a microsecond come once each: KILLN's, those that end in their own event, those of the other timers,
the filters'. -/
theorem brought_nodup (fences : (s.chans.fences.map Fence.sender).Nodup) : (brought s p rest).Nodup := by
  have senders : ((counted s p rest).chans.fences.map Fence.sender).Nodup := by
    rw [counted_fences, List.map_map]
    exact fences
  have kill := killRows_nodup (microPeriod s p rest)
  have ends := endRows_nodup (microPeriod s p rest)
  have times := (timeRows_nodup (counted s p rest) senders).filter (counted s p rest).stillDue
  have levels : (if s.clock.ms + 1 = 1000 then (counted s p rest).filterRows else []).Nodup := by
    split
    · exact filterRows_nodup _
    · exact List.nodup_nil
  rw [brought_eq]
  refine ((kill.append ends ?_).append times ?_).append levels ?_
  · intro i first second
    obtain rfl | rfl := (mem_killRows.1 first).imp And.left And.left <;>
      simp [mem_endRows] at second
  · intro i first second
    obtain ⟨time, -⟩ := mem_timeRows.1 second
    rw [List.mem_append, mem_killRows, mem_endRows] at first
    obtain moves | ⟨rfl, -⟩ | ⟨c, rfl, -⟩ | ⟨rfl, -⟩ := first
    · obtain rfl | rfl := moves.imp And.left And.left <;> simp [TimeRow] at time
    all_goals simp [TimeRow] at time
  · intro i first second
    obtain ⟨pins, rfl, -⟩ := mem_filterRows.1 second
    rw [List.mem_append, List.mem_append, mem_killRows, mem_endRows, mem_timeRows] at first
    simp [KillnMoves, TimeRow] at first

/-! ### The timers that count in their own events (log 25) -/

/-- Without such an end every timer has counted already. -/
theorem counted_still (holdoff : s.notice.holdoff ≠ 1) (stagger : s.staggerEnds = false)
    (on : ∀ c, s.minOnDue c = false) : counted s p rest = afterMicrosecond s p rest := by
  have records : countedRecord s p = channelCounted s p := by
    funext c
    simp [countedRecord, on c]
  rw [counted_eq, records]
  simp [holdoff, stagger, afterMicrosecond]

theorem staggerEnds_false (h : ¬ EndsNow s p .staggerReached) : s.staggerEnds = false :=
  Bool.eq_false_iff.2 fun ends => h ((staggerEnds_iff s).1 ends)

theorem minOnDue_false {c : Chan} (h : ¬ EndsNow s p (.minOnExpiry c)) : s.minOnDue c = false :=
  Bool.eq_false_iff.2 fun due => h ((min_on_due_iff s c).1 due)

/-- The ends that count in their own events are among those of the microsecond. -/
theorem counted_of_none (holdoff : ¬ EndsNow s p .yieldHoldoffExpiry) (stagger : ¬ EndsNow s p .staggerReached)
    (on : ∀ c, ¬ EndsNow s p (.minOnExpiry c)) : counted s p rest = afterMicrosecond s p rest :=
  counted_still holdoff (staggerEnds_false stagger) fun c => minOnDue_false (on c)

theorem countedRecord_undue {c : Chan} (h : ¬ EndsNow s p (.minOnExpiry c)) :
    countedRecord s p c = channelCounted s p c := by
  simp [countedRecord, minOnDue_false h]

theorem setChan_setChan (u : State) (c : Chan) (r r' : ChannelRec) : (u.setChan c r).setChan c r' = u.setChan c r' := by
  simp [State.setChan, State.setChans]

theorem minOnUs_le (m : Image) (c : Chan) : m.minOnUs c ≤ 255000000 := by
  have byte : m.field c 4 < 256 := (m.channels[c][4]).isLt
  unfold Image.minOnUs Config.second
  omega

/-- No stagger is longer than the elapsed timer runs (R92, R160). -/
theorem staggerUs_le (m : Image) (c : Chan) : m.staggerUs c ≤ 2550000 := by
  have byte : m.field c 6 < 256 := (m.channels[c][6]).isLt
  unfold Image.staggerUs Config.hundredthSecond
  omega

/-- The holdoff's last microsecond counts in its expiry (R106). -/
theorem takeRow_holdoff (ends : EndsNow s p .yieldHoldoffExpiry)
    (only : ∀ j, EndsNow s p j → j = .yieldHoldoffExpiry) :
    (counted s p rest).takeRow .yieldHoldoffExpiry = (afterMicrosecond s p rest).fire .yieldHoldoffExpiry := by
  have holdoff : s.notice.holdoff = 1 := ends
  have stagger : s.staggerEnds = false := staggerEnds_false fun h => by cases only _ h
  have records : countedRecord s p = channelCounted s p :=
    funext fun c => countedRecord_undue fun h => by cases only _ h
  have due : (counted s p rest).stillDue .yieldHoldoffExpiry = true := by
    rw [counted_eq]
    simp [State.stillDue, holdoff]
  rw [takeRow_of_ne (by simp), if_pos due, counted_eq, records]
  simp [State.fire, exec, execYieldHoldoffExpiry, afterMicrosecond, State.setNotice, stagger]

theorem afterMicrosecond_chan (c : Chan) : (afterMicrosecond s p rest).chan c = channelCounted s p c :=
  chan_ofFn s _ { s.chans with recs := Vector.ofFn (channelCounted s p) } rfl c

/-- Where one channel's min on ends and nothing else does, that channel's on-since timer alone has not counted. -/
theorem counted_minOn {c : Chan} (only : ∀ j, EndsNow s p j → j = .minOnExpiry c) :
    counted s p rest = (afterMicrosecond s p rest).setChan c (countedRecord s p c) := by
  have stagger : s.staggerEnds = false := staggerEnds_false fun h => by cases only _ h
  have holdoff : s.notice.holdoff ≠ 1 := fun h => by
    have same := only .yieldHoldoffExpiry h
    cases same
  have recs : Vector.ofFn (countedRecord s p) = (Vector.ofFn (channelCounted s p)).set c (countedRecord s p c) := by
    refine Vector.ext fun k lt => ?_
    rw [Vector.getElem_ofFn, Vector.getElem_set]
    split
    · rename_i same
      exact congrArg _ (Fin.ext same.symm)
    · rename_i other
      rw [Vector.getElem_ofFn]
      refine countedRecord_undue fun h => ?_
      have same := only _ h
      simp only [Instr.minOnExpiry.injEq] at same
      exact other (congrArg Fin.val same.symm)
  rw [counted_eq, recs]
  simp [holdoff, stagger, afterMicrosecond, State.setChan, State.setChans]

/-- A min-on expiry puts the timer at min on, and stops a channel with its stop pending (R75). -/
theorem takeMinOnExpiry_on {u : State} {c : Chan} {m : Bool} {n : Nat} (on : (u.chan c).state = .on m n) :
    u.takeMinOnExpiry c =
      if m then (u.setChState c (.on m (max n (u.port.image.minOnUs c)))).stopChan c
      else u.setChState c (.on m (max n (u.port.image.minOnUs c))) := by
  unfold State.takeMinOnExpiry
  rw [on]

/-- The on-since timer's count to min on is that of its expiry (R75). -/
theorem takeRow_minOn {c : Chan} (ends : EndsNow s p (.minOnExpiry c))
    (only : ∀ j, EndsNow s p j → j = .minOnExpiry c) :
    (counted s p rest).takeRow (.minOnExpiry c) = (afterMicrosecond s p rest).fire (.minOnExpiry c) := by
  obtain ⟨m, n, on, last⟩ := ends
  have most := minOnUs_le s.port.image c
  have due : s.minOnDue c = true := (min_on_due_iff s c).2 ⟨m, n, on, last⟩
  have before : ((counted s p rest).chan c).state = .on m n := by
    rw [counted_chan]
    simp [countedRecord, due, on]
  have after : ((afterMicrosecond s p rest).chan c).state = .on m (n + 1) := by
    rw [afterMicrosecond_chan]
    simp [channelCounted, on]
    omega
  have image : (counted s p rest).port.image = s.port.image := by rw [counted_port]
  have still : (counted s p rest).stillDue (.minOnExpiry c) = true :=
    (min_on_due_iff _ c).2 ⟨m, n, before, by rw [image, last]⟩
  have same : (counted s p rest).setChState c (.on m (s.port.image.minOnUs c)) =
      (afterMicrosecond s p rest).setChState c (.on m (s.port.image.minOnUs c)) := by
    rw [counted_minOn only]
    unfold State.setChState
    rw [setChan_setChan, chan_setChan_self, afterMicrosecond_chan]
    rfl
  rw [takeRow_of_ne (by simp), if_pos still]
  change ((counted s p rest).takeMinOnExpiry c).settle = ((afterMicrosecond s p rest).takeMinOnExpiry c).settle
  have afterImage : (afterMicrosecond s p rest).port.image = s.port.image := rfl
  rw [takeMinOnExpiry_on before, takeMinOnExpiry_on after, image, afterImage, Nat.max_eq_right (by omega),
    Nat.max_eq_right (by omega), same]

/-- The elapsed timer's count to a stagger is that of the head's event, where it is the head's (R93). -/
theorem takeRow_stagger (ends : EndsNow s p .staggerReached) (only : ∀ j, EndsNow s p j → j = .staggerReached) :
    (counted s p rest).takeRow .staggerReached =
      if ∀ c, s.seq.startList.head? = some c → s.seq.elapsed + 1 ≠ s.port.image.staggerUs c
      then afterMicrosecond s p rest else (afterMicrosecond s p rest).fire .staggerReached := by
  have reached : s.staggerEnds = true := (staggerEnds_iff s).2 ends
  have elapsed : min 2550000 (s.seq.elapsed + 1) = s.seq.elapsed + 1 := by
    obtain ⟨c, last⟩ := ends
    have most := staggerUs_le s.port.image c
    omega
  have holdoff : s.notice.holdoff ≠ 1 := fun h => by
    have same := only .yieldHoldoffExpiry h
    cases same
  have records : countedRecord s p = channelCounted s p :=
    funext fun c => countedRecord_undue fun h => by cases only _ h
  have before : counted s p rest =
      (afterMicrosecond s p rest).setSeq { s.seq with elapsed := s.seq.elapsed } := by
    rw [counted_eq, records]
    simp [holdoff, reached, afterMicrosecond, State.setSeq]
  have goesOn : (counted s p rest).staggerEnds = true := by
    rw [before]
    exact reached
  have counts : (counted s p rest).setSeq { (counted s p rest).seq with
      elapsed := (counted s p rest).seq.elapsed + 1 } = afterMicrosecond s p rest := by
    rw [before]
    simp [afterMicrosecond, State.setSeq, elapsed]
  have due : (afterMicrosecond s p rest).stillDue .staggerReached = true ↔
      ¬ ∀ c, s.seq.startList.head? = some c → s.seq.elapsed + 1 ≠ s.port.image.staggerUs c := by
    simp only [State.stillDue, afterMicrosecond, afterPeriod, elapsed]
    cases s.seq.startList <;> simp
  change (counted s p rest).reachStagger = _
  unfold State.reachStagger
  rw [if_pos goesOn, counts]
  simp only [due]
  split <;> rename_i head <;> simp [head]

/-- Every other event finds its timer counted. -/
theorem takeRow_counted (ends : EndsNow s p i) (only : ∀ j, EndsNow s p j → j = i)
    (holdoff : i ≠ .yieldHoldoffExpiry) (on : ∀ c, i ≠ .minOnExpiry c) (stagger : i ≠ .staggerReached) :
    (counted s p rest).takeRow i = (afterMicrosecond s p rest).fire i := by
  have due : (counted s p rest).stillDue i = true := by
    cases i with
    | busLossExpiry => exact busLoss_due.2 ends
    | lingerExpiry k => exact (linger_due k).2 ends
    | waitTimerExpiry c => exact (wait_due c).2 ends
    | minOffExpiry c => exact (minOff_due c).2 ends
    | fenceExpiry x => exact (fence_due x).2 ends
    | yieldHoldoffExpiry => exact absurd rfl holdoff
    | minOnExpiry c => exact absurd rfl (on c)
    | staggerReached => exact absurd rfl stagger
    | _ => rfl
  rw [takeRow_of_ne stagger, if_pos due, counted_of_none (fun h => holdoff (only _ h).symm)
    (fun h => stagger (only _ h).symm) (fun c h => on c (only _ h).symm)]

end

/-- Settles O37: the microsecond brings exactly what ends with it, and each event is taken by its row. -/
theorem microsecondCountsAndSamples : Obligations.MicrosecondCountsAndSamples := by
  unfold Obligations.MicrosecondCountsAndSamples
  intro s p rest empty inputs rstn csn high sub still
  refine ⟨fun locked fences => ?_, fun unlocked => ?_⟩
  · have taken := step_locked empty inputs rstn csn high sub still locked
    refine ⟨fun none => ?_, fun i ends only => ?_⟩
    · have nothing : brought s p rest = [] :=
        List.eq_nil_iff_forall_not_mem.2 fun i mem => none i (mem_brought.1 mem)
      rw [taken, nothing, counted_of_none (none _) (none _) fun c => none _]
      rfl
    · have one : brought s p rest = [i] := eq_singleton_of_nodup (brought_nodup fences) (mem_brought.2 ends)
        fun j mem => only j (mem_brought.1 mem)
      have row : step s = .next ((counted s p rest).takeRow i) := by
        rw [taken, one]
        rfl
      rw [row]
      by_cases stagger : i = .staggerReached
      · subst stagger
        rw [takeRow_stagger ends only, exec_eq_fire]
        simp only [true_and]
        split <;> rfl
      · rw [if_neg fun h => stagger h.1, exec_eq_fire]
        refine congrArg _ ?_
        by_cases holdoff : i = .yieldHoldoffExpiry
        · subst holdoff
          exact takeRow_holdoff ends only
        · by_cases on : ∃ c, i = .minOnExpiry c
          · obtain ⟨c, rfl⟩ := on
            exact takeRow_minOn ends only
          · exact takeRow_counted ends only holdoff (fun c h => on ⟨c, h⟩) stagger
  · have micro : (microPeriod s p rest).microsecond = ((microPeriod s p rest).killRows, microPeriod s p rest) :=
      if_neg (by simp [microPeriod, afterPeriod, unlocked])
    have taken : step s = .next ((microPeriod s p rest).takeEvents ((microPeriod s p rest).killRows.map .row)) := by
      rw [step_microsecond empty inputs rstn csn high sub still, micro]
    refine ⟨fun none => ?_, fun i moves => ?_⟩
    · have nothing : (microPeriod s p rest).killRows = [] :=
        List.eq_nil_iff_forall_not_mem.2 fun i mem => none i (mem_killRows.1 mem)
      rw [taken, nothing]
      rfl
    · have only : ∀ j, KillnMoves s p j → j = i := by
        rintro j (⟨rfl, low, -⟩ | ⟨rfl, highNow, -⟩)
        · obtain ⟨rfl, -⟩ | ⟨-, now, -⟩ := moves
          · rfl
          · simp [low] at now
        · obtain ⟨-, now, -⟩ | ⟨rfl, -⟩ := moves
          · simp [highNow] at now
          · rfl
      have one : (microPeriod s p rest).killRows = [i] := eq_singleton_of_nodup (killRows_nodup _)
        (mem_killRows.2 moves) fun j mem => only j (mem_killRows.1 mem)
      rw [taken, one, exec_eq_fire]
      obtain ⟨rfl, -⟩ | ⟨rfl, -⟩ := moves <;> rfl

end Sys2Proof.Machine

namespace Sys2Proof.Machine

/-! ### Steps that leave the Roll Tracker in its place -/

/-- t keeps the Roll Tracker but for its OPEN part, the stuck-line report's armed state, a released line, the lock and
every event that is set. -/
structure RollFrame (s t : State) : Prop where
  armed : t.line.stuckArmed = s.line.stuckArmed
  released : s.line.drive = none → t.line.drive = none
  roll : t.roll = { s.roll with openLeft := t.roll.openLeft, openWish := t.roll.openWish }
  locked : s.stn.state ≠ .config → t.stn.state ≠ .config
  events : ∀ k, s.port.events.getLsbD k = true → t.port.events.getLsbD k = true

section
variable {s t u : State}

theorem RollFrame.refl (s : State) : RollFrame s s := ⟨rfl, id, rfl, id, fun _ => id⟩

theorem RollFrame.trans (h : RollFrame s t) (k : RollFrame t u) : RollFrame s u := by
  refine ⟨k.armed.trans h.armed, fun e => k.released (h.released e), ?_, fun e => k.locked (h.locked e),
    fun i e => k.events i (h.events i e)⟩
  have second := k.roll
  rw [h.roll] at second
  exact second

theorem MarkFrame.rolls (h : MarkFrame s t) : RollFrame s t :=
  ⟨by rw [h.line], fun e => by rw [h.line, e], by rw [h.roll], fun e => by rw [h.stn]; exact e, h.events⟩

theorem LoadFrame.rolls (h : LoadFrame s t) : RollFrame s t := h.marks.rolls

end

section
variable (s : State)

theorem settle_rolls : RollFrame s s.settle := by
  refine ⟨by rw [settle_line], fun e => by rw [settle_line, e], by rw [settle_roll], fun e => ?_, fun k e => ?_⟩
  · rw [settle_state]
    exact e
  · rw [settle_port]
    exact e

theorem setStn_rolls (x : StationCtl) (h : x.state = s.stn.state) : RollFrame s (s.setStn x) :=
  ⟨rfl, id, rfl, fun e => by rw [State.setStn_stn, h]; exact e, fun _ => id⟩

theorem setCont_rolls (x : Contention) : RollFrame s (s.setCont x) := ⟨rfl, id, rfl, id, fun _ => id⟩

theorem setFree_rolls (x : Nat) : RollFrame s (s.setFree x) := ⟨rfl, id, rfl, id, fun _ => id⟩

theorem shedFlag_keeps (cause : ShedCause) (k : Nat) (h : s.port.events.getLsbD k = true) :
    (shedFlag s cause).getLsbD k = true := by
  unfold shedFlag
  split
  · rw [BitVec.getLsbD_or, h, Bool.true_or]
  · exact h

theorem depart_rolls (cause : ShedCause) (x : StationState) (h : x ≠ .config) : RollFrame s (s.depart cause x) := by
  refine ⟨by rw [depart_line], fun _ => by rw [depart_line], by rw [depart_roll], fun _ => ?_, fun k e => ?_⟩
  · rw [depart_stn_state]
    exact h
  · rw [depart_events]
    exact shedFlag_keeps s cause k e

theorem writeIncident_rolls (i : IncidentCause) (c : Option Chan) : RollFrame s (s.writeIncident i c) :=
  setStn_rolls s _ (by rfl)

/-- An incident record, a departure and an event. -/
theorem incident_depart_rolls (i : IncidentCause) (c : Option Chan) (cause : ShedCause) (x : StationState) (e : Event)
    (h : x ≠ .config) : RollFrame s (((s.writeIncident i c).depart cause x).setEvent e) :=
  ((writeIncident_rolls s i c).trans (depart_rolls _ cause x h)).trans (setEvent_marks _ e).rolls

theorem actRequest_rolls (q : Request) : RollFrame s (s.actRequest q) := by
  cases q with
  | leave => exact depart_rolls s _ _ (by decide)
  | quiet => exact depart_rolls s _ _ (by decide)

theorem enterActive_rolls : RollFrame s s.enterActive := by
  have joined := setEvent_marks s .joined
  exact ⟨rfl, id, rfl, fun _ => by simp [State.enterActive], joined.events⟩

theorem restartBusLoss_rolls (valid : Bool) : RollFrame s (s.restartBusLoss valid) := by
  unfold State.restartBusLoss
  split
  · exact setStn_rolls s _ rfl
  · exact .refl s

theorem clearMark_rolls : RollFrame s s.clearMark := setStn_rolls s _ rfl

theorem endJoining_rolls (valid : Bool) : RollFrame s (s.endJoining valid) := by
  unfold State.endJoining
  dsimp only
  split
  · exact (setStn_rolls s _ (by rfl)).trans (enterActive_rolls _)
  · exact setStn_rolls s _ (by rfl)

theorem endActive_rolls (valid : Bool) : RollFrame s (s.endActive valid) := by
  unfold State.endActive
  dsimp only
  split
  · exact (restartBusLoss_rolls s valid).trans (actRequest_rolls _ _)
  · exact restartBusLoss_rolls s valid

/-- The Station Controller's part of a roll end: it clears the countable mark in every state (R140). -/
theorem endStation_rolls (valid : Bool) :
    RollFrame s (s.endStation valid) ∧ (s.endStation valid).stn.countable = false := by
  unfold State.endStation
  split
  · refine ⟨endJoining_rolls s valid, ?_⟩
    unfold State.endJoining
    dsimp only
    split <;> rfl
  · exact ⟨(endActive_rolls s valid).trans (clearMark_rolls _), rfl⟩
  all_goals exact ⟨clearMark_rolls s, rfl⟩

theorem endBlocks_rolls (cause : RollEndCause) (valid : Bool) (order : RollEndOrder) :
    RollFrame s (s.endBlocks cause valid order) ∧ (s.endBlocks cause valid order).stn.countable = false := by
  cases order with
  | checkFirst =>
    obtain ⟨frame, mark⟩ := endStation_rolls s.spareCheck valid
    exact ⟨(spareCheck_load s).rolls.trans frame, mark⟩
  | requestFirst =>
    obtain ⟨frame, mark⟩ := endStation_rolls s valid
    have check := spareCheck_load (s.endStation valid)
    refine ⟨frame.trans check.rolls, ?_⟩
    change (s.endStation valid).spareCheck.stn.countable = false
    rw [check.stn, mark]
  | noticeBetween =>
    obtain ⟨frame, mark⟩ := endStation_rolls (s.spareCheck.noticeAtEnd cause) valid
    exact ⟨((spareCheck_load s).rolls.trans (noticeAtEnd_marks _ cause).rolls).trans frame, mark⟩

theorem endNotices_rolls : RollFrame s s.endConflictRun.endSend.endRecv := by
  refine .trans ?_ ((endSend_marks _).trans (endRecv_load _).marks).rolls
  unfold State.endConflictRun
  split
  · exact setCont_rolls s _
  · exact .refl s

theorem settle_countable (h : s.stn.countable = false) : s.settle.stn.countable = false := by
  rw [settle_stn]
  exact h

theorem stuckReport_rolls : RollFrame s s.stuckReport := by
  unfold State.stuckReport
  split
  · exact incident_depart_rolls s _ _ _ _ _ (by decide)
  · exact (setStn_rolls s _ (by rfl)).trans (setEvent_marks _ _).rolls
  · exact (setStn_rolls s _ (by rfl)).trans (setEvent_marks _ _).rolls
  · exact (setEvent_marks s _).rolls
  · exact (setEvent_marks s _).rolls
  · exact (setEvent_marks s _).rolls
  · exact .refl s

theorem stuckReport_countable (h : s.stn.countable = false) : s.stuckReport.stn.countable = false := by
  unfold State.stuckReport
  split
  · rfl
  all_goals exact h

end

/-! ### A stuck line with a roll in flight: three events in any order (R17, log 6) -/

/-- Where a station stands between the events of a stuck line: `reported` tells whether the report has been taken, `ended`
whether the roll end has; `locked` holds of a station that was not in CONFIG before them. -/
structure StuckStage (locked : Prop) (reported ended : Bool) (s : State) : Prop where
  armed : s.line.stuckArmed = !reported
  drive : reported = true → s.line.drive = none
  flight : reported = false → ended = false → s.inFlight = true
  settling : reported = true ∨ ended = true → s.roll.state = .settling ∧ s.roll.recessive = 0 ∧
    s.roll.endDue = (reported && !ended)
  mark : ended = true → s.stn.countable = false
  state : reported = false → locked → s.stn.state ≠ .config
  event : reported = true → locked → s.port.events.getLsbD 6 = true

section
variable {locked : Prop} {reported ended : Bool} {s t : State}

theorem inFlight_congr (h : t.roll.state = s.roll.state) : t.inFlight = s.inFlight := by
  unfold State.inFlight
  rw [h]

/-- What keeps the Roll Tracker in its place, and the mark cleared, keeps the stage. -/
theorem StuckStage.frame (h : StuckStage locked reported ended s) (k : RollFrame s t)
    (mark : s.stn.countable = false → t.stn.countable = false) : StuckStage locked reported ended t := by
  have state : t.roll.state = s.roll.state := by rw [k.roll]
  have recessive : t.roll.recessive = s.roll.recessive := by rw [k.roll]
  have due : t.roll.endDue = s.roll.endDue := by rw [k.roll]
  refine ⟨k.armed.trans h.armed, fun e => k.released (h.drive e), fun e f => ?_, fun e => ?_,
    fun e => mark (h.mark e), fun e f => k.locked (h.state e f), fun e f => k.events 6 (h.event e f)⟩
  · rw [inFlight_congr state]
    exact h.flight e f
  · rw [state, recessive, due]
    exact h.settling e

theorem StuckStage.setFree (h : StuckStage locked reported ended s) (n : Nat) :
    StuckStage locked reported ended (s.setFree n) := h.frame (setFree_rolls s n) id

theorem StuckStage.settle (h : StuckStage locked reported ended s) : StuckStage locked reported ended s.settle :=
  h.frame (settle_rolls s) (settle_countable s)

/-- The notice end of a stuck line keeps the stage. -/
theorem StuckStage.notice (h : StuckStage locked reported ended s) :
    StuckStage locked reported ended s.stuckNotice := by
  have marks := takeNoticeEnd_marks s .stuck rfl
  unfold State.stuckNotice
  split
  · exact StuckStage.settle (h.frame marks.rolls fun e => by rw [marks.stn, e])
  · exact h

theorem not_off_of_inFlight (h : s.inFlight = true) : s.roll.state ≠ .off := by
  intro off
  simp [State.inFlight, off] at h

theorem not_inFlight_of_settling (h : s.roll.state = .settling) : s.inFlight = false := by
  simp [State.inFlight, h]

/-- The report is taken: the Roll Tracker is in SETTLING, and a roll end that has not been taken yet is due (log 17). -/
theorem StuckStage.report (h : StuckStage locked false ended s) :
    StuckStage locked true ended (s.fire .stuckLine) := by
  have on : s.roll.state ≠ .off := by
    cases ended with
    | false => exact not_off_of_inFlight (h.flight rfl rfl)
    | true =>
      obtain ⟨settling, -, -⟩ := h.settling (.inr rfl)
      simp [settling]
  obtain ⟨armed, roll, event⟩ := stuckReport_keeps s.disarmed
  have due : (s.disarmed.stuckReport.roll.endDue || s.disarmed.stuckReport.inFlight) = !ended := by
    rw [inFlight_congr (show s.disarmed.stuckReport.roll.state = s.roll.state by rw [roll]; rfl), roll]
    change (s.roll.endDue || s.inFlight) = !ended
    cases ended with
    | false => simp [h.flight rfl rfl]
    | true =>
      obtain ⟨settling, -, notDue⟩ := h.settling (.inr rfl)
      rw [not_inFlight_of_settling settling, notDue]
      rfl
  have taken : s.fire .stuckLine = s.disarmed.stuckReport.stuckTracker.settle :=
    congrArg State.settle (takeStuckLine_armed s on h.armed)
  rw [taken]
  refine StuckStage.settle ⟨armed, fun _ => rfl, nofun, fun _ => ⟨rfl, rfl, ?_⟩, fun e => ?_,
    nofun, fun _ l => event (h.state rfl l)⟩
  · change (s.disarmed.stuckReport.roll.endDue || s.disarmed.stuckReport.inFlight) = _
    rw [due]
    rfl
  · exact stuckReport_countable s.disarmed (h.mark e)

/-- The roll end of a stuck line is taken: the Roll Tracker is, or stays, in SETTLING with no roll end due. -/
theorem StuckStage.rollEnd (h : StuckStage locked reported false s) (order : RollEndOrder) :
    StuckStage locked reported true (s.fire (.rollEnd .stuck order)) := by
  have occurs : s.endOccurs .stuck = true := by
    unfold State.endOccurs
    cases reported with
    | false => simp [h.flight rfl rfl]
    | true =>
      obtain ⟨-, -, due⟩ := h.settling (.inl rfl)
      simp [due]
  have before := endNotices_rolls s
  have finished : (s.endConflictRun.endSend.endRecv.roll.finish s.inFlight .stuck (s.endValid .stuck)).state =
        .settling ∧
      (s.endConflictRun.endSend.endRecv.roll.finish s.inFlight .stuck (s.endValid .stuck)).recessive = 0 ∧
      (s.endConflictRun.endSend.endRecv.roll.finish s.inFlight .stuck (s.endValid .stuck)).endDue = false := by
    rw [before.roll]
    unfold RollTracker.finish
    cases reported with
    | false =>
      rw [h.flight rfl rfl]
      exact ⟨rfl, rfl, rfl⟩
    | true =>
      obtain ⟨settling, recessive, -⟩ := h.settling (.inl rfl)
      rw [not_inFlight_of_settling settling]
      exact ⟨settling, recessive, rfl⟩
  have taken : s.takeRollEnd .stuck order = State.endBlocks
      (((s.endConflictRun.endSend.endRecv).setRoll
        (s.endConflictRun.endSend.endRecv.roll.finish s.inFlight .stuck (s.endValid .stuck))).setStn
        { s.endConflictRun.endSend.endRecv.stn with silence := 0 }) .stuck (s.endValid .stuck) order := if_pos occurs
  change StuckStage locked reported true (s.takeRollEnd .stuck order).settle
  rw [taken]
  generalize s.endConflictRun.endSend.endRecv = u at before finished ⊢
  generalize u.roll.finish s.inFlight .stuck (s.endValid .stuck) = roll at finished ⊢
  obtain ⟨settling, recessive, due⟩ := finished
  obtain ⟨frame, mark⟩ := endBlocks_rolls ((u.setRoll roll).setStn { u.stn with silence := 0 }) .stuck
    (s.endValid .stuck) order
  refine StuckStage.settle ⟨frame.armed.trans (before.armed.trans h.armed),
    fun e => frame.released (before.released (h.drive e)), fun _ => nofun, fun _ => ?_, fun _ => mark,
    fun e l => frame.locked (before.locked (h.state e l)), fun e l => frame.events 6 (before.events 6 (h.event e l))⟩
  rw [frame.roll]
  exact ⟨settling, recessive, by simpa using due⟩

theorem StuckStage.fireRollEnd (h : StuckStage locked reported false s) :
    StuckStage locked reported true (s.fireRollEnd .stuck) := by
  unfold State.fireRollEnd
  split
  · exact h.rollEnd _
  · exact (h.setFree _).rollEnd _

/-! #### Things of one instant -/

/-- One of two things is taken first. -/
theorem inFreeOrder_two (f g : State → State) (n : Nat) (s : State) :
    inFreeOrder (n + 1) [f, g] s = g (f (s.setFree (s.free + 1))) ∨
      inFreeOrder (n + 1) [f, g] s = f (g (s.setFree (s.free + 1))) := by
  have choice : Config.orderChoice s.free % 2 = 0 ∨ Config.orderChoice s.free % 2 = 1 := by omega
  unfold inFreeOrder
  dsimp only [List.length]
  obtain e | e := choice
  all_goals rw [e]
  · exact .inl (inFreeOrder_one n g _)
  · exact .inr (inFreeOrder_one n f _)

/-- One of three things is taken first, and then the others. -/
theorem inFreeOrder_three (f g h : State → State) (n : Nat) (s : State) :
    inFreeOrder (n + 1) [f, g, h] s = inFreeOrder n [g, h] (f (s.setFree (s.free + 1))) ∨
      inFreeOrder (n + 1) [f, g, h] s = inFreeOrder n [f, h] (g (s.setFree (s.free + 1))) ∨
      inFreeOrder (n + 1) [f, g, h] s = inFreeOrder n [f, g] (h (s.setFree (s.free + 1))) := by
  have choice : Config.orderChoice s.free % 3 = 0 ∨ Config.orderChoice s.free % 3 = 1 ∨
      Config.orderChoice s.free % 3 = 2 := by omega
  rw [inFreeOrder]
  dsimp only [List.length]
  obtain e | e | e := choice
  all_goals rw [e]
  · exact .inl rfl
  · exact .inr (.inl rfl)
  · exact .inr (.inr rfl)

/-- In every order the report, the notice end and the roll end come to the same stage. -/
theorem StuckStage.all (h : StuckStage locked false false s) : StuckStage locked true true s.stuckBit := by
  have start := h.setFree (s.free + 1)
  have pair {f g : State → State} {u : State}
      (first : ∀ n, StuckStage locked true true (g (f (u.setFree n))))
      (second : ∀ n, StuckStage locked true true (f (g (u.setFree n)))) :
      StuckStage locked true true (inFreeOrder 2 [f, g] u) := by
    obtain e | e := inFreeOrder_two f g 1 u
    all_goals rw [e]
    · exact first _
    · exact second _
  unfold State.stuckBit
  rw [if_pos (h.flight rfl rfl)]
  obtain e | e | e := inFreeOrder_three (fun t => t.fire .stuckLine) State.stuckNotice (fun t => t.fireRollEnd .stuck) 2 s
  all_goals
    rw [e]
    refine pair (fun n => ?_) (fun n => ?_)
  · exact (start.report.setFree n).notice.fireRollEnd
  · exact (start.report.setFree n).fireRollEnd.notice
  · exact (start.notice.setFree n).report.fireRollEnd
  · exact (start.notice.setFree n).fireRollEnd.report
  · exact (start.fireRollEnd.setFree n).report.notice
  · exact (start.fireRollEnd.setFree n).notice.report

end

end Sys2Proof.Machine

namespace Sys2Proof.Machine

/-! ### A bit's value becomes known (R2, R17, R18) -/

section
variable (s : State)

/-- The report of a mismatch is that of the table of R18. -/
theorem report_eq (d v : Level) : s.report d v = reportOf s d v := by
  unfold State.report reportOf State.phaseAt
  cases d with
  | dominant =>
    cases v with
    | dominant => rfl
    | recessive => by_cases rolling : s.roll.state = .inRoll <;> simp [rolling]
  | recessive =>
    cases v with
    | recessive => rfl
    | dominant =>
      by_cases rolling : s.roll.state = .inRoll
      · by_cases hold : s.roll.position + 1 ≤ s.numUnits
        · simp [rolling, hold]
        · by_cases claim : s.roll.position + 1 ≤ s.numUnits + 10
          · simp [rolling, hold, claim]
          · by_cases take : s.roll.position + 1 ≤ 2 * s.numUnits + 10
            · simp [rolling, hold, claim, take]
            · simp only [rolling, hold, claim, take, if_false, if_true, ne_eq, not_true_eq_false, reduceCtorEq]
              by_cases flag : s.roll.position + 1 = 2 * s.numUnits + 11
              · rw [if_pos flag, if_pos flag]
              · rw [if_neg flag, if_neg flag]
      · simp [rolling]

/-- A report is a DRIVE report, a lost arbitration or a conflict (R18). -/
theorem reportOf_cases {d v : Level} {i : Instr} (h : reportOf s d v = some i) :
    (∃ phase q, i = .driveReport phase q) ∨ (∃ j, i = .arbitrationLost j) ∨ ∃ phase, i = .conflict phase := by
  unfold reportOf at h
  dsimp only at h
  split at h
  · cases h
  · split at h
    · split at h
      · exact .inl ⟨_, _, (Option.some.inj h).symm⟩
      · cases h
    · split at h
      · exact .inl ⟨_, _, (Option.some.inj h).symm⟩
      · split at h
        · cases h
        · split at h
          · exact .inr (.inl ⟨_, (Option.some.inj h).symm⟩)
          · exact .inr (.inr ⟨_, (Option.some.inj h).symm⟩)

theorem faultDrive_rolls (c : Option Chan) : RollFrame s (s.faultDrive c) :=
  incident_depart_rolls s _ c _ _ _ (by decide)

theorem faultClash_rolls : RollFrame s s.faultClash := incident_depart_rolls s _ none _ _ _ (by decide)

theorem RollFrame.state {s t : State} (h : RollFrame s t) : t.roll.state = s.roll.state := by
  rw [h.roll]

theorem takeDriveReport_state (phase : Phase) (q : Nat) :
    (s.takeDriveReport phase q).roll.state = s.roll.state := by
  obtain ⟨roll, -⟩ := driveReported_blocks s phase
  unfold State.takeDriveReport
  split
  · change ((s.driveReported phase).faultDrive _).roll.state = _
    rw [(faultDrive_rolls _ _).state, roll, driveReport_state]
  · rfl

theorem takeConflict_state (phase : OwnPhase) : (s.takeConflict phase).roll.state = s.roll.state := by
  have effects : (s.conflictEffects phase).roll.state = s.roll.state := rfl
  unfold State.takeConflict
  split
  · dsimp only
    split
    · rw [(faultClash_rolls _).state, effects]
    · exact effects
  · rfl

theorem takeArbitrationLost_roll (j : Nat) : (s.takeArbitrationLost j).roll = s.roll := by
  unfold State.takeArbitrationLost
  split <;> rfl

/-- No report moves the Roll Tracker out of its state. -/
theorem readback_state (v : Level) : (s.readback v).roll.state = s.roll.state := by
  unfold State.readback
  split
  · rfl
  · split
    · rename_i d _ i report
      rw [report_eq] at report
      obtain ⟨phase, q, rfl⟩ | ⟨j, rfl⟩ | ⟨phase, rfl⟩ := reportOf_cases s report
      · exact (settle_rolls _).state.trans (takeDriveReport_state s phase q)
      · exact congrArg RollTracker.state (takeArbitrationLost_roll s j)
      · exact (settle_rolls _).state.trans (takeConflict_state s phase)
    · rfl

theorem stuckNow_iff (v : Level) : s.stuckNow v = true ↔ StuckBit s v := by
  simp [State.stuckNow, StuckBit, and_assoc]

/-- The stage at which a stuck line finds a roll in flight. -/
theorem stuckStage_start {v : Level} (stuck : StuckBit s v) (flight : s.roll.state ∈ [.inRoll, .trailing]) :
    StuckStage (s.stn.state ≠ .config) false false s := by
  obtain ⟨-, -, armed⟩ := stuck
  exact ⟨armed, nofun, fun _ _ => (inFlight_iff s).2 flight, fun e => by simp at e, nofun, fun _ => id, nofun⟩

/-- The state in which a bit is compared: its value written. -/
def State.valued (s : State) (v : Level) : State := s.setLine { s.line with value := v }

theorem readLine_cases (v : Level) : s.readLine v = (s.valued v).readback v ∧ ¬ StuckBit ((s.valued v).readback v) v ∨
    s.readLine v = ((s.valued v).readback v).stuckBit ∧ StuckBit ((s.valued v).readback v) v := by
  change (if ((s.valued v).readback v).stuckNow v = true then _ else _) = _ ∧ _ ∨ _
  by_cases stuck : StuckBit ((s.valued v).readback v) v
  · have now := (stuckNow_iff _ v).2 stuck
    exact .inr ⟨if_pos now, stuck⟩
  · have notNow := fun now => stuck ((stuckNow_iff _ v).1 now)
    exact .inl ⟨if_neg notNow, stuck⟩

/-- The third sample's part of the bit time, or that of a bit time that ends before it, by R2, R17 and R18. -/
theorem readLine_reads (v : Level) : ReadsBit s v (s.readLine v) := by
  refine ⟨(s.valued v).readback v, ?_, fun quiet => ?_, fun stuck away => ?_, fun stuck flight => ?_⟩
  · unfold State.readback
    change (match s.line.drive.bind fun d => reportOf s d v with | none => _ | some i => _)
    cases drive : s.line.drive with
    | none =>
      have undriven : (s.valued v).line.drive = none := drive
      rw [undriven]
      rfl
    | some d =>
      have driven : (s.valued v).line.drive = some d := drive
      have report : (s.valued v).report d v = reportOf s d v := report_eq (s.valued v) d v
      rw [driven]
      simp only [Option.bind_some, report]
      cases reportOf s d v with
      | none => rfl
      | some i => exact exec_eq_fire i _
  · obtain ⟨e, -⟩ | ⟨-, stuck⟩ := readLine_cases s v
    · exact e
    · exact absurd stuck quiet
  · obtain ⟨-, quiet⟩ | ⟨e, -⟩ := readLine_cases s v
    · exact absurd stuck quiet
    · rw [e, exec_eq_fire]
      unfold State.stuckBit
      rw [if_neg fun flight => away ((inFlight_iff _).1 flight)]
  · obtain ⟨-, quiet⟩ | ⟨e, -⟩ := readLine_cases s v
    · exact absurd stuck quiet
    · rw [e]
      have done := (stuckStage_start _ stuck flight).all
      obtain ⟨settling, recessive, due⟩ := done.settling (.inl rfl)
      exact ⟨settling, recessive, due, done.armed, done.drive rfl, done.mark rfl, done.event rfl⟩

/-- A line that is followed stays followed when a bit is read. -/
theorem readLine_on {v : Level} (on : s.roll.state ≠ .off) : (s.readLine v).roll.state ≠ .off := by
  have compared : ((s.valued v).readback v).roll.state ≠ .off := by
    rw [readback_state]
    exact on
  obtain ⟨e, -⟩ | ⟨e, stuck⟩ := readLine_cases s v
  all_goals rw [e]
  · exact compared
  · by_cases flight : ((s.valued v).readback v).roll.state ∈ [.inRoll, .trailing]
    · obtain ⟨settling, -, -⟩ := (stuckStage_start _ stuck flight).all.settling (.inl rfl)
      simp [settling]
    · unfold State.stuckBit
      rw [if_neg fun h => flight ((inFlight_iff _).1 h)]
      change (State.takeStuckLine _).settle.roll.state ≠ .off
      rw [(settle_rolls _).state, takeStuckLine_armed _ compared stuck.2.2]
      exact nofun

end

/-! ### One CLK period of the line -/

section
variable {s : State} {p : Pins} {rest : List Pins}

/-- The state with the period's pins drawn. -/
def drawn (s : State) (p : Pins) (rest : List Pins) : State := (s.setInputs rest).setPins p

/-- Such a period takes the line's event, with the bit time advanced and the divider counted. -/
theorem step_line (h : LinePeriod s p rest) : step s =
    .next ((((drawn s p rest).advanceBit ((drawn s p rest).lineEvent s.pins.shr)).setClock { s.clock with
      sub := s.clock.sub + 1 }).takeEvents ((drawn s p rest).lineRows ((drawn s p rest).lineEvent s.pins.shr))) := by
  obtain ⟨empty, inputs, rstn, csn, high, sub, -⟩ := h
  have clock (t : State) (e : LineEvent) : (t.advanceBit e).clock = t.clock := by
    unfold State.advanceBit
    dsimp only
    split
    · split <;> rfl
    · split <;> rfl
    · rfl
    · rfl
  have base (e : LineEvent) : ((drawn s p rest).advanceBit e).timeBase =
      ([], ((drawn s p rest).advanceBit e).setClock { s.clock with sub := s.clock.sub + 1 }) := by
    unfold State.timeBase
    rw [clock]
    exact if_neg sub
  rw [step_empty empty, tick_steady inputs rstn csn high]
  change Host.Outcome.next (State.takeEvents (((drawn s p rest).advanceBit _).timeBase).2
    (_ ++ List.map TickEvent.row (((drawn s p rest).advanceBit _).timeBase).1)) = _
  rw [base]
  simp only [List.map_nil, List.append_nil]
  rfl

theorem bitValue_eq (l : List Level) : majority l = bitValue l := rfl

/-- The line's event by the period's place in the bit time (R2, R3). -/
theorem lineEvent_eq (on : s.roll.state ≠ .off) : (drawn s p rest).lineEvent s.pins.shr =
    if bitLength s ≤ s.line.phase + 1 then s.line.closing (decide (Edge s p))
    else if Edge s p then
      if 2 * (s.line.phase + 1) < bitLength s then .restart else s.line.closing true
    else if 5 * (s.line.phase + 1) = 3 * bitLength s then .read (bitValue (s.line.samples ++ [p.shr]))
    else .quiet := by
  have edge : (s.pins.shr == .recessive && p.shr == .dominant) = decide (Edge s p) := by
    unfold Edge
    cases s.pins.shr <;> cases p.shr <;> rfl
  have whole : (drawn s p rest).bitClks = bitLength s := bitClks_eq _
  unfold State.lineEvent
  rw [whole]
  change (if s.roll.state = .off then _ else if bitLength s ≤ s.line.phase + 1 then
    s.line.closing (s.pins.shr == .recessive && p.shr == .dominant) else
    if (s.pins.shr == .recessive && p.shr == .dominant) = true then _ else _) = _
  rw [if_neg on, edge]
  simp only [decide_eq_true_eq]
  rfl

/-- A bit time that ends does so with the value of its third sample, or with that of the samples taken (R3). -/
theorem closing_eq (l : LineIf) (edge : Bool) : l.closing edge =
    .close (if l.samples.length < 3 then bitValue l.samples else l.value) (decide (l.samples.length < 3)) edge := by
  unfold LineIf.closing
  split <;> rename_i few <;> simp [few, bitValue_eq]

theorem step_restart (h : LinePeriod s p rest) (short : s.line.phase + 1 < bitLength s) (edge : Edge s p)
    (early : 2 * (s.line.phase + 1) < bitLength s) :
    step s = if s.roll.state = .idle then exec .candidateOpen (bitBegun s p rest) else .next (bitBegun s p rest) := by
  have on := h.2.2.2.2.2.2
  rw [step_line h, lineEvent_eq on, if_neg (by omega), if_pos edge, if_pos early, exec_eq_fire]
  change Host.Outcome.next (State.takeEvents _ (if s.roll.state = .idle then _ else _)) = _
  split <;> rfl

theorem step_sample (h : LinePeriod s p rest) (short : s.line.phase + 1 < bitLength s) (noEdge : ¬ Edge s p) :
    step s = .next (State.takeEvents
      (if 5 * (s.line.phase + 1) = 2 * bitLength s ∨ 2 * (s.line.phase + 1) = bitLength s ∨
          5 * (s.line.phase + 1) = 3 * bitLength s
        then { afterPeriod s p rest with
          line := { s.line with phase := s.line.phase + 1, samples := s.line.samples ++ [p.shr] } }
        else afterPeriod s p rest)
      (if 5 * (s.line.phase + 1) = 3 * bitLength s
        then [.line (.read (bitValue (s.line.samples ++ [p.shr])))] else [])) := by
  have on := h.2.2.2.2.2.2
  have whole : (drawn s p rest).bitClks = bitLength s := bitClks_eq _
  have point : samplePoint (bitLength s) (s.line.phase + 1) = true ↔ 5 * (s.line.phase + 1) = 2 * bitLength s ∨
      2 * (s.line.phase + 1) = bitLength s ∨ 5 * (s.line.phase + 1) = 3 * bitLength s := by
    simp [samplePoint, or_assoc]
  have advanced (e : LineEvent) (calm : e = .quiet ∨ ∃ v, e = .read v) :
      ((drawn s p rest).advanceBit e).setClock { s.clock with sub := s.clock.sub + 1 } =
        if samplePoint (bitLength s) (s.line.phase + 1) = true
        then { afterPeriod s p rest with
          line := { s.line with phase := s.line.phase + 1, samples := s.line.samples ++ [p.shr] } }
        else afterPeriod s p rest := by
    have moved : (drawn s p rest).advanceBit e = (drawn s p rest).setLine { s.line with
        phase := s.line.phase + 1
        samples := if samplePoint (bitLength s) (s.line.phase + 1) = true
          then s.line.samples ++ [p.shr] else s.line.samples } := by
      unfold State.advanceBit
      rw [whole]
      obtain rfl | ⟨v, rfl⟩ := calm
      · exact if_neg on
      · exact if_neg on
    rw [moved]
    unfold afterPeriod
    rw [if_neg on]
    split <;> rfl
  rw [step_line h, lineEvent_eq on, if_neg (by omega), if_neg noEdge]
  simp only [← point]
  by_cases third : 5 * (s.line.phase + 1) = 3 * bitLength s
  · rw [if_pos third, if_pos third, advanced _ (.inr ⟨_, rfl⟩)]
    rfl
  · rw [if_neg third, if_neg third, advanced _ (.inl rfl)]
    rfl

/-- The period in which a bit time ends. -/
theorem step_close (h : LinePeriod s p rest)
    (ends : bitLength s ≤ s.line.phase + 1 ∨ Edge s p ∧ bitLength s ≤ 2 * (s.line.phase + 1)) :
    step s = .next ((bitBegun s p rest).takeLine (.close
      (if s.line.samples.length < 3 then bitValue s.line.samples else s.line.value)
      (decide (s.line.samples.length < 3)) (decide (Edge s p)))) := by
  have on := h.2.2.2.2.2.2
  have event : (drawn s p rest).lineEvent s.pins.shr = s.line.closing (decide (Edge s p)) := by
    rw [lineEvent_eq on]
    by_cases whole : bitLength s ≤ s.line.phase + 1
    · exact if_pos whole
    · obtain ⟨edge, late⟩ := ends.resolve_left whole
      rw [if_neg whole, if_pos edge, if_neg (by omega), decide_eq_true edge]
  rw [step_line h, event, closing_eq]
  rfl

end

end Sys2Proof.Machine

namespace Sys2Proof.Machine

section
variable (s : State)

/-! ### The counts of a bit's end (R5, R17, R141) -/

/-- The dominant run and the silence timer count, on a line that is followed. -/
theorem counts_eq (v : Level) (on : s.roll.state ≠ .off) : (s.countRun v).silenceReads v = bitCounted s v := by
  cases v with
  | dominant =>
    refine eq_of_blocks rfl ?_ rfl rfl rfl rfl rfl rfl rfl rfl rfl rfl rfl rfl
    simp [bitCounted, State.silenceReads, State.countRun]
  | recessive =>
    unfold State.silenceReads
    dsimp only
    by_cases last : s.stn.silence = 511
    · have ends : (s.countRun .recessive).stn.silence + 1 = Config.silenceEnd := by
        change s.stn.silence + 1 = 512
        omega
      have taken : (s.countRun .recessive).takeSilenceExpiry = _ := if_pos on
      rw [if_pos ends]
      change (s.countRun .recessive).takeSilenceExpiry = _
      rw [taken]
      refine eq_of_blocks rfl ?_ rfl rfl rfl rfl rfl ?_ rfl rfl rfl rfl rfl rfl
      · by_cases joining : s.stn.state = .joining <;>
          simp [bitCounted, State.countRun, last, joining]
      · simp [bitCounted, State.countRun, last, Config.silenceEnd]
    · have goesOn : ¬ (s.countRun .recessive).stn.silence + 1 = Config.silenceEnd := by
        change ¬ s.stn.silence + 1 = 512
        omega
      rw [if_neg goesOn]
      refine eq_of_blocks rfl ?_ rfl rfl rfl rfl rfl ?_ rfl rfl rfl rfl rfl rfl
      · simp [bitCounted, State.countRun, last]
      · simp [bitCounted, State.countRun, Config.silenceEnd]

/-! ### The Roll Tracker's step -/

theorem fireRollEnd_ends (cause : RollEndCause) : RollEnds s cause (s.fireRollEnd cause) := by
  unfold State.fireRollEnd RollEnds
  constructor
  · intro none
    rw [none, exec_eq_fire]
    rfl
  · intro pending
    cases request : s.stn.request with
    | none => exact absurd request pending
    | some q => exact ⟨freeOrder s.free, exec_eq_fire _ _⟩

theorem phaseEvent_bit (last : Nat) (i : Instr) :
    PhaseBit s last i (s.phaseEvent (s.roll.position + 1) last i) := by
  unfold PhaseBit State.phaseEvent
  split
  · exact exec_eq_fire i s
  · rfl

theorem keepSlot_eq (l : List Nat) (k : Nat) (v : Level) :
    keepSlot l k v = l ++ if v = .dominant then [k] else [] := by
  unfold keepSlot
  split
  · rfl
  · rw [List.append_nil]

/-- A claim bit joins the word read at its low end (R9, R174). -/
theorem keepClaim_eq (w : BitVec 10) (v : Level) :
    keepClaim w v = BitVec.ofNat 10 (2 * w.toNat + if v = .recessive then 1 else 0) := by
  have shifted (bit : Bool) (i : Nat) (lt : i < 10) :
      ((w <<< 1) ||| (if bit = true then 1 else 0)).getLsbD i =
        (2 * w.toNat + if bit = true then 1 else 0).testBit i := by
    cases i with
    | zero => cases bit <;> simp
    | succ i =>
      have half : (2 * w.toNat + if bit = true then 1 else 0) / 2 = w.toNat := by
        cases bit
        · simp
        · simp only [if_true]
          omega
      rw [Nat.testBit_succ, half, BitVec.testBit_toNat, BitVec.getLsbD_or, BitVec.getLsbD_shiftLeft]
      cases bit <;> simp [lt, -BitVec.getLsbD_eq_getElem]
  refine BitVec.eq_of_getLsbD_eq fun i lt => ?_
  have joined := shifted (decide (v = .recessive)) i lt
  simp only [decide_eq_true_eq] at joined
  rw [BitVec.getLsbD_ofNat, decide_eq_true lt, Bool.true_and]
  exact joined

/-! #### The bits of a notice (R11 to R13) -/

/-- The bits of a character's byte are its data bits as read (R11). -/
theorem charData_bit (bits : List Level) {k : Nat} (lt : k < 8) :
    (charData bits).getLsbD k = true ↔ bits[k + 1]? = some .recessive := by
  have gathered (l : List Nat) (b : Byte) : (l.foldl (fun b i =>
      if (bits[i + 1]?) = some .recessive then b ||| BitVec.twoPow 8 i else b) b).getLsbD k = true ↔
      b.getLsbD k = true ∨ k ∈ l ∧ bits[k + 1]? = some .recessive := by
    induction l generalizing b with
    | nil => simp
    | cons i l ih =>
      rw [List.foldl_cons, ih, List.mem_cons]
      by_cases same : k = i
      · subst same
        by_cases high : bits[k + 1]? = some .recessive <;> simp [high, lt]
      · have other : ¬ i = k := fun e => same e.symm
        by_cases high : bits[i + 1]? = some .recessive <;> simp [high, same, other]
  unfold charData
  rw [gathered]
  simp [lt]

theorem noticeEnd_moves (form : NoticeForm) (rolling : s.roll.state = .inRoll)
    (moving : form = .damaged ∨ form = .cut) :
    ((s.fire (.noticeEnd form)).roll.state = .inRoll ∨
      (s.fire (.noticeEnd form)).roll.state = .trailing ∧ (s.fire (.noticeEnd form)).roll.recessive = 1) := by
  change (s.takeNoticeEnd form).settle.roll.state = _ ∨ (s.takeNoticeEnd form).settle.roll.state = _ ∧
    (s.takeNoticeEnd form).settle.roll.recessive = _
  rw [settle_roll]
  obtain e | marks := takeNoticeEnd_cases s form
  · rw [e]
    exact .inl rolling
  · rw [marks.roll]
    obtain rfl | rfl := moving <;> exact .inr ⟨rfl, rfl⟩

/-- A notice stopped at a start bit read recessive: its end, and TRAILING with its first recessive bit time (R13). -/
theorem stopNotice_bit (rolling : s.roll.state = .inRoll) : ∃ f,
    (if s.roll.parsing = true then
        exec (.noticeEnd (if s.roll.header = some .damaged then .damaged else .cut)) s = .next f
      else f = s) ∧ s.stopNotice = { f with roll := { f.roll with state := .trailing, recessive := 1 } } := by
  have moving : (if s.roll.header = some .damaged then NoticeForm.damaged else .cut) = .damaged ∨
      (if s.roll.header = some .damaged then NoticeForm.damaged else .cut) = .cut := by
    split
    · exact .inl rfl
    · exact .inr rfl
  unfold State.stopNotice
  dsimp only
  generalize (if s.roll.header = some .damaged then NoticeForm.damaged else .cut) = form at moving ⊢
  have tracked (f : State) (state : f.roll.state = .inRoll ∨ f.roll.state = .trailing ∧ f.roll.recessive = 1) :
      (if f.roll.state = .inRoll then f.setRoll (f.roll.noticeEnd form) else f) =
        { f with roll := { f.roll with state := .trailing, recessive := 1 } } := by
    obtain rolling | ⟨trailing, first⟩ := state
    · rw [if_pos rolling]
      obtain rfl | rfl := moving <;> rfl
    · rw [if_neg (by simp [trailing]), ← trailing, ← first]
  by_cases parsing : s.roll.parsing = true
  · refine ⟨s.fire (.noticeEnd form), ?_, ?_⟩
    · rw [if_pos parsing]
      exact exec_eq_fire _ s
    · rw [if_pos parsing]
      exact tracked _ (noticeEnd_moves s form rolling moving)
  · refine ⟨s, ?_, ?_⟩
    · rw [if_neg parsing]
    · rw [if_neg parsing]
      exact tracked s (.inl rolling)

/-- The end of a whole notice and of its roll (R12, log 6). -/
theorem endWithNotice_ends : (s.roll.parsing = false → RollEnds s .check s.endWithNotice) ∧
    (s.roll.parsing = true →
      (∃ g, exec (.noticeEnd .complete) { s with free := s.free + 1 } = .next g ∧ RollEnds g .check s.endWithNotice) ∨
      (∃ g, RollEnds { s with free := s.free + 1 } .check g ∧ exec (.noticeEnd .complete) g = .next s.endWithNotice)) := by
  unfold State.endWithNotice
  refine ⟨fun ended => ?_, fun parsing => ?_⟩
  · rw [if_neg (by simp [ended])]
    exact fireRollEnd_ends s .check
  · rw [if_pos parsing]
    obtain e | e := inFreeOrder_two (fun t => t.fire (.noticeEnd .complete)) (fun t => t.fireRollEnd .check) 1 s
    all_goals rw [e]
    · exact .inl ⟨_, exec_eq_fire _ _, fireRollEnd_ends _ .check⟩
    · exact .inr ⟨_, fireRollEnd_ends _ .check, exec_eq_fire _ _⟩

theorem endCharacter_ends (i : Nat) (bits : List Level) : CharacterEnds s i bits (s.endCharacter i bits) := by
  have framing : (bits[10]? == some .dominant) = decide (bits[10]? = some .dominant) := by
    rw [Bool.eq_iff_iff, beq_iff_eq, decide_eq_true_eq]
  have marker : (bits[9]? == some (if i = 0 then Level.dominant else .recessive)) =
      decide (bits[9]? = some (if i = 0 then .dominant else .recessive)) := by
    rw [Bool.eq_iff_iff, beq_iff_eq, decide_eq_true_eq]
  unfold CharacterEnds State.endCharacter
  dsimp only
  rw [framing, marker]
  generalize decide (bits[10]? = some Level.dominant) = framed
  generalize decide (bits[9]? = some (if i = 0 then Level.dominant else .recessive)) = marked
  generalize tracked : (if s.roll.parsing = true then s.fire (.noticeCharacter i (charData bits) framed marked)
    else s.trackCharacter i (charData bits) framed marked) = f
  refine ⟨charData bits, f, fun k lt => charData_bit bits lt, ?_, fun more => ?_, fun l header last => ?_⟩
  · rw [← tracked]
    split
    · exact exec_eq_fire _ s
    · rfl
  · split
    · rename_i l header
      exact if_neg (more l header)
    · rfl
  · rw [header]
    dsimp only
    rw [if_pos last]
    exact endWithNotice_ends f

theorem noticeBit_steps (n : Nat) (v : Level) (rolling : s.roll.state = .inRoll) :
    NoticeBit s n v (s.noticeBit n v) := by
  unfold State.noticeBit
  refine ⟨fun start low => ?_, fun start high => ?_, fun after before => ?_, fun stop => ?_⟩
  · subst low
    rw [if_pos start]
    rfl
  · subst high
    rw [if_pos start]
    exact stopNotice_bit s rolling
  · rw [if_neg (by omega), if_neg (by omega)]
    rfl
  · rw [if_neg (by omega), if_pos stop]
    exact endCharacter_ends s _ _

/-! #### One position of a roll (R9) -/

section
variable {s} {q : Nat}

theorem phaseAt_hold (low : q ≤ s.numUnits) : s.phaseAt q = .hold := if_pos low

theorem phaseAt_claim (past : s.numUnits < q) (low : q ≤ s.numUnits + 10) : s.phaseAt q = .claim := by
  unfold State.phaseAt
  rw [if_neg (by omega), if_pos low]

theorem phaseAt_take (past : s.numUnits + 10 < q) (low : q ≤ 2 * s.numUnits + 10) : s.phaseAt q = .take := by
  unfold State.phaseAt
  rw [if_neg (by omega), if_neg (by omega), if_pos low]

theorem phaseAt_flag (last : q = 2 * s.numUnits + 11) : s.phaseAt q = .flag := by
  unfold State.phaseAt
  rw [if_neg (by omega), if_neg (by omega), if_neg (by omega), if_pos last]

theorem phaseAt_notice (past : 2 * s.numUnits + 12 ≤ q) : s.phaseAt q = .notice := by
  unfold State.phaseAt
  rw [if_neg (by omega), if_neg (by omega), if_neg (by omega), if_neg (by omega)]

end

theorem flagBit_steps (q : Nat) (v : Level) : ∃ f,
    (if s.roll.parsing = true then exec (.flagReading v) s = .next f
      else f = { s with roll := { s.roll with position := q, flag := some v } }) ∧
    (v = .dominant → s.flagBit q v = f) ∧ (v = .recessive → RollEnds f .flag (s.flagBit q v)) := by
  unfold State.flagBit
  refine ⟨_, ?_, fun low => if_neg (by simp [low]), fun high => ?_⟩
  · split
    · exact exec_eq_fire _ s
    · rfl
  · dsimp only
    rw [if_pos high]
    exact fireRollEnd_ends _ .flag

theorem rollBit_steps (v : Level) (rolling : s.roll.state = .inRoll) : RollBit s v (s.rollBit v) := by
  unfold State.rollBit
  dsimp only
  refine ⟨fun hold => ?_, fun past claim => ?_, fun past take => ?_, fun flag => ?_, fun notice => ?_⟩
  · rw [phaseAt_hold hold, ← keepSlot_eq]
    exact phaseEvent_bit _ _ _
  · rw [phaseAt_claim past claim, ← keepClaim_eq]
    exact phaseEvent_bit _ _ _
  · rw [phaseAt_take past take, ← keepSlot_eq]
    exact phaseEvent_bit _ _ _
  · rw [phaseAt_flag flag]
    exact flagBit_steps s _ v
  · rw [phaseAt_notice notice]
    exact noticeBit_steps s _ v rolling

/-- A step that waits for a count of 12 waits below it, and takes its event at it (R4, R5, R13). -/
theorem waits_for_gap {n : Nat} {r t : State} {event : State → Prop} (taken : event t) :
    if n < 12 then (if Config.gapBits ≤ n then t else r) = r else event (if Config.gapBits ≤ n then t else r) := by
  by_cases more : n < 12
  · rw [if_pos more]
    exact if_neg (Nat.not_le.2 more)
  · have full : Config.gapBits ≤ n := Nat.not_lt.1 more
    rw [if_neg more, if_pos full]
    exact taken

theorem trackerBit_steps (run : Nat) (v : Level) : TrackerBit s run v (s.trackerBit run v) := by
  unfold TrackerBit State.trackerBit
  cases state : s.roll.state with
  | off => rfl
  | settling =>
    cases v with
    | dominant => rfl
    | recessive => exact waits_for_gap (event := fun t => exec .settlingEnd _ = .next t) (exec_eq_fire _ _)
  | idle => cases v <;> rfl
  | opening =>
    cases v with
    | dominant =>
      by_cases short : run + 1 < 7
      · exact (if_pos short).mpr (if_neg (Nat.not_le.2 short))
      · exact (if_neg short).mpr ((exec_eq_fire _ _).trans (congrArg _ (if_pos (Nat.not_lt.1 short)).symm))
    | recessive =>
      refine (exec_eq_fire _ s).trans (congrArg _ ?_)
      by_cases noise : run ≤ 2
      · simp [noise]
      · by_cases start : run ≤ 6
        · have short : run < Config.malformedRun := Nat.lt_succ_of_le start
          simp [noise, start, short]
        · have long : ¬ run < Config.malformedRun := fun short => start (Nat.le_of_lt_succ short)
          simp [noise, start, long]
  | inRoll => exact rollBit_steps s v state
  | trailing =>
    cases v with
    | dominant => rfl
    | recessive => exact waits_for_gap (event := RollEnds _ .trailing) (fireRollEnd_ends _ _)

/-! ### The next bit (R10, R16) -/

/-- A station that is not ready to open takes no OPEN_ROLL. -/
theorem fire_openRoll_waits (h : ¬ s.openReady = true) : s.fire .openRoll = s := if_neg h

/-- A bit's end takes OPEN_ROLL, which does nothing for a station that is not ready. -/
theorem boundary_eq : s.boundary =
    ((s.setRoll { s.roll with openLeft := s.roll.openLeft - 1 }).fire .openRoll).nextDrive := by
  unfold State.boundary
  dsimp only
  split
  · rfl
  · rename_i waits
    rw [fire_openRoll_waits _ waits]

theorem nextDrive_eq : s.nextDrive = { s with line := { s.line with
    drive := if 0 < s.roll.openLeft ∧ s.stn.state ∈ [.active, .joining] then some .dominant
      else s.driveAt (s.roll.position + 1) } } := by
  unfold State.nextDrive
  simp only [mayOpen_iff]
  rfl

theorem boundary_next : NextBit s s.boundary :=
  ⟨_, exec_eq_fire _ _, (boundary_eq s).trans (nextDrive_eq _)⟩

end

end Sys2Proof.Machine

namespace Sys2Proof.Machine

/-! ### A bit time from its samples to its end (R2 to R20) -/

section
variable {s : State}

/-- At a bit's end the counts go on, the Roll Tracker takes its step and the next bit is driven (log 7, log 26). -/
theorem closeBit_eq (v : Level) (on : s.roll.state ≠ .off) :
    s.closeBit v = ((bitCounted s v).trackerBit s.line.domRun v).boundary := by
  unfold State.closeBit
  rw [counts_eq s v on]

/-! #### A bit inside HOLD, CLAIM and TAKE (R9, R10) -/

/-- A position that is not the last of HOLD, CLAIM or TAKE keeps its reading, and the Roll Tracker is one further. -/
theorem rollBit_inside (v : Level) (low : s.roll.position + 1 < 2 * s.numUnits + 10)
    (hold : s.roll.position + 1 ≠ s.numUnits) (claim : s.roll.position + 1 ≠ s.numUnits + 10) :
    ∃ held word taken, s.rollBit v = { s with roll := { s.roll with
      position := s.roll.position + 1, holdRead := held, claimRead := word, takeRead := taken } } := by
  unfold State.rollBit
  dsimp only
  by_cases inHold : s.roll.position + 1 ≤ s.numUnits
  · rw [phaseAt_hold inHold, phaseEvent_inside hold]
    exact ⟨_, _, _, rfl⟩
  · by_cases inClaim : s.roll.position + 1 ≤ s.numUnits + 10
    · rw [phaseAt_claim (by omega) inClaim, phaseEvent_inside claim]
      exact ⟨_, _, _, rfl⟩
    · rw [phaseAt_take (by omega) (by omega), phaseEvent_inside (last := 2 * s.numUnits + 10) (by omega)]
      exact ⟨_, _, _, rfl⟩

theorem trackerBit_inRoll (run : Nat) (v : Level) (rolling : s.roll.state = .inRoll) :
    s.trackerBit run v = s.rollBit v := by
  unfold State.trackerBit
  rw [rolling]

/-- In a roll, with no OPEN pulse left, the next bit is driven by the owner of its phase (R10). -/
theorem boundary_inRoll (rolling : s.roll.state = .inRoll) (left : s.roll.openLeft = 0) :
    s.boundary = { s with line := { s.line with drive := s.driveAt (s.roll.position + 1) } } := by
  have still : s.setRoll { s.roll with openLeft := s.roll.openLeft - 1 } = s := by
    have unchanged : s.roll.openLeft - 1 = s.roll.openLeft := by omega
    rw [unchanged]
    rfl
  have waits : ¬ s.openReady = true := by simp [State.openReady, rolling]
  rw [boundary_eq, still, fire_openRoll_waits _ waits, nextDrive_eq, if_neg (by omega)]

/-- What is driven follows the Roll Tracker's place and what the owners of its phases hold (R10). -/
theorem driveAt_congr {t : State} (q : Nat) (stn : t.stn.state = s.stn.state) (cont : t.cont = s.cont)
    (roll : t.roll.parsing = s.roll.parsing ∧ t.roll.state = s.roll.state)
    (table : t.table = s.table) (notice : t.notice = s.notice) (port : t.port = s.port) :
    t.driveAt q = s.driveAt q := by
  have part : t.takesPart = s.takesPart := by
    simp [State.takesPart, State.isActive, stn, cont, roll]
  have units : t.numUnits = s.numUnits := by simp [State.numUnits, port]
  unfold State.driveAt
  rw [part, units, roll.2, table, cont, notice]

/-- A bit's end inside HOLD, CLAIM or TAKE: the counts, one position further, and the next bit's drive (R9, R10, R17). -/
theorem closeBit_inside (v : Level) (rolling : s.roll.state = .inRoll) (left : s.roll.openLeft = 0)
    (low : s.roll.position + 1 < 2 * s.numUnits + 10) (hold : s.roll.position + 1 ≠ s.numUnits)
    (claim : s.roll.position + 1 ≠ s.numUnits + 10) : ∃ held word taken, s.closeBit v = { bitCounted s v with
      roll := { (bitCounted s v).roll with
        position := s.roll.position + 1, holdRead := held, claimRead := word, takeRead := taken }
      line := { (bitCounted s v).line with drive := s.driveAt (s.roll.position + 2) } } := by
  obtain ⟨held, word, taken, moved⟩ := rollBit_inside (s := bitCounted s v) v low hold claim
  refine ⟨held, word, taken, ?_⟩
  rw [closeBit_eq v (by simp [rolling]), trackerBit_inRoll (s := bitCounted s v) _ v rolling, moved]
  refine (boundary_inRoll (by exact rolling) (by exact left)).trans ?_
  rw [driveAt_congr (s := s) _ rfl rfl ⟨rfl, rfl⟩ rfl rfl rfl]
  rfl

end

/-- Settles O9: what the period leaves is read, counted, stepped and driven, one part after the other. -/
theorem bitEndStepsRollTracker : Obligations.BitEndStepsRollTracker := by
  unfold Obligations.BitEndStepsRollTracker
  intro s p rest period ends
  have on : (bitBegun s p rest).roll.state ≠ .off := period.2.2.2.2.2.2
  have closed (r : State) (v : Level) (on : r.roll.state ≠ .off) : TrackerBit (bitCounted r v) r.line.domRun v
      ((bitCounted r v).trackerBit r.line.domRun v) ∧ NextBit ((bitCounted r v).trackerBit r.line.domRun v)
        (r.closeBit v) := by
    rw [closeBit_eq v on]
    exact ⟨trackerBit_steps _ _ v, boundary_next _⟩
  rw [step_close period ends]
  unfold State.takeLine
  dsimp only
  generalize bitBegun s p rest = b at on ⊢
  by_cases few : s.line.samples.length < 3
  · simp only [few, if_true, decide_true]
    generalize bitValue s.line.samples = v
    obtain ⟨tracked, next⟩ := closed (b.readLine v) v (readLine_on b on)
    refine ⟨v, _, _, _, _, ⟨rfl, readLine_reads b v⟩, tracked, next, ?_, rfl⟩
    by_cases edge : Edge s p
    · simp [edge, exec_eq_fire]
    · simp [edge]
  · simp only [few, if_false, decide_false]
    generalize s.line.value = v
    obtain ⟨tracked, next⟩ := closed b v on
    refine ⟨v, _, _, _, _, ⟨rfl, rfl⟩, tracked, next, ?_, rfl⟩
    by_cases edge : Edge s p
    · simp [edge, exec_eq_fire]
    · simp [edge]

/-- Settles O8: a sample is taken or the bit time restarts, its third sample is compared, and inside a phase the bit's end
is one position further. -/
theorem bitTimeReadsAndDrives : Obligations.BitTimeReadsAndDrives := by
  unfold Obligations.BitTimeReadsAndDrives
  intro s p rest period
  dsimp only
  refine ⟨step_restart period, fun short noEdge other => ?_, fun short noEdge third => ?_, ?_⟩
  · rw [step_sample period short noEdge, if_neg other, takeEvents_nil]
    simp only [other, or_false]
  · rw [step_sample period short noEdge, if_pos third, takeEvents_one, if_pos (.inr (.inr third))]
    exact ⟨_, rfl, readLine_reads _ _⟩
  · intro rolling whole samples left low hold claim noEdge
    have read : ¬ s.line.samples.length < 3 := by omega
    obtain ⟨held, word, taken, closed⟩ :=
      closeBit_inside (s := bitBegun s p rest) s.line.value rolling left low hold claim
    refine ⟨(bitBegun s p rest).closeBit s.line.value, ?_, ?_⟩
    · rw [step_close period (.inl (Nat.le_of_eq whole.symm)), if_neg read, decide_eq_false read, decide_eq_false noEdge]
      rfl
    · rw [closed]
      exact ⟨rolling, rfl, rfl, rfl, driveAt_congr _ rfl rfl ⟨rfl, rfl⟩ rfl rfl rfl, rfl, rfl, rfl, rfl, rfl⟩

end Sys2Proof.Machine

namespace Sys2Proof.Machine

/-! ### Counting the units of a view (R27) -/

section
variable (t : UnitTable) (p : UnitRec → Bool)

/-- The units whose record meets a test are as many as the records that meet it. -/
theorem length_unitsWhere : (t.unitsWhere p).length = t.recs.countP p := by
  have records (l : List UnitRec) : (List.range l.length).countP (fun k => (l[k]?).any p) = l.countP p := by
    induction l with
    | nil => rfl
    | cons r l ih =>
      rw [List.length_cons, List.range_succ_eq_map, List.countP_cons, List.countP_map, List.countP_cons, ← ih]
      rfl
  rw [UnitTable.unitsWhere, ← List.countP_eq_length_filter, records]

theorem nodup_unitsWhere : (t.unitsWhere p).Nodup := List.nodup_range.filter _

/-- A list of different units that all lie in another list is no longer than that list. -/
theorem length_le_of_subset {l m : List Nat} (once : l.Nodup) (sub : l ⊆ m) : l.length ≤ m.length :=
  (List.subperm_of_subset once sub).length_le

/-- Units whose new view meets q are no more than those that met p, where every unit of the one is one of the other. -/
theorem countP_mapViews_le {f : Nat → View → View} {p q : View → Bool}
    (h : ∀ k r, t.recs[k]? = some r → q (f k r.view) = true → p r.view = true) :
    (t.mapViews f).recs.countP (fun r => q r.view) ≤ t.recs.countP (fun r => p r.view) := by
  rw [← length_unitsWhere, ← length_unitsWhere]
  refine length_le_of_subset (nodup_unitsWhere _ _) fun k mem => ?_
  obtain ⟨r', e, new⟩ := (mem_unitsWhere _ _ k).1 mem
  rw [mapViews_record] at e
  obtain ⟨r, record, rfl⟩ := Option.map_eq_some_iff.1 e
  exact (mem_unitsWhere _ _ k).2 ⟨r, record, h k r record new⟩

/-- Units whose new view meets q are as many as those that met p, where the two are the same units. -/
theorem countP_mapViews_eq {f : Nat → View → View} {p q : View → Bool}
    (h : ∀ k r, t.recs[k]? = some r → q (f k r.view) = p r.view) :
    (t.mapViews f).recs.countP (fun r => q r.view) = t.recs.countP (fun r => p r.view) := by
  refine Nat.le_antisymm (countP_mapViews_le t fun k r record new => (h k r record).symm.trans new) ?_
  rw [← length_unitsWhere, ← length_unitsWhere]
  refine length_le_of_subset (nodup_unitsWhere _ _) fun k mem => ?_
  obtain ⟨r, record, old⟩ := (mem_unitsWhere _ _ k).1 mem
  refine (mem_unitsWhere _ _ k).2 ⟨{ r with view := f k r.view }, ?_, (h k r record).trans old⟩
  rw [mapViews_record, record]
  rfl

/-- No unit has the new view. -/
theorem countP_mapViews_zero {f : Nat → View → View} {q : View → Bool}
    (h : ∀ k r, t.recs[k]? = some r → q (f k r.view) = false) :
    (t.mapViews f).recs.countP (fun r => q r.view) = 0 := by
  rw [countP_mapViews_eq t (p := fun _ => false) h]
  simp

/-- Exactly the listed units have the new view. -/
theorem countP_mapViews_list {f : Nat → View → View} {q : View → Bool} {l : List Nat} (once : l.Nodup)
    (inside : ∀ k ∈ l, ∃ r, t.recs[k]? = some r)
    (h : ∀ k r, t.recs[k]? = some r → (q (f k r.view) = true ↔ k ∈ l)) :
    (t.mapViews f).recs.countP (fun r => q r.view) = l.length := by
  rw [← length_unitsWhere]
  refine Nat.le_antisymm (length_le_of_subset (nodup_unitsWhere _ _) fun k mem => ?_)
    (length_le_of_subset once fun k mem => ?_)
  · obtain ⟨r', e, new⟩ := (mem_unitsWhere _ _ k).1 mem
    rw [mapViews_record] at e
    obtain ⟨r, record, rfl⟩ := Option.map_eq_some_iff.1 e
    exact (h k r record).1 new
  · obtain ⟨r, record⟩ := inside k mem
    refine (mem_unitsWhere _ _ k).2 ⟨{ r with view := f k r.view }, ?_, (h k r record).2 mem⟩
    rw [mapViews_record, record]
    rfl

end

/-- How many units are OWN for a channel. -/
def State.owned (s : State) (c : Chan) : Nat := s.table.recs.countP fun r => r.view == .own c

section
variable (s : State) (c d : Chan)

theorem releaseUnits_owned_self : (s.releaseUnits c).owned c = 0 := by
  refine countP_mapViews_zero s.table (q := fun v => v == .own c) fun k r _ => ?_
  by_cases own : r.view = .own c <;> simp [own]

theorem releaseUnits_owned_other (h : d ≠ c) : (s.releaseUnits c).owned d = s.owned d := by
  refine countP_mapViews_eq s.table (p := fun v => v == .own d) (q := fun v => v == .own d) fun k r _ => ?_
  by_cases own : r.view = .own c <;> simp [own, h.symm]

theorem releaseUnits_spareCount : (s.releaseUnits c).table.spareCount = s.table.spareCount := by
  refine countP_mapViews_eq s.table fun k r _ => ?_
  by_cases own : r.view = .own c <;> simp [own, View.isSpare]

theorem returnUnits_owned_self : (s.returnUnits c).owned c = 0 := by
  refine countP_mapViews_zero s.table (q := fun v => v == .own c) fun k r _ => ?_
  by_cases own : r.view = .own c
  · by_cases kept : k ∈ s.keptSpares c <;> simp [own, kept]
  · simp [own]

theorem returnUnits_owned_other (h : d ≠ c) : (s.returnUnits c).owned d = s.owned d := by
  refine countP_mapViews_eq s.table (p := fun v => v == .own d) (q := fun v => v == .own d) fun k r _ => ?_
  by_cases own : r.view = .own c
  · by_cases kept : k ∈ s.keptSpares c <;> simp [own, kept, h.symm]
  · simp [own]

/-- A stop keeps no more spares than there is room for (R38). -/
theorem returnUnits_spareCount (room : s.table.spareCount ≤ s.port.image.spareMax) :
    (s.returnUnits c).table.spareCount ≤ s.port.image.spareMax := by
  have kept : (s.keptSpares c).length ≤ s.port.image.spareMax - s.table.spareCount := by
    unfold State.keptSpares
    split
    · exact Nat.zero_le _
    · exact List.length_take_le _ _
  have spares : (s.table.unitsWhere fun r => r.view.isSpare).length = s.table.spareCount := length_unitsWhere _ _
  have all : (s.returnUnits c).table.spareCount ≤
      ((s.table.unitsWhere fun r => r.view.isSpare) ++ s.keptSpares c).length := by
    unfold UnitTable.spareCount
    rw [← length_unitsWhere]
    refine length_le_of_subset (nodup_unitsWhere _ _) fun k mem => ?_
    obtain ⟨r', e, spare⟩ := (mem_unitsWhere _ _ k).1 mem
    change ((s.table.mapViews _).recs[k]?) = _ at e
    rw [mapViews_record] at e
    obtain ⟨r, record, rfl⟩ := Option.map_eq_some_iff.1 e
    rw [List.mem_append]
    by_cases old : k ∈ s.keptSpares c
    · exact .inr old
    · refine .inl ((mem_unitsWhere _ _ k).2 ⟨r, record, ?_⟩)
      by_cases own : r.view = .own c
      · simp [own, old, View.isSpare] at spare
      · simpa [own] using spare
  rw [List.length_append, spares] at all
  omega

section
variable {s c d} {l : List Nat}

/-- Units that are bound: different ones, in the table, none of them OWN before. -/
structure Bindable (s : State) (l : List Nat) : Prop where
  once : l.Nodup
  record : ∀ k ∈ l, ∃ r, s.table.recs[k]? = some r ∧ ∀ c, r.view ≠ .own c

theorem bindUnits_owned_self (h : Bindable s l) (none : s.owned c = 0) : (s.bindUnits c l).owned c = l.length := by
  refine countP_mapViews_list s.table (q := fun v => v == .own c) h.once (fun k mem => ?_) fun k r record => ?_
  · obtain ⟨r, record, -⟩ := h.record k mem
    exact ⟨r, record⟩
  · have free : (r.view == .own c) = false := by
      rw [← Bool.not_eq_true]
      exact List.countP_eq_zero.1 none r (List.mem_of_getElem? record)
    by_cases mem : k ∈ l <;> simp [mem, free]

theorem bindUnits_owned_other (h : Bindable s l) (other : d ≠ c) : (s.bindUnits c l).owned d = s.owned d := by
  refine countP_mapViews_eq s.table (p := fun v => v == .own d) (q := fun v => v == .own d) fun k r record => ?_
  by_cases mem : k ∈ l
  · obtain ⟨r', record', own⟩ := h.record k mem
    obtain rfl := Option.some.inj (record.symm.trans record')
    simp [mem, own d, other.symm]
  · simp [mem]

theorem bindUnits_spareCount : (s.bindUnits c l).table.spareCount ≤ s.table.spareCount := by
  refine countP_mapViews_le s.table fun k r _ => ?_
  by_cases mem : k ∈ l <;> simp [mem, View.isSpare]

end

end

/-! ### Channels and units agree (R27, R38, R66, R70) -/

/-- The demand queue holds WAITING channels alone, the start list STARTING ones alone, each once (R80, R91). -/
structure Listed (s : State) : Prop where
  queued : ∀ c ∈ s.chans.queue, (s.chan c).state.isWaiting = true
  once : s.seq.startList.Nodup
  starting : ∀ c ∈ s.seq.startList, (s.chan c).state = .starting

/-- Channels and units agree but for the channels `hit`, which hold units of which some may have been lost; the units `ks`
are held by nobody. -/
structure LoadsAgree (hit : List Chan) (ks : List Nat) (s : State) : Prop extends Listed s where
  own : ∀ c ∉ hit, s.owned c = if (s.chan c).state.holdsUnits then s.port.image.weight c else 0
  held : ∀ c ∈ hit, (s.chan c).state.holdsUnits = true
  spares : s.table.spareCount ≤ s.port.image.spareMax
  config : s.stn.state = .config → (∀ c, (s.chan c).state = .disabled) ∧ s.table.spareCount = 0
  free : ∀ k ∈ ks, ∃ r, s.table.recs[k]? = some r ∧ r.view.held = false

/-- The states of a channel that the lists and the units are told by: all but the fields inside a state. -/
theorem code_tests {x y : ChState} (h : x.code = y.code) : x.isWaiting = y.isWaiting ∧
    x.holdsUnits = y.holdsUnits ∧ (x = .starting ↔ y = .starting) ∧ (x = .disabled ↔ y = .disabled) := by
  revert h
  cases x <;> cases y <;> simp [ChState.code, ChState.isWaiting, ChState.holdsUnits]

section
variable {s t : State} {c d : Chan} {hit : List Chan} {ks : List Nat}

theorem Listed.not_queued (h : Listed s) (other : (s.chan c).state.isWaiting = false) : c ∉ s.chans.queue := by
  intro mem
  rw [h.queued c mem] at other
  cases other

theorem Listed.not_starting (h : Listed s) (other : (s.chan c).state ≠ .starting) : c ∉ s.seq.startList :=
  fun mem => other (h.starting c mem)

/-- The lists of a state in which one channel has left them, and whose other channels stand as before. -/
theorem Listed.without (h : Listed s) (others : ∀ d, d ≠ c → (t.chan d).state = (s.chan d).state)
    (queue : ∀ d ∈ t.chans.queue, d ∈ s.chans.queue ∧ d ≠ c)
    (list : t.seq.startList.Sublist s.seq.startList) (gone : c ∉ t.seq.startList) : Listed t := by
  refine ⟨fun d mem => ?_, h.once.sublist list, fun d mem => ?_⟩
  · obtain ⟨before, other⟩ := queue d mem
    rw [others d other]
    exact h.queued d before
  · have other : d ≠ c := fun e => gone (e ▸ mem)
    rw [others d other]
    exact h.starting d (list.subset mem)

/-- A channel in any state but DISABLED is that of a station after LOCK (R70, R90). -/
theorem LoadsAgree.not_config (h : LoadsAgree hit ks s) (live : (s.chan c).state ≠ .disabled) :
    s.stn.state ≠ .config := fun config => live ((h.config config).1 c)

theorem LoadsAgree.not_hit (h : LoadsAgree hit ks s) (idle : (s.chan c).state.holdsUnits = false) : c ∉ hit := by
  intro mem
  rw [h.held c mem] at idle
  cases idle

/-- The channel that lost units is told by membership alone. -/
theorem LoadsAgree.congr_hit {hit' : List Chan} (h : LoadsAgree hit ks s) (same : ∀ d, d ∈ hit' ↔ d ∈ hit) :
    LoadsAgree hit' ks s :=
  { h with
    own := fun c out => h.own c fun mem => out ((same c).2 mem)
    held := fun c mem => h.held c ((same c).1 mem) }

/-- What changes no unit and no channel's kind of state keeps the agreement. -/
theorem LoadsAgree.same (h : LoadsAgree hit ks s) (table : t.table.recs = s.table.recs)
    (code : ∀ c, (t.chan c).state.code = (s.chan c).state.code) (queue : t.chans.queue = s.chans.queue)
    (list : t.seq.startList = s.seq.startList) (image : t.port.image = s.port.image)
    (config : t.stn.state = .config → s.stn.state = .config) : LoadsAgree hit ks t := by
  have owned (c : Chan) : t.owned c = s.owned c := by simp [State.owned, table]
  have spareCount : t.table.spareCount = s.table.spareCount := by simp [UnitTable.spareCount, table]
  constructor
  case toListed =>
    refine ⟨fun c mem => ?_, list ▸ h.once, fun c mem => ?_⟩
    · rw [(code_tests (code c)).1]
      exact h.queued c (queue ▸ mem)
    · rw [(code_tests (code c)).2.2.1]
      exact h.starting c (list ▸ mem)
  case own =>
    intro c out
    rw [owned, (code_tests (code c)).2.1, image]
    exact h.own c out
  case held =>
    intro c mem
    rw [(code_tests (code c)).2.1]
    exact h.held c mem
  case spares => rw [spareCount, image]; exact h.spares
  case config =>
    intro e
    obtain ⟨disabled, none⟩ := h.config (config e)
    exact ⟨fun c => (code_tests (code c)).2.2.2.2 (disabled c), spareCount.trans none⟩
  case free => rw [table]; exact h.free

/-- One channel is taken out of the lists or put in another state, with the units it has by then; the others stand as
before. -/
theorem LoadsAgree.change {hit' : List Chan} {ks' : List Nat} (h : LoadsAgree hit ks s) (live : (s.chan c).state ≠ .disabled)
    (frame : LoadFrame s t) (listed : Listed t) (others : ∀ d, d ≠ c → (t.chan d).state = (s.chan d).state)
    (owned : ∀ d, d ≠ c → t.owned d = s.owned d)
    (self : t.owned c = if (t.chan c).state.holdsUnits then s.port.image.weight c else 0)
    (spares : t.table.spareCount ≤ s.port.image.spareMax)
    (free : ∀ k ∈ ks', ∃ r, t.table.recs[k]? = some r ∧ r.view.held = false)
    (left : ∀ d, d ∈ hit' ↔ d ∈ hit ∧ d ≠ c) : LoadsAgree hit' ks' t := by
  constructor
  case toListed => exact listed
  case own =>
    intro d out
    rw [frame.port]
    by_cases e : d = c
    · rw [e]; exact self
    · rw [owned d e, others d e]
      exact h.own d fun mem => out ((left d).2 ⟨mem, e⟩)
  case held =>
    intro d mem
    obtain ⟨mem, other⟩ := (left d).1 mem
    rw [others d other]
    exact h.held d mem
  case spares => rw [frame.port]; exact spares
  case config =>
    intro e
    rw [frame.stn] at e
    exact absurd e (h.not_config live)
  case free => exact free

/-- A change of views that makes no unit held keeps units that nobody holds. -/
theorem free_mapViews {f : Nat → View → View} (h : LoadsAgree hit ks s)
    (unheld : ∀ k r, k ∈ ks → s.table.recs[k]? = some r → r.view.held = false → (f k r.view).held = false) :
    ∀ k ∈ ks, ∃ r, (s.table.mapViews f).recs[k]? = some r ∧ r.view.held = false := by
  intro k mem
  obtain ⟨r, record, free⟩ := h.free k mem
  exact ⟨_, by rw [mapViews_record, record]; rfl, unheld k r mem record free⟩

end

end Sys2Proof.Machine

namespace Sys2Proof.Machine

/-! ### Turn-on, start list and queue keep the agreement (R74, R91 to R95) -/

section
variable {s t : State} {c d : Chan} {hit : List Chan} {ks : List Nat}

theorem turnOn_chan_self : (s.turnOn c).chan c = { s.chan c with state := .on false 0 } :=
  chan_setChState_self _ c _

theorem turnOn_chan_other (h : d ≠ c) : (s.turnOn c).chan d = s.chan d :=
  chan_setChState_other _ c d _ h

/-- The head of the start list turns on: it holds its units as before (R94). -/
theorem LoadsAgree.turnOn (h : LoadsAgree hit ks s) {rest : List Chan} (head : s.seq.startList = c :: rest) :
    LoadsAgree hit ks (s.turnOn c) := by
  have starting : (s.chan c).state = .starting := h.starting c (by simp [head])
  have once := h.once
  rw [head, List.nodup_cons] at once
  have list : (s.turnOn c).seq.startList = rest := by
    change s.seq.startList.tail = rest
    rw [head]
    rfl
  have holds (d : Chan) : ((s.turnOn c).chan d).state.holdsUnits = (s.chan d).state.holdsUnits := by
    by_cases e : d = c
    · rw [e, turnOn_chan_self, starting]
      rfl
    · rw [turnOn_chan_other e]
  have queue : c ∉ s.chans.queue := h.not_queued (by rw [starting]; rfl)
  constructor
  case toListed =>
    refine h.toListed.without (fun d e => by rw [turnOn_chan_other e]) (fun d mem => ⟨mem, ?_⟩) ?_ ?_
    · exact fun e => queue (e ▸ mem)
    · rw [list, head]
      exact List.sublist_cons_self c rest
    · rw [list]
      exact once.1
  case own => exact fun d out => (h.own d out).trans (by rw [holds]; rfl)
  case held => exact fun d mem => (holds d).trans (h.held d mem)
  case spares => exact h.spares
  case config =>
    have after := h.not_config (c := c) (by rw [starting]; nofun)
    exact fun config => absurd config after
  case free => exact h.free

theorem LoadsAgree.checkHead (h : LoadsAgree hit ks s) : LoadsAgree hit ks s.checkHead := by
  unfold State.checkHead
  split
  · exact h
  · rename_i c rest head
    split
    · exact h.turnOn head
    · exact h

/-- A STARTING channel that the start list does not hold yet is appended to it (R91). -/
theorem LoadsAgree.appendStart (h : LoadsAgree hit ks s) (starting : (s.chan c).state = .starting)
    (new : c ∉ s.seq.startList) : LoadsAgree hit ks (s.appendStart c) := by
  refine LoadsAgree.checkHead { h with queued := h.queued, once := ?_, starting := ?_ }
  · exact List.nodup_append.2 ⟨h.once, List.nodup_singleton c, fun a mem b last => by
      rintro rfl
      exact new (List.mem_singleton.1 last ▸ mem)⟩
  · intro d mem
    obtain mem | last := List.mem_append.1 mem
    · exact h.starting d mem
    · rw [List.mem_singleton.1 last]
      exact starting

/-- Removing a channel from the start list is a filter of it, with or without a check of the head (R95). -/
theorem removeStart_cases (s : State) (c : Chan) (leaving : Bool) :
    s.removeStart c leaving = s.removeStart c true ∨ s.removeStart c leaving = (s.removeStart c true).checkHead := by
  rw [removeStart_leaving]
  unfold State.removeStart
  dsimp only
  split
  · exact .inr rfl
  · exact .inl rfl

/-- The slot's requester is no part of loads. -/
theorem dropRequester_notice_only (s : State) (c : Chan) :
    s.dropRequester c = s.setNotice { s.notice with slot := withoutRequester c s.notice.slot } := by
  have kept (e : withoutRequester c s.notice.slot = s.notice.slot) :
      s = s.setNotice { s.notice with slot := withoutRequester c s.notice.slot } := by
    rw [e]
    rfl
  unfold State.dropRequester
  split
  · rename_i q slot
    split
    · rename_i own
      have emptied : withoutRequester c s.notice.slot = some { q with requester := none } := by
        simp [withoutRequester, slot, own]
      rw [emptied]
      rfl
    · rename_i other
      exact kept (by simp [withoutRequester, slot, other])
  · rename_i slot
    exact kept (by simp [withoutRequester, slot])

/-- A channel leaves the demand queue: the queue loses it, and a request of it its requester (R80, R109). -/
theorem leaveQueue_eq (s : State) (c : Chan) : s.leaveQueue c =
    (s.setChans { s.chans with queue := s.chans.queue.filter (· ≠ c) }).setNotice
      { s.notice with slot := withoutRequester c s.notice.slot } := by
  unfold State.leaveQueue
  rw [dropRequester_notice_only]
  rfl

@[simp] theorem leaveQueue_chan (s : State) (c d : Chan) : (s.leaveQueue c).chan d = s.chan d := by
  rw [leaveQueue_eq]; rfl
@[simp] theorem leaveQueue_table (s : State) (c : Chan) : (s.leaveQueue c).table = s.table := by
  rw [leaveQueue_eq]; rfl
@[simp] theorem leaveQueue_seq (s : State) (c : Chan) : (s.leaveQueue c).seq = s.seq := by
  rw [leaveQueue_eq]; rfl
@[simp] theorem leaveQueue_queue (s : State) (c : Chan) :
    (s.leaveQueue c).chans.queue = s.chans.queue.filter (· ≠ c) := by
  rw [leaveQueue_eq]; rfl

/-- A WAITING channel leaves the queue for a state in which it neither waits nor holds units (R73, R85). -/
theorem LoadsAgree.stopWaiting (h : LoadsAgree hit ks s) (waiting : (s.chan c).state.isWaiting = true)
    (frame : LoadFrame s t) (table : t.table = s.table) (queue : t.chans.queue = s.chans.queue.filter (· ≠ c))
    (list : t.seq.startList = s.seq.startList) (self : (t.chan c).state.holdsUnits = false)
    (others : ∀ d, d ≠ c → (t.chan d).state = (s.chan d).state) : LoadsAgree hit ks t := by
  obtain ⟨idle, away, live⟩ : (s.chan c).state.holdsUnits = false ∧ (s.chan c).state ≠ .starting ∧
      (s.chan c).state ≠ .disabled := by
    cases state : (s.chan c).state <;> simp_all [ChState.isWaiting, ChState.holdsUnits]
  have out := h.not_hit idle
  refine h.change live frame ?_ others (fun d _ => by simp [State.owned, table]) ?_ (by rw [table]; exact h.spares)
    (by rw [table]; exact h.free) fun d => ⟨fun mem => ⟨mem, fun e => out (e ▸ mem)⟩, And.left⟩
  · refine h.toListed.without others (fun d mem => ?_) (by rw [list]) (by rw [list]; exact h.not_starting away)
    rw [queue, List.mem_filter] at mem
    exact ⟨mem.1, by simpa using mem.2⟩
  · have none := h.own c out
    rw [idle] at none
    rw [self, State.owned, table]
    exact none

/-- A channel that neither waits nor holds units goes on to WAITING (R72). -/
theorem LoadsAgree.joinQueue (h : LoadsAgree hit ks s) (live : (s.chan c).state ≠ .disabled)
    (idle : (s.chan c).state.holdsUnits = false) : LoadsAgree hit ks (s.joinQueue c) := by
  have away : (s.chan c).state ≠ .starting := by
    intro e
    simp [e, ChState.holdsUnits] at idle
  have out := h.not_hit idle
  have others (d : Chan) (e : d ≠ c) : ((s.joinQueue c).chan d).state = (s.chan d).state := by
    rw [joinQueue_chan_other s c d e]
  refine h.change live (joinQueue_load s c) ⟨fun d mem => ?_, h.once, fun d mem => ?_⟩ others (fun _ _ => rfl) ?_
    h.spares h.free fun d => ⟨fun mem => ⟨mem, fun e => out (e ▸ mem)⟩, And.left⟩
  · by_cases e : d = c
    · rw [e, joinQueue_chan_self]
      rfl
    · rw [others d e]
      have queued : d ∈ insertQueue s.port.image.priority c s.chans.queue := mem
      exact h.queued d (((mem_insertQueue c d _ _).1 queued).resolve_left e)
  · have e : d ≠ c := fun e => h.not_starting away (e ▸ mem)
    rw [others d e]
    exact h.starting d mem
  · have none := h.own c out
    rw [idle] at none
    rw [joinQueue_chan_self]
    exact none

/-! ### Binding units (R35, R40, R81) -/

/-- As many units as its weight are bound to a WAITING channel, which is STARTING from then on (R35, R40, R74). -/
theorem LoadsAgree.bind {l ks' : List Nat} (h : LoadsAgree hit ks s) (waiting : (s.chan c).state.isWaiting = true)
    (units : Bindable s l) (weight : l.length = s.port.image.weight c) (sub : ks' ⊆ ks)
    (apart : ∀ k ∈ ks', k ∉ l) : LoadsAgree hit ks' ((s.bindUnits c l).toStarting c) := by
  obtain ⟨idle, away, live⟩ : (s.chan c).state.holdsUnits = false ∧ (s.chan c).state ≠ .starting ∧
      (s.chan c).state ≠ .disabled := by
    cases state : (s.chan c).state <;> simp_all [ChState.isWaiting, ChState.holdsUnits]
  have out := h.not_hit idle
  have none : s.owned c = 0 := by
    rw [h.own c out, idle]
    rfl
  have new : c ∉ s.seq.startList := h.not_starting away
  have others (d : Chan) (e : d ≠ c) :
      ((((s.bindUnits c l).leaveQueue c).setChState c .starting).chan d).state = (s.chan d).state := by
    rw [chan_setChState_other _ _ _ _ e, leaveQueue_chan]
    rfl
  have self : ((((s.bindUnits c l).leaveQueue c).setChState c .starting).chan c).state = .starting := by
    rw [chan_setChState_self]
  have table : (((s.bindUnits c l).leaveQueue c).setChState c .starting).table = (s.bindUnits c l).table :=
    leaveQueue_table _ c
  have list : (((s.bindUnits c l).leaveQueue c).setChState c .starting).seq = s.seq := leaveQueue_seq _ c
  refine LoadsAgree.appendStart (h.change live (((bindUnits_load s c l).trans (leaveQueue_load _ c)).trans
    (setChState_load _ c _)) (h.toListed.without others (fun d mem => ?_) (by rw [list]) (by rw [list]; exact new))
    others (fun d e => ?_) ?_ ?_ ?_ fun d => ⟨fun mem => ⟨mem, fun e => out (e ▸ mem)⟩, And.left⟩) self
    (by rw [list]; exact new)
  · have queued : d ∈ ((s.bindUnits c l).leaveQueue c).chans.queue := mem
    rw [leaveQueue_queue, List.mem_filter] at queued
    exact ⟨queued.1, by simpa using queued.2⟩
  · rw [State.owned, table]
    exact bindUnits_owned_other units e
  · rw [self, State.owned, table]
    exact (bindUnits_owned_self units none).trans weight
  · rw [table]
    exact bindUnits_spareCount.trans h.spares
  · rw [table]
    intro k mem
    obtain ⟨r, record, free⟩ := h.free k (sub mem)
    refine ⟨r, ?_, free⟩
    change ((s.table.mapViews _).recs[k]?) = _
    rw [mapViews_record, record]
    simp [apart k mem]

/-- A channel that the spares fit stands in the queue, and they reach its weight (R81). -/
theorem spareCandidate_fits (h : s.spareCandidate = some c) :
    c ∈ s.chans.queue ∧ s.fenced c = false ∧ s.port.image.weight c ≤ (s.spareUsable c).length := by
  have fits := List.find?_some h
  rw [Bool.and_eq_true, Bool.not_eq_true', decide_eq_true_eq] at fits
  exact ⟨List.mem_of_find?_eq_some h, fits⟩

theorem mem_spareUsable {k : Nat} (mem : k ∈ s.spareUsable c) :
    ∃ r, s.table.recs[k]? = some r ∧ r.view.isSpare = true ∧ s.unitUsable c r = true := by
  obtain ⟨r, record, test⟩ := (mem_unitsWhere _ _ k).1 mem
  exact ⟨r, record, Bool.and_eq_true_iff.1 test⟩

theorem LoadsAgree.bindSpares (h : LoadsAgree hit ks s) (fits : s.spareCandidate = some c) :
    LoadsAgree hit ks (s.bindSpares c) := by
  obtain ⟨queued, -, enough⟩ := spareCandidate_fits fits
  refine h.bind (h.queued c queued) ⟨((nodup_unitsWhere _ _).sublist (List.take_sublist _ _)), fun k mem => ?_⟩
    (List.length_take_of_le enough) (fun _ => id) fun k mem taken => ?_
  · obtain ⟨r, record, spare, -⟩ := mem_spareUsable (List.mem_of_mem_take mem)
    refine ⟨r, record, fun d own => ?_⟩
    rw [own] at spare
    cases spare
  · obtain ⟨r, record, spare, -⟩ := mem_spareUsable (List.mem_of_mem_take taken)
    obtain ⟨r', record', free⟩ := h.free k mem
    obtain rfl := Option.some.inj (record.symm.trans record')
    cases view : r.view <;> simp [view, View.isSpare, View.held] at spare free

/-- What each binding of spares keeps, the whole spare-binding check keeps (R81). -/
theorem spareCheck_keeps {P : State → Prop} (each : ∀ s c, P s → s.spareCandidate = some c → P (s.bindSpares c))
    (start : P s) : P s.spareCheck := by
  have walk (n : Nat) (u : State) (h : P u) : P (spareWalk n u) := by
    induction n generalizing u with
    | zero => exact h
    | succ n ih =>
      unfold spareWalk
      split
      · exact h
      · rename_i c fits
        exact ih _ (each u c h fits)
  unfold State.spareCheck
  split
  · exact walk _ s start
  · exact start

theorem LoadsAgree.spareCheck (h : LoadsAgree hit ks s) : LoadsAgree hit ks s.spareCheck :=
  spareCheck_keeps (fun _ _ h fits => h.bindSpares fits) h

theorem LoadsAgree.enterWaiting (h : LoadsAgree hit ks s) (live : (s.chan c).state ≠ .disabled)
    (idle : (s.chan c).state.holdsUnits = false) (leaving : Bool) : LoadsAgree hit ks (s.enterWaiting c leaving) := by
  unfold State.enterWaiting
  split
  · exact h.joinQueue live idle
  · exact (h.joinQueue live idle).spareCheck

end

end Sys2Proof.Machine

namespace Sys2Proof.Machine

/-! ### Stops and sheds keep the agreement (R76, R82) -/

section
variable {s t : State} {c d : Chan} {hit : List Chan} {ks : List Nat}

theorem filter_hit_of_not_mem (out : c ∉ hit) : hit.filter (· ≠ c) = hit :=
  List.filter_eq_self.2 fun d mem => by
    have other : d ≠ c := fun e => out (e ▸ mem)
    simp [other]

theorem holdsUnits_cases {x : ChState} (holds : x.holdsUnits = true) :
    x.isWaiting = false ∧ x ≠ .disabled := by
  cases x <;> simp_all [ChState.holdsUnits, ChState.isWaiting]

/-- A channel that held units has given all of them back, by a shed or by a stop, and has left the start list (R38, R41). -/
theorem LoadsAgree.letGo (h : LoadsAgree hit ks s) (holds : (s.chan c).state.holdsUnits = true) (frame : LoadFrame s t)
    (table : t.table = (s.releaseUnits c).table ∨ t.table = (s.returnUnits c).table)
    (queue : t.chans.queue = s.chans.queue) (list : t.seq.startList.Sublist s.seq.startList)
    (gone : c ∉ t.seq.startList) (self : (t.chan c).state.holdsUnits = false)
    (others : ∀ d, d ≠ c → (t.chan d).state = (s.chan d).state) : LoadsAgree (hit.filter (· ≠ c)) ks t := by
  obtain ⟨awake, live⟩ := holdsUnits_cases holds
  have owned (d : Chan) : t.owned d = (s.releaseUnits c).owned d ∨ t.owned d = (s.returnUnits c).owned d := by
    unfold State.owned
    exact table.imp (fun e => by rw [e]) fun e => by rw [e]
  refine h.change live frame (h.toListed.without others (fun d mem => ?_) list gone) others (fun d e => ?_) ?_ ?_ ?_
    fun d => by simp
  · rw [queue] at mem
    exact ⟨mem, fun e => h.not_queued awake (e ▸ mem)⟩
  · obtain same | same := owned d
    all_goals rw [same]
    · exact releaseUnits_owned_other s c d e
    · exact returnUnits_owned_other s c d e
  · rw [self]
    obtain same | same := owned c
    all_goals rw [same]
    · exact releaseUnits_owned_self s c
    · exact returnUnits_owned_self s c
  · obtain same | same := table
    all_goals rw [same]
    · rw [releaseUnits_spareCount]
      exact h.spares
    · exact returnUnits_spareCount s c h.spares
  · obtain same | same := table
    all_goals
      rw [same]
      refine free_mapViews h fun k r _ _ free => ?_
      have other : r.view ≠ .own c := by
        intro own
        rw [own] at free
        cases free
      rw [if_neg other]
      exact free

/-- A channel out of the start list is not turned on by a check of its head (R93). -/
theorem checkHead_chan (gone : c ∉ s.seq.startList) : s.checkHead.chan c = s.chan c := by
  unfold State.checkHead
  split
  · rfl
  · rename_i d rest head
    split
    · exact turnOn_chan_other fun e => gone (by simp [head, e])
    · rfl

theorem shedOn_eq (s : State) (cause : ShedCause) (c : Chan) :
    s.shedOn cause c = (((s.clearOutput c).releaseUnits c).startOffSince c).writeCause c cause := rfl

theorem shedOn_load (s : State) (cause : ShedCause) (c : Chan) : LoadFrame s (s.shedOn cause c) :=
  (((clearOutput_load s c).trans (releaseUnits_load _ c)).trans (startOffSince_load _ c)).trans
    (writeCause_load _ c cause)

/-- An ON channel's shed up to its next state, in which it holds no units (R82). -/
theorem LoadsAgree.shedOn (h : LoadsAgree hit ks s) {m : Bool} {n : Nat} (on : (s.chan c).state = .on m n)
    (cause : ShedCause) {x : ChState} (idle : x.holdsUnits = false) :
    LoadsAgree (hit.filter (· ≠ c)) ks ((s.shedOn cause c).setChState c x) := by
  refine h.letGo (by rw [on]; rfl) ((shedOn_load s cause c).trans (setChState_load _ c x)) (.inl rfl) rfl
    (.refl _) (h.not_starting (by rw [on]; nofun)) ?_ fun d e => ?_
  · rw [chan_setChState_self]
    exact idle
  · rw [chan_setChState_other _ _ _ _ e, shedOn_chan_other s c d cause e]

/-- A STARTING channel has left the start list for a state in which it holds no units, and its units are given back; the
new head may be checked then (R74, R82, R95). -/
theorem LoadsAgree.leaveStart {u : State} (h : LoadsAgree hit ks s) (starting : (s.chan c).state = .starting)
    (frame : LoadFrame s u) (table : u.table = (s.releaseUnits c).table ∨ u.table = (s.returnUnits c).table)
    (queue : u.chans.queue = s.chans.queue) (list : u.seq = s.seq) (self : (u.chan c).state.holdsUnits = false)
    (others : ∀ d, d ≠ c → (u.chan d).state = (s.chan d).state) (leaving : Bool) :
    LoadsAgree (hit.filter (· ≠ c)) ks (u.removeStart c leaving) ∧
      (u.removeStart c leaving).chan c = u.chan c := by
  have removed : (u.removeStart c true).seq.startList = s.seq.startList.filter (· ≠ c) := by
    rw [removeStart_leaving]
    exact congrArg (fun q => q.startList.filter (· ≠ c)) list
  have gone : c ∉ (u.removeStart c true).seq.startList := by simp [removed]
  have chan (d : Chan) : (u.removeStart c true).chan d = u.chan d := by
    rw [removeStart_leaving]
    rfl
  have out : LoadsAgree (hit.filter (· ≠ c)) ks (u.removeStart c true) := by
    refine h.letGo (by rw [starting]; rfl) (frame.trans (removeStart_load u c true)) ?_ ?_
      (by rw [removed]; exact List.filter_sublist) gone (by rw [chan]; exact self) fun d e => by rw [chan, others d e]
    · rw [removeStart_leaving]
      exact table
    · rw [removeStart_leaving]
      exact queue
  obtain e | e := removeStart_cases u c leaving
  all_goals rw [e]
  · exact ⟨out, chan c⟩
  · exact ⟨out.checkHead, (checkHead_chan gone).trans (chan c)⟩

/-- A shed channel that is OFF goes on to WAITING where it has effective demand (R82, 4). -/
theorem LoadsAgree.shedNext (h : LoadsAgree hit ks s) (off : (s.chan c).state = .off) (leaving : Bool) :
    LoadsAgree hit ks (s.shedNext c leaving) := by
  unfold State.shedNext
  split
  · exact h.enterWaiting (by rw [off]; nofun) (by rw [off]; rfl) leaving
  · exact h

/-- A shed: a channel that held units gives all of them back (R82). -/
theorem LoadsAgree.shedChan (h : LoadsAgree hit ks s) (cause : ShedCause) (leaving : Bool) (c : Chan) :
    LoadsAgree (hit.filter (· ≠ c)) ks (s.shedChan cause leaving c) := by
  have idle (e : (s.chan c).state.holdsUnits = false) : LoadsAgree (hit.filter (· ≠ c)) ks s := by
    rw [filter_hit_of_not_mem (h.not_hit e)]
    exact h
  unfold State.shedChan
  split
  · rename_i m n on
    dsimp only
    rw [← shedOn_eq]
    split
    · exact h.shedOn on cause rfl
    · split
      · exact h.shedOn on cause rfl
      · exact (h.shedOn on cause rfl).shedNext (by rw [chan_setChState_self]) leaving
  · rename_i starting
    have left (x : ChState) (none : x.holdsUnits = false) :=
      h.leaveStart (u := ((s.releaseUnits c).writeCause c cause).setChState c x) starting
        (((releaseUnits_load s c).trans (writeCause_load _ c cause)).trans (setChState_load _ c x)) (.inl rfl) rfl rfl
        (by rw [chan_setChState_self]; exact none)
        (fun d e => by
          unfold State.writeCause
          rw [chan_setChState_other _ _ _ _ e, chan_setChan_other _ _ _ _ e]
          rfl) leaving
    dsimp only
    split
    · exact (left .parked rfl).1
    · obtain ⟨agree, chan⟩ := left .off rfl
      exact agree.shedNext (by rw [chan, chan_setChState_self]) leaving
  · rename_i e w waiting
    split
    · rw [filter_hit_of_not_mem (h.not_hit (by rw [waiting]; rfl))]
      refine h.stopWaiting (c := c) (by rw [waiting]; rfl)
        (((leaveQueue_load s c).trans (writeCause_load _ c cause)).trans (setChState_load _ c _))
        (leaveQueue_table s c) (leaveQueue_queue s c) (congrArg Sequencer.startList (leaveQueue_seq s c)) ?_ fun d e => ?_
      · rw [chan_setChState_self]
        rfl
      · unfold State.writeCause
        rw [chan_setChState_other _ _ _ _ e, chan_setChan_other _ _ _ _ e, leaveQueue_chan]
    · exact idle (by rw [waiting]; rfl)
  · rename_i on starting waiting
    refine idle ?_
    cases state : (s.chan c).state with
    | on m n => exact absurd state (on m n)
    | starting => exact absurd state starting
    | _ => rfl

/-- A stop: a channel that held units gives all of them back, some of them as spares (R38, R76). -/
theorem LoadsAgree.stopChan (h : LoadsAgree hit ks s) : LoadsAgree (hit.filter (· ≠ c)) ks (s.stopChan c) := by
  unfold State.stopChan
  split
  · rename_i m n on
    refine h.letGo (by rw [on]; rfl) ((((clearOutput_load s c).trans (returnUnits_load _ c)).trans
      (startOffSince_load _ c)).trans (setChState_load _ c _)) (.inr rfl) rfl (.refl _)
      (h.not_starting (by rw [on]; nofun)) ?_ fun d e => ?_
    · rw [chan_setChState_self]
      dsimp only
      split <;> rfl
    · unfold State.startOffSince
      rw [chan_setChState_other _ _ _ _ e, chan_setChan_other _ _ _ _ e]
      rfl
  · rename_i starting
    refine (h.leaveStart (u := (s.returnUnits c).setChState c .off) starting
      ((returnUnits_load s c).trans (setChState_load _ c _)) (.inr rfl) rfl rfl
      (by rw [chan_setChState_self]; rfl) (fun d e => ?_) false).1
    rw [chan_setChState_other _ _ _ _ e]
    rfl
  · rename_i on starting
    rw [filter_hit_of_not_mem (h.not_hit ?_)]
    · exact h
    · cases state : (s.chan c).state with
      | on m n => exact absurd state (on m n)
      | starting => exact absurd state starting
      | _ => rfl

/-! ### Demand and one channel's state (R69 to R75, R85, R86) -/

/-- Writing a channel's record with a state of the same kind is no matter of loads. -/
theorem LoadsAgree.setChan (h : LoadsAgree hit ks s) {r : ChannelRec} (code : r.state.code = (s.chan c).state.code) :
    LoadsAgree hit ks (s.setChan c r) := by
  refine h.same rfl (fun d => ?_) rfl rfl rfl id
  by_cases e : d = c
  · rw [e, chan_setChan_self]
    exact code
  · rw [chan_setChan_other _ _ _ _ e]

/-- A channel that neither waits nor holds units takes another such state. -/
theorem LoadsAgree.setIdle (h : LoadsAgree hit ks s) {r : ChannelRec} (was : (s.chan c).state.holdsUnits = false)
    (slept : (s.chan c).state.isWaiting = false) (live : (s.chan c).state ≠ .disabled)
    (idle : r.state.holdsUnits = false) : LoadsAgree hit ks (s.setChan c r) := by
  have away : (s.chan c).state ≠ .starting := by
    intro e
    simp [e, ChState.holdsUnits] at was
  have out := h.not_hit was
  have others (d : Chan) (e : d ≠ c) : ((s.setChan c r).chan d).state = (s.chan d).state := by
    rw [chan_setChan_other _ _ _ _ e]
  refine h.change live (setChan_load s c r) (h.toListed.without others (fun d mem => ⟨mem, fun e => ?_⟩) (.refl _)
    (h.not_starting away)) others (fun _ _ => rfl) ?_ h.spares h.free
    fun d => ⟨fun mem => ⟨mem, fun e => out (e ▸ mem)⟩, And.left⟩
  · exact h.not_queued slept (e ▸ mem)
  · have none := h.own c out
    rw [was] at none
    rw [chan_setChan_self, idle]
    exact none

theorem LoadsAgree.demandAppears (h : LoadsAgree hit ks s) (c : Chan) : LoadsAgree hit ks (s.demandAppears c) := by
  unfold State.demandAppears
  split
  · rename_i off
    exact h.enterWaiting (by rw [off]; nofun) (by rw [off]; rfl) false
  · rename_i n on
    exact h.setChan (by rw [on]; rfl)
  · exact h

theorem LoadsAgree.demandDisappears (h : LoadsAgree [] ks s) (c : Chan) :
    LoadsAgree [] ks (s.demandDisappears c) := by
  unfold State.demandDisappears
  split
  · rename_i e w waiting
    refine h.stopWaiting (c := c) (by rw [waiting]; rfl) ((leaveQueue_load s c).trans (setChState_load _ c _))
      (leaveQueue_table s c) (leaveQueue_queue s c) (congrArg Sequencer.startList (leaveQueue_seq s c)) ?_ fun d e => ?_
    · rw [chan_setChState_self]
      rfl
    · rw [chan_setChState_other _ _ _ _ e, leaveQueue_chan]
  · exact h.stopChan
  · rename_i m n on
    split
    · exact h.stopChan
    · exact h.setChan (by rw [on]; rfl)
  · exact h

theorem LoadsAgree.writeInputs (h : LoadsAgree [] ks s) (c : Chan) {r : ChannelRec}
    (state : r.state = (s.chan c).state) : LoadsAgree [] ks (s.writeInputs c r) := by
  have written : LoadsAgree [] ks (s.setChan c r) := h.setChan (by rw [state])
  unfold State.writeInputs
  dsimp only
  split
  · exact written
  · split
    · exact written.demandAppears c
    · exact written.demandDisappears c

theorem LoadsAgree.parkChan (h : LoadsAgree [] ks s) (c : Chan) : LoadsAgree [] ks (s.parkChan c) := by
  have bit : LoadsAgree [] ks (s.setChan c { s.chan c with park := true }) := h.setChan rfl
  have parked (was : (s.chan c).state.holdsUnits = false) (slept : (s.chan c).state.isWaiting = false)
      (live : (s.chan c).state ≠ .disabled) :
      LoadsAgree [] ks ((s.setChan c { s.chan c with park := true }).setChState c .parked) := by
    refine bit.setIdle ?_ ?_ ?_ rfl
    all_goals
      rw [chan_setChan_self]
      assumption
  unfold State.parkChan
  dsimp only
  split
  · rename_i off
    exact parked (by rw [off]; rfl) (by rw [off]; rfl) (by rw [off]; nofun)
  · rename_i cooldown
    exact parked (by rw [cooldown]; rfl) (by rw [cooldown]; rfl) (by rw [cooldown]; nofun)
  · exact bit.shedChan .park false c
  · exact bit.shedChan .park false c
  · exact bit.shedChan .park false c
  · exact bit
  · exact bit

theorem LoadsAgree.unparkChan (h : LoadsAgree [] ks s) (c : Chan) : LoadsAgree [] ks (s.unparkChan c) := by
  have bit : LoadsAgree [] ks (s.setChan c { s.chan c with park := false }) := h.setChan rfl
  unfold State.unparkChan
  dsimp only
  split
  · rename_i parked
    have idle (x : ChState) (none : x.holdsUnits = false) :
        LoadsAgree [] ks ((s.setChan c { s.chan c with park := false }).setChState c x) := by
      refine bit.setIdle ?_ ?_ ?_ none
      all_goals rw [chan_setChan_self, parked]
      · rfl
      · rfl
      · nofun
    split
    · split
      · refine (idle .off rfl).enterWaiting ?_ ?_ false
        all_goals rw [chan_setChState_self]
        · nofun
        · rfl
      · exact idle .off rfl
    · exact idle .cooldown rfl
  · exact bit

/-- A fold of operations that keep the agreement keeps it. -/
theorem LoadsAgree.foldl {f : State → Chan → State} (l : List Chan)
    (each : ∀ s c, LoadsAgree [] ks s → LoadsAgree [] ks (f s c)) (h : LoadsAgree [] ks s) :
    LoadsAgree [] ks (l.foldl f s) := by
  induction l generalizing s with
  | nil => exact h
  | cons c l ih => exact ih (each s c h)

/-! ### The yield slot and the wait timers (R77, R105) -/

theorem LoadsAgree.restartWait (h : LoadsAgree hit ks s) (c : Chan) : LoadsAgree hit ks (s.restartWait c) := by
  unfold State.restartWait
  split
  · rename_i e w waiting
    exact h.setChan (by rw [waiting]; rfl)
  · exact h

theorem LoadsAgree.setNotice (h : LoadsAgree hit ks s) (x : NoticeUnit) : LoadsAgree hit ks (s.setNotice x) :=
  h.same rfl (fun _ => rfl) rfl rfl rfl id

theorem LoadsAgree.setEvent (h : LoadsAgree hit ks s) (e : Event) : LoadsAgree hit ks (s.setEvent e) :=
  h.same rfl (fun _ => rfl) rfl rfl rfl id

theorem LoadsAgree.freeRequester (h : LoadsAgree hit ks s) : LoadsAgree hit ks s.freeRequester := by
  unfold State.freeRequester
  split
  · split
    · exact h.restartWait _
    · exact h
  · exact h

theorem LoadsAgree.emptySlot (h : LoadsAgree hit ks s) : LoadsAgree hit ks s.emptySlot := h.freeRequester.setNotice _

theorem LoadsAgree.takeWaitExpiry (h : LoadsAgree hit ks s) (c : Chan) : LoadsAgree hit ks (s.takeWaitExpiry c) := by
  unfold State.takeWaitExpiry
  split
  · rename_i e w waiting
    split
    · have held : LoadsAgree hit ks (s.setChState c (.waiting e (some 0))) := h.setChan (by rw [waiting]; rfl)
      unfold State.offer
      split
      · exact held.freeRequester.setNotice _
      · exact held.restartWait c
    · exact h
  · exact h

/-! ### Timers of a channel and of a unit (R39, R75, R78, R93) -/

theorem LoadsAgree.takeMinOnExpiry (h : LoadsAgree [] ks s) (c : Chan) : LoadsAgree [] ks (s.takeMinOnExpiry c) := by
  unfold State.takeMinOnExpiry
  split
  · rename_i m n on
    have reached (k : Nat) : LoadsAgree [] ks (s.setChState c (.on m k)) := h.setChan (by rw [on]; rfl)
    dsimp only
    split
    · exact (reached _).stopChan
    · exact reached _
  · exact h

theorem LoadsAgree.takeMinOffExpiry (h : LoadsAgree hit ks s) (c : Chan) :
    LoadsAgree hit ks (s.takeMinOffExpiry c) := by
  unfold State.takeMinOffExpiry
  split
  · rename_i cooldown
    have off (since : Option Nat) :
        LoadsAgree hit ks (s.setChan c { s.chan c with state := .off, offSince := since }) :=
      h.setIdle (by rw [cooldown]; rfl) (by rw [cooldown]; rfl) (by rw [cooldown]; nofun) rfl
    dsimp only
    split
    · refine (off _).enterWaiting ?_ ?_ false
      all_goals rw [chan_setChan_self]
      · nofun
      · rfl
    · exact off _
  · exact h

theorem LoadsAgree.takeStaggerReached (h : LoadsAgree hit ks s) : LoadsAgree hit ks s.takeStaggerReached := by
  unfold State.takeStaggerReached
  split
  · exact h
  · rename_i c rest list
    exact LoadsAgree.checkHead (h.same rfl (fun _ => rfl) rfl rfl rfl id)

/-- A change of views that keeps OWN units, makes no SPARE and holds no unit of `ks` keeps the agreement. -/
theorem LoadsAgree.mapViews (h : LoadsAgree hit ks s) {x : UnitTable} {f : Nat → View → View}
    (table : x.recs = (s.table.mapViews f).recs)
    (own : ∀ c k r, s.table.recs[k]? = some r → (f k r.view == .own c) = (r.view == .own c))
    (spare : ∀ k r, s.table.recs[k]? = some r → (f k r.view).isSpare = true → r.view.isSpare = true)
    (unheld : ∀ k r, k ∈ ks → s.table.recs[k]? = some r → r.view.held = false → (f k r.view).held = false) :
    LoadsAgree hit ks (s.setTable x) := by
  have owned (c : Chan) : (s.setTable x).owned c = s.owned c := by
    unfold State.owned
    rw [State.setTable_table, table]
    exact countP_mapViews_eq s.table (p := fun v => v == .own c) (q := fun v => v == .own c) (own c)
  have spares : (s.setTable x).table.spareCount ≤ s.table.spareCount := by
    unfold UnitTable.spareCount
    rw [State.setTable_table, table]
    exact countP_mapViews_le s.table spare
  exact { h with
    own := fun c out => (owned c).trans (h.own c out)
    spares := spares.trans h.spares
    config := fun config => ⟨(h.config config).1, Nat.le_zero.1 (spares.trans (Nat.le_of_eq (h.config config).2))⟩
    free := by
      rw [State.setTable_table, table]
      exact free_mapViews h unheld }

theorem not_own_of_unheld {v : View} (free : v.held = false) (c : Chan) : (v == .own c) = false := by
  cases v with
  | own d => cases free
  | _ => rfl

theorem not_spare_of_unheld {v : View} (free : v.held = false) : v.isSpare = false := by
  cases v with
  | spare n => cases free
  | _ => rfl

/-- A change of views among units that nobody holds keeps the agreement. -/
theorem LoadsAgree.mapUnheld (h : LoadsAgree hit ks s) {x : UnitTable} {f : Nat → View → View}
    (table : x.recs = (s.table.mapViews f).recs)
    (unheld : ∀ k r, s.table.recs[k]? = some r →
      f k r.view = r.view ∨ r.view.held = false ∧ (f k r.view).held = false) : LoadsAgree hit ks (s.setTable x) := by
  refine h.mapViews table (fun c k r record => ?_) (fun k r record spare => ?_) fun k r _ record free => ?_
  all_goals obtain same | ⟨was, is⟩ := unheld k r record
  · rw [same]
  · exact (not_own_of_unheld is c).trans (not_own_of_unheld was c).symm
  · rw [same] at spare
    exact spare
  · rw [not_spare_of_unheld is] at spare
    cases spare
  · rw [same]
    exact free
  · exact is

theorem LoadsAgree.takeLingerExpiry (h : LoadsAgree hit ks s) (k : Nat) :
    LoadsAgree hit ks (s.takeLingerExpiry k) := by
  refine h.mapViews rfl (fun c j r _ => ?_) (fun j r _ => ?_) fun j r _ _ free => ?_
  · cases r.view <;> by_cases e : j = k <;> simp [e, View.isSpare]
  · split
    · intro spare; cases spare
    · exact id
  · split
    · rfl
    · exact free

theorem LoadsAgree.releaseSpares (h : LoadsAgree hit ks s) (mask : BitVec 4) :
    LoadsAgree hit ks (s.releaseSpares mask) := by
  refine h.mapViews rfl (fun c j r record => ?_) (fun j r _ => ?_) fun j r _ _ free => ?_
  · split
    · rename_i mem
      obtain ⟨r', record', test⟩ := (mem_unitsWhere _ _ j).1 mem
      obtain rfl := Option.some.inj (record.symm.trans record')
      obtain ⟨spare, -⟩ := Bool.and_eq_true_iff.1 test
      cases view : r.view <;> simp [view, View.isSpare] at spare ⊢
    · rfl
  · split
    · intro spare; cases spare
    · exact id
  · split
    · rfl
    · exact free

end

end Sys2Proof.Machine

namespace Sys2Proof.Machine

/-! ### The choice of a bid until its TAKE (R49, R56) -/

/-- The TAKE of the roll in flight is still to come (R9). -/
abbrev State.choosing (s : State) : Prop := s.roll.state = .inRoll ∧ s.roll.position < 2 * s.numUnits + 10

/-- The units chosen for a bid whose TAKE is still to come. -/
def State.openChoice (s : State) : List Nat := if s.choosing then s.cont.bid.chosen else []

/-- The agreement of units, channels and bid that every step keeps: UnitsMatch with what it needs of the lists. -/
structure UnitsAgree (s : State) : Prop where
  loads : LoadsAgree [] s.openChoice s
  chosen : s.choosing → ∀ c chosen a p w, s.cont.bid = .channel c chosen a p w →
    chosen.Nodup ∧ chosen.length = s.port.image.weight c
  off : s.stn.state = .config → s.roll.state = .off

/-- t has the image of s and no choice of units that s has not; CONFIG is not entered, and the Roll Tracker stays OFF
there. -/
structure ChoiceKept (s t : State) : Prop where
  image : t.port.image = s.port.image
  choice : t.cont.bid = .nothing ∨ (t.choosing → s.choosing ∧ t.cont.bid = s.cont.bid)
  config : t.stn.state = .config → s.stn.state = .config ∧ (s.roll.state = .off → t.roll.state = .off)

/-- t has the units, the channels and the start list of s too. -/
structure LoadsStill (s t : State) : Prop extends ChoiceKept s t where
  recs : t.table.recs = s.table.recs
  chans : t.chans.recs = s.chans.recs
  queue : t.chans.queue = s.chans.queue
  list : t.seq.startList = s.seq.startList

section
variable {s t u : State} {hit : List Chan} {ks : List Nat}

theorem ChoiceKept.trans (h : ChoiceKept s t) (k : ChoiceKept t u) : ChoiceKept s u := by
  refine ⟨k.image.trans h.image, ?_, fun e => ?_⟩
  · by_cases choosing : u.choosing
    · obtain none | kept := k.choice
      · exact .inl none
      · obtain ⟨before, bid⟩ := kept choosing
        obtain none | kept := h.choice
        · exact .inl (bid.trans none)
        · obtain ⟨first, bid'⟩ := kept before
          exact .inr fun _ => ⟨first, bid.trans bid'⟩
    · exact .inr fun e => absurd e choosing
  · obtain ⟨config, off⟩ := k.config e
    obtain ⟨config', off'⟩ := h.config config
    exact ⟨config', fun e => off (off' e)⟩

/-- The Roll Tracker goes on from its place, or it has left the roll. -/
theorem ChoiceKept.of_roll (image : t.port.image = s.port.image) (bid : t.cont.bid = s.cont.bid)
    (config : t.stn.state = .config → s.stn.state = .config)
    (roll : t.roll.state = s.roll.state ∧ s.roll.position ≤ t.roll.position ∨
      t.roll.state ≠ .inRoll ∧ s.roll.state ≠ .off) : ChoiceKept s t := by
  have units : t.numUnits = s.numUnits := congrArg Image.units image
  refine ⟨image, .inr fun ⟨rolling, early⟩ => ?_, fun e => ⟨config e, fun off => ?_⟩⟩
  · obtain ⟨state, later⟩ | ⟨away, -⟩ := roll
    · exact ⟨⟨state.symm.trans rolling, by omega⟩, bid⟩
    · exact absurd rolling away
  · obtain ⟨state, -⟩ | ⟨-, on⟩ := roll
    · exact state.trans off
    · exact absurd off on

theorem MarkFrame.choice (h : MarkFrame s t) : ChoiceKept s t :=
  .of_roll h.image (by rw [h.cont]) (by rw [h.stn]; exact id) (.inl (by rw [h.roll]; exact ⟨rfl, Nat.le_refl _⟩))

theorem LoadsStill.trans (h : LoadsStill s t) (k : LoadsStill t u) : LoadsStill s u :=
  ⟨h.toChoiceKept.trans k.toChoiceKept, k.recs.trans h.recs, k.chans.trans h.chans, k.queue.trans h.queue,
   k.list.trans h.list⟩

/-- Blocks that are no part of loads are written, and the Roll Tracker stays or goes on. -/
theorem LoadsStill.of_roll (table : t.table = s.table) (chans : t.chans = s.chans) (seq : t.seq = s.seq)
    (image : t.port.image = s.port.image) (bid : t.cont.bid = s.cont.bid)
    (config : t.stn.state = .config → s.stn.state = .config)
    (roll : t.roll.state = s.roll.state ∧ s.roll.position ≤ t.roll.position ∨
      t.roll.state ≠ .inRoll ∧ s.roll.state ≠ .off) : LoadsStill s t :=
  ⟨.of_roll image bid config roll, by rw [table], by rw [chans], by rw [chans], by rw [seq]⟩

theorem LoadsStill.refl (s : State) : LoadsStill s s :=
  .of_roll rfl rfl rfl rfl rfl id (.inl ⟨rfl, Nat.le_refl _⟩)

theorem LoadsAgree.mono {ks' : List Nat} (h : LoadsAgree hit ks s) (sub : ks' ⊆ ks) : LoadsAgree hit ks' s :=
  { h with free := fun k mem => h.free k (sub mem) }

theorem LoadsAgree.still (h : LoadsAgree hit ks s) (k : LoadsStill s t) : LoadsAgree hit ks t :=
  h.same k.recs (fun c => by rw [State.chan, State.chan, k.chans]) k.queue k.list k.image fun e => (k.config e).1

/-- The agreement carries over to a state whose units and channels agree and that has no choice of its own. -/
theorem UnitsAgree.step (h : UnitsAgree s) (k : ChoiceKept s t) (l : LoadsAgree [] s.openChoice t) : UnitsAgree t := by
  refine ⟨l.mono ?_, fun choosing c chosen a p w bid => ?_, fun e => ?_⟩
  · unfold State.openChoice
    split
    · rename_i choosing
      obtain none | kept := k.choice
      · rw [none]
        exact List.nil_subset _
      · obtain ⟨before, bid⟩ := kept choosing
        rw [if_pos before, bid]
        exact List.Subset.refl _
    · exact List.nil_subset _
  · obtain none | kept := k.choice
    · rw [none] at bid
      cases bid
    · obtain ⟨before, same⟩ := kept choosing
      rw [k.image]
      exact h.chosen before c chosen a p w (same.symm.trans bid)
  · obtain ⟨config, off⟩ := k.config e
    exact off (h.off config)

theorem UnitsAgree.still (h : UnitsAgree s) (k : LoadsStill s t) : UnitsAgree t :=
  h.step k.toChoiceKept (h.loads.still k)

theorem UnitsAgree.marks (h : UnitsAgree s) (f : MarkFrame s t) (l : LoadsAgree [] s.openChoice t) : UnitsAgree t :=
  h.step f.choice l

end

/-! ### Blocks that are no part of loads -/

section
variable (s : State)

theorem setLine_still (x : LineIf) : LoadsStill s (s.setLine x) :=
  .of_roll rfl rfl rfl rfl rfl id (.inl ⟨rfl, Nat.le_refl _⟩)

theorem setNotice_still (x : NoticeUnit) : LoadsStill s (s.setNotice x) :=
  .of_roll rfl rfl rfl rfl rfl id (.inl ⟨rfl, Nat.le_refl _⟩)

theorem setRoll_still (x : RollTracker) (h : x.state = s.roll.state ∧ s.roll.position ≤ x.position ∨
    x.state ≠ .inRoll ∧ s.roll.state ≠ .off) : LoadsStill s (s.setRoll x) :=
  .of_roll rfl rfl rfl rfl rfl id h

theorem setCont_still (x : Contention) (h : x.bid = s.cont.bid) : LoadsStill s (s.setCont x) :=
  .of_roll rfl rfl rfl rfl h id (.inl ⟨rfl, Nat.le_refl _⟩)

theorem setStn_still (x : StationCtl) (h : x.state = .config → s.stn.state = .config) : LoadsStill s (s.setStn x) :=
  .of_roll rfl rfl rfl rfl rfl h (.inl ⟨rfl, Nat.le_refl _⟩)

theorem setPort_still (x : LocalPort) (h : x.image = s.port.image) : LoadsStill s (s.setPort x) :=
  .of_roll rfl rfl rfl h rfl id (.inl ⟨rfl, Nat.le_refl _⟩)

theorem setEvent_still (e : Event) : LoadsStill s (s.setEvent e) := setPort_still s _ rfl

theorem setSeq_still (x : Sequencer) (h : x.startList = s.seq.startList) : LoadsStill s (s.setSeq x) :=
  ⟨.of_roll rfl rfl id (.inl ⟨rfl, Nat.le_refl _⟩), rfl, rfl, rfl, h⟩

theorem setChans_still (x : Channels) (recs : x.recs = s.chans.recs) (queue : x.queue = s.chans.queue) :
    LoadsStill s (s.setChans x) :=
  ⟨.of_roll rfl rfl id (.inl ⟨rfl, Nat.le_refl _⟩), rfl, recs, queue, rfl⟩

theorem holdClear_still : LoadsStill s s.holdClear := by
  unfold State.holdClear
  split
  · exact .refl s
  · exact setSeq_still s _ rfl

theorem settle_still : LoadsStill s s.settle :=
  have conditions : LoadsStill s.holdClear s.settle :=
    .of_roll rfl rfl rfl rfl rfl id (.inl ⟨rfl, Nat.le_refl _⟩)
  (holdClear_still s).trans conditions

theorem releaseLine_still : LoadsStill s s.releaseLine :=
  (setLine_still s _).trans (setRoll_still _ _ (.inl ⟨rfl, Nat.le_refl _⟩))

/-- No row but POR and RESET takes the station to CONFIG (R139). -/
theorem enterState_still {x : StationState} (h : x ≠ .config) : LoadsStill s (s.enterState x) := by
  unfold State.enterState
  dsimp only
  split <;> exact ((releaseLine_still s).trans (setStn_still _ _ fun e => absurd e h)).trans
    (setRoll_still _ _ (.inl ⟨rfl, Nat.le_refl _⟩))

theorem enterActive_still : LoadsStill s s.enterActive :=
  .of_roll rfl rfl rfl rfl rfl (fun e => by cases e) (.inl ⟨rfl, Nat.le_refl _⟩)

theorem writeIncident_still (i : IncidentCause) (c : Option Chan) : LoadsStill s (s.writeIncident i c) :=
  setStn_still s _ id

theorem errorFor_still (r : Reply) : LoadsStill s (s.errorFor r) := by
  unfold State.errorFor
  split
  · exact setEvent_still s _
  · exact .refl s

theorem finishWrite_still (r : Reply) : LoadsStill s (s.finishWrite r) :=
  ((setPort_still s { s.port with reply := r } rfl).trans (errorFor_still _ r)).trans (setPort_still _ _ rfl)

theorem readCommand_still (t : Operands) (n : Nat) (v : Reply) (data : List Byte) {e : State → State}
    (h : LoadsStill s (e s)) : LoadsStill s (s.readCommand t n v data e) := by
  unfold State.readCommand
  split
  · split
    · exact h.trans (setPort_still _ _ rfl)
    · exact (errorFor_still s v).trans (setPort_still _ _ rfl)
  · exact finishWrite_still s _

/-! #### The rows that touch no load -/

theorem takeSettlingEnd_still : LoadsStill s s.takeSettlingEnd := by
  unfold State.takeSettlingEnd
  split
  · rename_i settling
    exact .of_roll rfl rfl rfl rfl rfl id (.inr ⟨by simp, by rw [settling]; nofun⟩)
  · exact .refl s

theorem takeCandidateOpen_still : LoadsStill s s.takeCandidateOpen := by
  unfold State.takeCandidateOpen
  split
  · rename_i idle
    exact .of_roll rfl rfl rfl rfl rfl id (.inr ⟨by simp, by rw [idle]; nofun⟩)
  · exact .refl s

theorem takeOpenNoise_still (run : Nat) : LoadsStill s (s.takeOpenNoise run) := by
  unfold State.takeOpenNoise
  split
  · rename_i opening
    exact setRoll_still s _ (.inr ⟨nofun, by rw [opening.1]; nofun⟩)
  · exact .refl s

theorem takeOpenRoll_still : LoadsStill s s.takeOpenRoll := by
  unfold State.takeOpenRoll
  split
  · exact .of_roll rfl rfl rfl rfl rfl id (.inl ⟨rfl, Nat.le_refl _⟩)
  · exact .refl s

/-- A roll starts with no bid (R45). -/
theorem takeRollStart_still : LoadsStill s s.takeRollStart := by
  unfold State.takeRollStart
  split
  · rename_i opening
    exact ⟨⟨rfl, .inl rfl, fun e => ⟨e, fun off => absurd (opening.symm.trans off) nofun⟩⟩, rfl, rfl, rfl, rfl⟩
  · exact .refl s

theorem takeMalformedOpen_still : LoadsStill s s.takeMalformedOpen := by
  unfold State.takeMalformedOpen
  split
  · rename_i opening
    exact .of_roll rfl rfl rfl rfl rfl id (.inr ⟨by simp, by rw [opening]; nofun⟩)
  · exact .refl s

theorem takeSilenceExpiry_still : LoadsStill s s.takeSilenceExpiry := by
  unfold State.takeSilenceExpiry
  split
  · exact .of_roll rfl rfl rfl rfl rfl id (.inl ⟨rfl, Nat.le_refl _⟩)
  · exact .refl s

theorem takeArbitrationLost_still (bit : Nat) : LoadsStill s (s.takeArbitrationLost bit) := by
  unfold State.takeArbitrationLost
  split
  · exact .of_roll rfl rfl rfl rfl rfl id (.inl ⟨rfl, Nat.le_refl _⟩)
  · exact .refl s

variable {s} in
/-- A phase event that comes finds the Roll Tracker before its position (R9). -/
theorem phaseDue_before {q : Nat} (due : s.phaseDue q = true) : s.roll.position ≤ q := by
  obtain ⟨-, -, before⟩ := (phaseDue_iff s q).1 due
  exact Nat.le_of_lt before

theorem takeFlagReading_still (level : Level) : LoadsStill s (s.takeFlagReading level) := by
  unfold State.takeFlagReading
  split
  · rename_i due
    exact setRoll_still s _ (.inl ⟨rfl, phaseDue_before due⟩)
  · exact .refl s

/-- The characters of a notice come after TAKE. -/
theorem trackCharacter_still (index : Nat) (data : Byte) (framing marker : Bool) :
    LoadsStill s (s.trackCharacter index data framing marker) := by
  have late : ¬ (s.trackCharacter index data framing marker).choosing := by
    rintro ⟨-, early⟩
    change 2 * s.numUnits + 22 + 11 * index < 2 * s.numUnits + 10 at early
    omega
  exact ⟨⟨rfl, .inr fun e => absurd e late, fun e => ⟨e, id⟩⟩, rfl, rfl, rfl, rfl⟩

theorem takeNoticeCharacter_still (index : Nat) (data : Byte) (framing marker : Bool) :
    LoadsStill s (s.takeNoticeCharacter index data framing marker) := by
  unfold State.takeNoticeCharacter
  split
  · exact (trackCharacter_still s index data framing marker).trans (setNotice_still _ _)
  · exact .refl s

theorem takeUnknown_still (code : Byte) : LoadsStill s (s.takeUnknown code) := by
  unfold State.takeUnknown
  split
  · exact finishWrite_still s _
  · exact .refl s

theorem conflictEffects_still (phase : OwnPhase) : LoadsStill s (s.conflictEffects phase) :=
  .of_roll rfl rfl rfl rfl rfl id (.inl ⟨rfl, Nat.le_refl _⟩)

theorem stuckTracker_still (on : s.roll.state ≠ .off) : LoadsStill s s.stuckTracker :=
  .of_roll rfl rfl rfl rfl rfl id (.inr ⟨nofun, on⟩)

end

/-! ### Departures keep the agreement (R42, R84, R143) -/

section
variable {s t : State} {ks : List Nat}

theorem LoadsAgree.stationShed (h : LoadsAgree [] ks s) (cause : ShedCause) : LoadsAgree [] ks (s.stationShed cause) := by
  have shed := h.foldl (f := fun u c => u.shedChan cause true c) allChans fun u c agree => agree.shedChan cause true c
  obtain e | e := stationShed_cases s cause
  all_goals rw [e]
  · exact shed
  · exact shed.setEvent _

/-- Where no channel holds units the picture may be dropped (R42). -/
theorem LoadsAgree.dropPicture (h : LoadsAgree [] ks s) (idle : ∀ c, (s.chan c).state.holdsUnits = false) :
    LoadsAgree [] ks s.dropPicture := by
  have none (c : Chan) : s.owned c = 0 := by
    rw [h.own c List.not_mem_nil, idle c]
    rfl
  have other {c : Chan} {r : UnitRec} {k : Nat} (record : s.table.recs[k]? = some r) : (r.view == .own c) = false := by
    rw [← Bool.not_eq_true]
    exact List.countP_eq_zero.1 (none c) r (List.mem_of_getElem? record)
  refine h.mapViews (f := fun _ v => if v = .dead then .dead else .unknown) rfl (fun c k r record => ?_)
    (fun k r _ => ?_) fun k r _ _ _ => ?_
  · rw [other record]
    split <;> rfl
  · split <;> (intro spare; cases spare)
  · split <;> rfl

theorem abandonClaim_choice (s : State) : ChoiceKept s s.abandonClaim := by
  unfold State.abandonClaim
  split
  · exact ⟨rfl, .inl rfl, fun e => ⟨e, id⟩⟩
  · exact (LoadsStill.refl s).toChoiceKept

theorem LoadsAgree.departing (h : LoadsAgree [] ks s) {cause : ShedCause} (park : cause ≠ .park) :
    LoadsAgree [] ks (s.departing cause) := by
  have dropped := (h.stationShed cause).dropPicture fun c => (stationShed_chan s c cause park).load
  have claimed : LoadsAgree [] ks (s.stationShed cause).dropPicture.abandonClaim := by
    rw [abandonClaim_cont_only]
    exact dropped.same rfl (fun _ => rfl) rfl rfl rfl id
  have sent : LoadsAgree [] ks (s.stationShed cause).dropPicture.abandonClaim.abandonSend := by
    rw [abandonSend_notice_only]
    exact claimed.setNotice _
  exact LoadsAgree.still (sent.emptySlot.setNotice _) (setChans_still _ _ rfl rfl)

theorem UnitsAgree.depart (h : UnitsAgree s) {cause : ShedCause} {x : StationState} (park : cause ≠ .park)
    (away : x ≠ .config) : UnitsAgree (s.depart cause x) := by
  have left : UnitsAgree (s.departing cause) :=
    h.step (((dropped_marks s cause).choice.trans (abandonClaim_choice _)).trans (departing_load s cause).marks.choice)
      (h.loads.departing park)
  exact left.still (enterState_still _ away)

/-- An incident record, a departure and an event keep the agreement (R158). -/
theorem UnitsAgree.incident (h : UnitsAgree s) (i : IncidentCause) (c : Option Chan) {cause : ShedCause}
    {x : StationState} (e : Event) (park : cause ≠ .park) (away : x ≠ .config) :
    UnitsAgree (((s.writeIncident i c).depart cause x).setEvent e) :=
  ((h.still (writeIncident_still s i c)).depart park away).still (setEvent_still _ e)

theorem UnitsAgree.faultClash (h : UnitsAgree s) : UnitsAgree s.faultClash :=
  h.incident .clash none .fault nofun nofun

theorem UnitsAgree.faultDrive (h : UnitsAgree s) (c : Option Chan) : UnitsAgree (s.faultDrive c) :=
  h.incident .drive c .fault nofun nofun

theorem UnitsAgree.actRequest (h : UnitsAgree s) (q : Request) : UnitsAgree (s.actRequest q) := by
  cases q with
  | leave => exact h.depart nofun nofun
  | quiet => exact h.depart nofun nofun

/-! ### Received notices keep the agreement (R41, R113 to R116) -/

theorem LoadsAgree.yieldSheds (h : LoadsAgree [] ks s) (y : YieldIn) (n count : Nat) :
    LoadsAgree [] ks (yieldSheds y n count s) := by
  induction n generalizing count s with
  | zero => exact h
  | succ n ih =>
    unfold Machine.yieldSheds
    split
    · exact h
    · split
      · exact h
      · rename_i c _
        exact ih ((h.shedChan .yield false c).setEvent .shed) _

theorem LoadsAgree.handleYield (h : LoadsAgree [] ks s) (y : YieldIn) : LoadsAgree [] ks (s.handleYield y) := by
  unfold State.handleYield
  split
  · exact h.setEvent _
  · have fenced : LoadsAgree [] ks (s.fenceFor y) := h.still (setChans_still s _ rfl rfl)
    exact ((fenced.setEvent _).releaseSpares _).yieldSheds y 8 _

theorem LoadsAgree.dispose (h : LoadsAgree [] ks s) (n : StoredNotice) : LoadsAgree [] ks (s.dispose n) := by
  have stored : LoadsAgree [] ks (s.ringAppend n) := by
    unfold State.ringAppend
    dsimp only
    split
    · split
      · exact (h.setNotice _).setEvent _
      · exact h.setNotice _
    · exact h.setEvent _
  have compared {u : State} (k : LoadsAgree [] ks u) (l : List Byte) : LoadsAgree [] ks (u.comparePresence l) := by
    unfold State.comparePresence
    split
    · exact k
    · exact k.setEvent _
  unfold State.dispose
  split
  · exact h
  · unfold State.handOff
    split
    · split
      · exact stored
      · split
        · exact compared stored _
        · split
          · exact stored.handleYield _
          · exact stored
        · exact stored
    · exact stored

/-- A notice end comes where its form says, and for a cut or a damaged one that is in a roll (R13, R130). -/
theorem noticeEnd_choice {form : NoticeForm} {chars : List RxChar} (fits : s.endFits form chars = true) :
    LoadsStill s (s.setRoll (s.roll.noticeEnd form)) := by
  have rolling (e : form = .cut ∨ form = .damaged) : s.roll.state ≠ .off := by
    intro off
    obtain rfl | rfl := e <;> simp [State.endFits, off] at fits
  cases form with
  | complete => exact setRoll_still s _ (.inl ⟨rfl, Nat.le_refl _⟩)
  | stuck => exact setRoll_still s _ (.inl ⟨rfl, Nat.le_refl _⟩)
  | cut => exact setRoll_still s _ (.inr ⟨nofun, rolling (.inl rfl)⟩)
  | damaged => exact setRoll_still s _ (.inr ⟨nofun, rolling (.inr rfl)⟩)

theorem UnitsAgree.takeNoticeEnd (h : UnitsAgree s) (form : NoticeForm) : UnitsAgree (s.takeNoticeEnd form) := by
  unfold State.takeNoticeEnd
  split
  · split
    · rename_i fits
      have before := (h.still (noticeEnd_choice fits.2)).still (setNotice_still _ { s.notice with recv := none })
      exact before.marks (dispose_marks _ _) (before.loads.dispose _)
    · exact h
  · exact h

theorem UnitsAgree.spareCheck (h : UnitsAgree s) : UnitsAgree s.spareCheck :=
  h.marks (spareCheck_load s).marks h.loads.spareCheck

/-! ### The roll end keeps the agreement (R14, R62, R81, R127, R140, R145) -/

theorem LoadsAgree.endSend (h : LoadsAgree [] ks s) : LoadsAgree [] ks s.endSend := by
  have completed (r : SendRecord) : LoadsAgree [] ks (s.completeSource r) := by
    unfold State.completeSource
    split
    · exact h.setNotice _
    · exact h.setNotice _
    · dsimp only
      split
      · split
        · exact LoadsAgree.emptySlot ((h.setNotice _).setEvent _)
        · exact (h.setNotice _).setEvent _
      · exact (h.setNotice _).setEvent _
  unfold State.endSend
  split
  · dsimp only
    split
    · exact (completed _).setNotice _
    · exact h.setNotice _
  · exact h

theorem UnitsAgree.endNotices (h : UnitsAgree s) : UnitsAgree s.endConflictRun.endSend.endRecv := by
  have reset : UnitsAgree s.endConflictRun := by
    unfold State.endConflictRun
    split
    · exact h.still (setCont_still s _ rfl)
    · exact h
  have sent := reset.marks (endSend_marks _) reset.loads.endSend
  unfold State.endRecv
  split
  · exact sent
  · exact sent.still (setNotice_still _ _)

/-- A roll end leaves the Roll Tracker out of the roll (R14). -/
theorem finish_still (s : State) (cause : RollEndCause) (valid : Bool) :
    LoadsStill s (s.setRoll (s.roll.finish s.inFlight cause valid)) := by
  refine setRoll_still s _ ?_
  unfold RollTracker.finish
  by_cases flight : s.inFlight = true
  · have on := not_off_of_inFlight flight
    rw [if_pos flight]
    cases cause <;> exact .inr ⟨nofun, on⟩
  · rw [if_neg flight]
    exact .inl ⟨rfl, Nat.le_refl _⟩

theorem UnitsAgree.endStation (h : UnitsAgree s) (valid : Bool) : UnitsAgree (s.endStation valid) := by
  have timed : UnitsAgree (s.restartBusLoss valid) := by
    unfold State.restartBusLoss
    split
    · exact h.still (setStn_still s _ id)
    · exact h
  unfold State.endStation
  split
  · unfold State.endJoining
    dsimp only
    split
    · have counted (x : StationCtl) (e : x.state = s.stn.state) : UnitsAgree (s.setStn x) :=
        h.still (setStn_still s x fun config => e.symm.trans config)
      exact (counted { s.stn with joinCount := _, countable := false } rfl).still (enterActive_still _)
    · exact h.still (setStn_still s _ id)
  · refine UnitsAgree.still ?_ (setStn_still _ _ id)
    unfold State.endActive
    dsimp only
    split
    · exact timed.actRequest _
    · exact timed
  all_goals exact h.still (setStn_still s _ id)

theorem UnitsAgree.noticeAtEnd (h : UnitsAgree s) (cause : RollEndCause) : UnitsAgree (s.noticeAtEnd cause) := by
  cases cause with
  | check => exact h.takeNoticeEnd _
  | stuck => exact h.takeNoticeEnd _
  | flag => exact h
  | trailing => exact h

theorem UnitsAgree.takeRollEnd (h : UnitsAgree s) (cause : RollEndCause) (order : RollEndOrder) :
    UnitsAgree (s.takeRollEnd cause order) := by
  unfold State.takeRollEnd
  split
  · have flight : s.endConflictRun.endSend.endRecv.inFlight = s.inFlight :=
      inFlight_congr (by rw [(endNotices_rolls s).roll])
    have finished := h.endNotices.still (finish_still _ cause (s.endValid cause))
    rw [flight] at finished
    have before := finished.still (setStn_still _ { s.endConflictRun.endSend.endRecv.stn with silence := 0 } id)
    cases order with
    | checkFirst => exact before.spareCheck.endStation _
    | requestFirst => exact (before.endStation _).spareCheck
    | noticeBetween => exact (before.spareCheck.noticeAtEnd cause).endStation _
  · exact h

end

end Sys2Proof.Machine

namespace Sys2Proof.Machine

/-! ### HOLD complete and TAKE complete keep the agreement (R30 to R37, R49) -/

section
variable {s t : State} {hit : List Chan} {ks : List Nat}

theorem markSkew_blocks (s : State) (units : List Nat) : (s.markSkew units).table.recs = s.table.recs ∧
    (s.markSkew units).table.driveSet = s.table.driveSet ∧ (s.markSkew units).chans = s.chans ∧
    (s.markSkew units).seq = s.seq ∧ (s.markSkew units).notice = s.notice := by
  unfold State.markSkew
  split <;> exact ⟨rfl, rfl, rfl, rfl, rfl⟩

theorem LoadsAgree.markSkew (h : LoadsAgree hit ks s) (units : List Nat) : LoadsAgree hit ks (s.markSkew units) := by
  obtain ⟨recs, -, chans, seq, -⟩ := markSkew_blocks s units
  have frame := markSkew_marks s units
  exact h.same recs (fun c => by rw [State.chan, State.chan, chans]) (by rw [chans]) (by rw [seq]) frame.image
    (by rw [frame.stn]; exact id)

/-- HOLD complete touches no held unit and makes none held (R30). -/
theorem holdView_cases (driveSet units : List Nat) (k : Nat) (v : View) : holdView driveSet units k v = v ∨
    v.held = false ∧ (holdView driveSet units k v).held = false := by
  unfold holdView
  split
  · rename_i dead
    exact .inl dead.symm
  · split
    · exact .inl rfl
    · split
      · exact .inl rfl
      · rename_i free
        exact .inr ⟨by simpa using free, by split <;> rfl⟩

theorem LoadsAgree.holdViews (h : LoadsAgree hit ks s) (units : List Nat) :
    LoadsAgree hit ks (s.holdViews units) :=
  (h.markSkew units).mapUnheld (f := holdView (s.markSkew units).table.driveSet units) rfl
    fun k r _ => holdView_cases _ _ k r.view

/-- The units of the free set that HOLD complete leaves are FREE (R31). -/
theorem holdViews_freed {units : List Nat} {k : Nat} (mem : k ∈ (s.holdViews units).table.freeSet) :
    ∃ r, (s.holdViews units).table.recs[k]? = some r ∧ r.view = .free := by
  have freed : k ∈ (s.markSkew units).table.freed units := mem
  unfold UnitTable.freed at freed
  rw [List.mem_filter, Option.any_eq_true] at freed
  obtain ⟨-, r, record, test⟩ := freed
  rw [Bool.and_eq_true, decide_eq_true_eq] at test
  refine ⟨{ r with view := holdView (s.markSkew units).table.driveSet units k r.view }, ?_, test.1⟩
  change ((s.markSkew units).table.mapViews _).recs[k]? = _
  rw [mapViews_record, record]
  rfl

theorem holdViews_freeSet_nodup (s : State) (units : List Nat) : (s.holdViews units).table.freeSet.Nodup :=
  List.nodup_range.filter _

/-- A bid for a channel chooses as many units as its weight, different ones, of the free set (R47, R49). -/
theorem nextBid_chooses {c : Chan} {chosen : List Nat} {a : Option NoticeSource} {p : Nat} {w : BitVec 10}
    (once : s.table.freeSet.Nodup) (bid : s.nextBid = .channel c chosen a p w) :
    chosen.Nodup ∧ chosen.length = s.port.image.weight c ∧ chosen ⊆ s.table.freeSet := by
  unfold State.nextBid at bid
  split at bid
  · rename_i d found
    cases bid
    have fits := List.find?_some found
    rw [Bool.and_eq_true, decide_eq_true_eq] at fits
    have usable : (s.freeUsable c).Sublist s.table.freeSet := List.filter_sublist
    have first := (List.take_sublist (s.port.image.weight c) (s.freeUsable c)).trans usable
    exact ⟨once.sublist first, List.length_take_of_le fits.2, first.subset⟩
  · split at bid <;> cases bid

theorem mayBid_listens (h : s.mayBid = true) : s.listens = true := by
  have active : s.stn.state = .active := by
    rw [State.mayBid, Bool.and_eq_true, Bool.and_eq_true] at h
    exact (isActive_iff s).1 h.1.1
  simp [State.listens, active]

/-- The bid formed at HOLD complete: none, or one whose chosen units are FREE (R46, R49). -/
theorem UnitsAgree.formBid {u : State} (loads : LoadsAgree [] [] u) (off : u.stn.state = .config → u.roll.state = .off)
    (once : u.mayBid = true → u.table.freeSet.Nodup)
    (free : u.mayBid = true → ∀ k ∈ u.table.freeSet, ∃ r, u.table.recs[k]? = some r ∧ r.view = .free) :
    UnitsAgree u.formBid := by
  have still : LoadsAgree [] [] u.formBid := loads.same rfl (fun _ => rfl) rfl rfl rfl id
  have bid : u.formBid.cont.bid = if u.mayBid then u.nextBid else .nothing := rfl
  refine ⟨{ still with free := fun k mem => ?_ }, fun _ c chosen a p w e => ?_, off⟩
  · have chosen : k ∈ u.formBid.cont.bid.chosen := by
      unfold State.openChoice at mem
      split at mem
      · exact mem
      · cases mem
    rw [bid] at chosen
    split at chosen
    · rename_i may
      cases e : u.nextBid with
      | channel c l a p w =>
        rw [e] at chosen
        obtain ⟨-, -, sub⟩ := nextBid_chooses (once may) e
        obtain ⟨r, record, view⟩ := free may k (sub chosen)
        exact ⟨r, record, by rw [view]; rfl⟩
      | notice n p w => rw [e] at chosen; cases chosen
      | nothing => rw [e] at chosen; cases chosen
    · cases chosen
  · rw [bid] at e
    split at e
    · rename_i may
      obtain ⟨nodup, length, -⟩ := nextBid_chooses (once may) e
      exact ⟨nodup, length⟩
    · cases e

theorem UnitsAgree.takeHoldComplete (h : UnitsAgree s) (units : List Nat) :
    UnitsAgree (s.takeHoldComplete units) := by
  unfold State.takeHoldComplete
  split
  · rename_i due
    have placed := h.still (setRoll_still s { s.roll with position := s.numUnits } (.inl ⟨rfl, phaseDue_before due⟩))
    have loads := placed.loads.mono (List.nil_subset _)
    dsimp only
    split
    · have frame : MarkFrame (s.toPosition s.numUnits) ((s.toPosition s.numUnits).holdViews units) :=
        (markSkew_marks _ units).trans (setTable_load _ _).marks
      refine UnitsAgree.formBid (loads.holdViews units) ?_ (fun _ => holdViews_freeSet_nodup _ units)
        fun _ k => holdViews_freed
      rw [frame.stn, frame.roll]
      exact placed.off
    · rename_i deaf
      have silent {P : Prop} (may : (s.toPosition s.numUnits).mayBid = true) : P := absurd (mayBid_listens may) deaf
      exact UnitsAgree.formBid loads placed.off silent silent
  · exact h

/-! #### TAKE complete (R32 to R37) -/

/-- A unit of the channel is read dominant (R34). -/
theorem mem_overlapped (s : State) (units : List Nat) (c : Chan) :
    c ∈ s.overlapped units ↔ ∃ k ∈ units, ∃ r, s.table.recs[k]? = some r ∧ r.view = .own c := by
  unfold State.overlapped
  rw [List.mem_filter, List.any_eq_true]
  simp only [mem_allChans, true_and, decide_eq_true_eq, UnitTable.boundUnits, mem_unitsWhere, beq_iff_eq]
  exact ⟨fun ⟨k, own, mem⟩ => ⟨k, mem, own⟩, fun ⟨k, mem, own⟩ => ⟨k, own, mem⟩⟩

theorem overlapped_nodup (s : State) (units : List Nat) : (s.overlapped units).Nodup := allChans_nodup.filter _

/-- A channel with an OWN unit holds units (R66). -/
theorem LoadsAgree.owner_holds (h : LoadsAgree [] ks s) {k : Nat} {r : UnitRec} {c : Chan}
    (record : s.table.recs[k]? = some r) (own : r.view = .own c) : (s.chan c).state.holdsUnits = true := by
  by_contra idle
  have none := h.own c List.not_mem_nil
  rw [if_neg idle] at none
  exact List.countP_eq_zero.1 none r (List.mem_of_getElem? record) (by simp [own])

/-- A unit read dominant becomes PEER, an OWN one too: its channel has lost a unit (R32 to R34). -/
theorem LoadsAgree.takeViews (h : LoadsAgree [] ks s) (units : List Nat) :
    LoadsAgree (s.overlapped units) [] (s.setTable (s.table.mapViews (takeView units))) := by
  have spares : (s.setTable (s.table.mapViews (takeView units))).table.spareCount ≤ s.table.spareCount := by
    refine countP_mapViews_le s.table fun k r _ => ?_
    unfold takeView
    split
    · intro spare; cases spare
    · split
      · intro spare; cases spare
      · exact id
  exact {
    queued := h.queued
    once := h.once
    starting := h.starting
    own := fun c out => by
      refine Eq.trans ?_ (h.own c List.not_mem_nil)
      refine countP_mapViews_eq s.table (p := fun v => v == .own c) (q := fun v => v == .own c) fun k r record => ?_
      have apart (own : r.view = .own c) : k ∉ units := fun mem =>
        out ((mem_overlapped s units c).2 ⟨k, mem, r, record, own⟩)
      unfold takeView
      by_cases own : r.view = .own c
      · simp [own, apart own]
      · have other : (r.view == .own c) = false := by simpa using own
        split
        · rw [other]; rfl
        · split
          · rw [other]; rfl
          · rfl
    held := fun c mem => by
      obtain ⟨k, -, r, record, own⟩ := (mem_overlapped s units c).1 mem
      exact h.owner_holds record own
    spares := spares.trans h.spares
    config := fun config => ⟨(h.config config).1, Nat.le_zero.1 (spares.trans (Nat.le_of_eq (h.config config).2))⟩
    free := nofun }

theorem LoadsAgree.foldl_shed {l : List Chan} (h : LoadsAgree l ks s) (once : l.Nodup) :
    LoadsAgree [] ks (l.foldl (fun u c => u.shedChan .overlap false c) s) := by
  induction l generalizing s with
  | nil => exact h
  | cons c l ih =>
    obtain ⟨out, once⟩ := List.nodup_cons.1 once
    refine ih ((h.shedChan .overlap false c).congr_hit fun d => ?_) once
    rw [List.mem_filter, List.mem_cons, decide_eq_true_eq]
    exact ⟨fun mem => ⟨.inr mem, fun e => out (e ▸ mem)⟩, fun ⟨mem, other⟩ => mem.resolve_left other⟩

theorem LoadsAgree.takeByPeer (h : LoadsAgree [] ks s) (units : List Nat) :
    LoadsAgree [] [] (s.takeByPeer units) := by
  have marked : LoadsAgree [] ks (if s.overlaps units then s.setEvent .overlap else s) := by
    split
    · exact h.setEvent _
    · exact h
  have same : (if s.overlaps units then s.setEvent .overlap else s).overlapped units = s.overlapped units := by
    split <;> rfl
  have lost := marked.takeViews units
  rw [same] at lost
  have shed := lost.foldl_shed (overlapped_nodup s units)
  unfold State.takeByPeer
  dsimp only
  split
  · exact shed.setEvent _
  · exact shed

/-- Units that nobody holds go to a view that nobody holds (R36, R37). -/
theorem LoadsAgree.chosenTo (h : LoadsAgree hit ks s) {v : View} (free : v.held = false) :
    LoadsAgree hit ks (s.chosenTo ks v) := by
  refine h.mapUnheld rfl fun k r record => ?_
  by_cases mem : k ∈ ks
  · obtain ⟨r', record', unheld⟩ := h.free k mem
    obtain rfl := Option.some.inj (record.symm.trans record')
    exact .inr ⟨unheld, by rw [if_pos mem]; exact free⟩
  · exact .inl (if_neg mem)

theorem LoadsAgree.takeByWinner (h : LoadsAgree [] s.cont.bid.chosen s)
    (fits : ∀ c chosen a p w, s.cont.bid = .channel c chosen a p w →
      chosen.Nodup ∧ chosen.length = s.port.image.weight c) (units : List Nat) :
    LoadsAgree [] [] (s.takeByWinner units) := by
  unfold State.takeByWinner
  split
  · rename_i c chosen a p w bid
    obtain ⟨once, weight⟩ := fits c chosen a p w bid
    rw [bid] at h
    change LoadsAgree [] chosen s at h
    split
    · exact (h.chosenTo (v := .free) rfl).takeByPeer _
    · split
      · rename_i waiting
        refine h.bind waiting ⟨once, fun k mem => ?_⟩ weight (List.nil_subset _) nofun
        obtain ⟨r, record, unheld⟩ := h.free k mem
        refine ⟨r, record, fun d own => ?_⟩
        rw [own] at unheld
        cases unheld
      · exact (h.chosenTo (v := .releasing) rfl).mono (List.nil_subset _)
  · split
    · exact h.takeByPeer units
    · exact h.mono (List.nil_subset _)
  · exact h.takeByPeer units

theorem UnitsAgree.takeTakeComplete (h : UnitsAgree s) (units : List Nat) :
    UnitsAgree (s.takeTakeComplete units) := by
  unfold State.takeTakeComplete
  split
  · rename_i due
    obtain ⟨rolling, -, before⟩ := (phaseDue_iff s _).1 due
    have choosing : s.choosing := ⟨rolling, before⟩
    have place := setRoll_still s { s.roll with position := 2 * s.numUnits + 10 } (.inl ⟨rfl, phaseDue_before due⟩)
    have placed := h.still place
    have loads : LoadsAgree [] s.cont.bid.chosen (s.toPosition (2 * s.numUnits + 10)) := by
      have untaken := h.loads.still place
      rw [State.openChoice, if_pos choosing] at untaken
      exact untaken
    have passed {t : State} (f : MarkFrame (s.toPosition (2 * s.numUnits + 10)) t) (l : LoadsAgree [] [] t) :
        UnitsAgree t := by
      refine placed.marks f ?_
      rw [State.openChoice, if_neg fun e => Nat.lt_irrefl _ e.2]
      exact l
    have fits := h.chosen choosing
    dsimp only
    split
    · have skew := markSkew_marks (s.toPosition (2 * s.numUnits + 10)) units
      have marked := loads.markSkew units
      split
      · refine passed (skew.trans (takeByWinner_marks _ units)) (LoadsAgree.takeByWinner ?_ ?_ units)
        · rw [skew.cont]
          exact marked
        · rw [skew.cont, skew.image]
          exact fits
      · exact passed (skew.trans (takeByPeer_marks _ units)) (marked.takeByPeer units)
    · exact placed
  · exact h

end

end Sys2Proof.Machine

namespace Sys2Proof.Machine

/-! ### Every row keeps the agreement -/

section
variable {s t : State} {ks : List Nat}

/-- What a reset leaves: nothing held, every channel DISABLED (R43, R90, R104). -/
theorem UnitsAgree.of_reset (table : t.table = UnitTable.reset) (chans : t.chans = Channels.reset)
    (seq : t.seq = Sequencer.reset) (roll : t.roll = RollTracker.reset) : UnitsAgree t := by
  have disabled (c : Chan) : (t.chan c).state = .disabled := by
    unfold State.chan
    rw [chans]
    simp [Channels.reset, ChannelRec.reset]
  have none (p : UnitRec → Bool) (h : p { view := .unknown, window := none } = false) : t.table.recs.countP p = 0 := by
    rw [table]
    simp [UnitTable.reset, h]
  have away : ¬ t.choosing := fun ⟨rolling, _⟩ => by
    rw [roll] at rolling
    cases rolling
  refine ⟨?_, fun choosing => absurd choosing away, fun _ => by rw [roll]; rfl⟩
  rw [State.openChoice, if_neg away]
  exact {
    queued := by rw [chans]; nofun
    once := by rw [seq]; exact List.nodup_nil
    starting := by rw [seq]; nofun
    own := fun c _ => by
      rw [disabled]
      exact none _ rfl
    held := nofun
    spares := Nat.le_trans (Nat.le_of_eq (none _ rfl)) (Nat.zero_le _)
    config := fun _ => ⟨disabled, none _ rfl⟩
    free := nofun }

/-- An accepted LOCK leaves every unit DEAD or UNKNOWN and every channel OFF or DISABLED (R43, R90). -/
theorem lockBlocks_agree (s : State) : UnitsAgree s.lockBlocks := by
  have state (c : Chan) : (s.lockBlocks.chan c).state.holdsUnits = false := by
    change (s.port.image.channelRecs[c]).state.holdsUnits = false
    unfold Image.channelRecs
    simp only [Fin.getElem_fin, Vector.getElem_ofFn]
    split <;> rfl
  have none (p : UnitRec → Bool) (h : ∀ r, r.view = .dead ∨ r.view = .unknown → p r = false) :
      s.lockBlocks.table.recs.countP p = 0 := by
    change (((List.range s.port.image.units).map s.port.image.unitRec).countP p) = 0
    rw [List.countP_eq_zero]
    intro r mem
    obtain ⟨k, -, rfl⟩ := List.mem_map.1 mem
    rw [Bool.not_eq_true]
    apply h
    unfold Image.unitRec
    split
    · exact .inr rfl
    · exact .inl rfl
  have away : ¬ s.lockBlocks.choosing := fun ⟨rolling, _⟩ => by cases rolling
  have locked : s.lockBlocks.stn.state ≠ .config := by
    change s.joinOrHalt ≠ .config
    unfold State.joinOrHalt
    split <;> nofun
  refine ⟨?_, fun choosing => absurd choosing away, fun config => absurd config locked⟩
  rw [State.openChoice, if_neg away]
  exact {
    queued := nofun
    once := List.nodup_nil
    starting := nofun
    own := fun c _ => by
      rw [state]
      refine none _ fun r view => ?_
      obtain e | e := view <;> simp [e]
    held := nofun
    spares := by
      refine Nat.le_trans (Nat.le_of_eq (none _ fun r view => ?_)) (Nat.zero_le _)
      obtain e | e := view <;> simp [e, View.isSpare]
    config := fun config => absurd config locked
    free := nofun }

/-- In CONFIG nothing is held, so that the image may change (R139, R161). -/
theorem UnitsAgree.reconfigure (h : UnitsAgree s) (config : s.stn.state = .config) (x : LocalPort) :
    UnitsAgree (s.setPort x) := by
  obtain ⟨disabled, none⟩ := h.loads.config config
  have off := h.off config
  have away : ¬ (s.setPort x).choosing := fun ⟨rolling, _⟩ => by
    change s.roll.state = _ at rolling
    rw [off] at rolling
    cases rolling
  refine ⟨?_, fun choosing => absurd choosing away, fun _ => off⟩
  rw [State.openChoice, if_neg away]
  exact {
    queued := h.loads.queued
    once := h.loads.once
    starting := h.loads.starting
    own := fun c _ => by
      have own := h.loads.own c List.not_mem_nil
      rw [disabled] at own
      change s.owned c = if (s.chan c).state.holdsUnits then _ else 0
      rw [own, disabled]
      rfl
    held := nofun
    spares := Nat.le_trans (Nat.le_of_eq none) (Nat.zero_le _)
    config := fun _ => ⟨disabled, none⟩
    free := nofun }

/-- A write command keeps the agreement where the effect of an accepted one does. -/
theorem UnitsAgree.writeCommand (h : UnitsAgree s) (x : Operands) (n : Nat) (v : Reply) (e : State → State)
    (effect : v = .accepted → UnitsAgree (e s)) : UnitsAgree (s.writeCommand x n v e) := by
  unfold State.writeCommand
  split
  · split
    · exact (effect ‹_›).still (finishWrite_still _ _)
    · exact h.still (finishWrite_still s _)
  · exact h.still (finishWrite_still s _)

theorem UnitsAgree.settle (h : UnitsAgree s) : UnitsAgree s.settle := h.still (settle_still s)

/-- A row that touches loads alone and settles. -/
theorem UnitsAgree.load (h : UnitsAgree s) (f : LoadFrame s t) (l : LoadsAgree [] s.openChoice t) :
    UnitsAgree t.settle := (h.marks f.marks l).settle

/-- A row that takes channels one at a time and settles. -/
theorem UnitsAgree.foldl (h : UnitsAgree s) {f : State → Chan → State} (l : List Chan)
    (load : ∀ s c, LoadFrame s (f s c)) (each : ∀ {ks} s c, LoadsAgree [] ks s → LoadsAgree [] ks (f s c)) :
    UnitsAgree (l.foldl f s).settle :=
  h.load (foldl_load f load l s) (h.loads.foldl l each)

/-- The demand bits of a byte's channels are written (R68). -/
theorem UnitsAgree.foldl_writeSoft (h : UnitsAgree s) (b : Bool) (l : List Chan) :
    UnitsAgree (l.foldl (State.writeSoft b) s).settle :=
  h.foldl (f := State.writeSoft b) l (fun u c => writeInputs_load u c _) fun _ c agree => agree.writeInputs c rfl

theorem UnitsAgree.takeCfgWrite (h : UnitsAgree s) (x : Operands) : UnitsAgree (s.takeCfgWrite x) := by
  refine h.writeCommand x _ _ _ fun accepted => ?_
  have config := inConfig_of_cfgWrite accepted
  unfold State.storeItem
  split
  · exact h.reconfigure config _
  · exact h

theorem UnitsAgree.takeLeave (h : UnitsAgree s) (x : Operands) : UnitsAgree (s.takeLeave x) := by
  refine h.writeCommand x _ _ _ fun _ => UnitsAgree.settle ?_
  unfold State.leaveEffect State.request
  split
  · split
    · exact h.still (setStn_still s _ id)
    · exact h.actRequest _
  · exact h.depart nofun nofun

theorem UnitsAgree.takeQuiet (h : UnitsAgree s) (x : Operands) : UnitsAgree (s.takeQuiet x) := by
  refine h.writeCommand x _ _ _ fun _ => UnitsAgree.settle ?_
  unfold State.quietEffect State.request
  split
  · split
    · exact h.still (setStn_still s _ id)
    · exact h.actRequest _
  · exact h.still (enterState_still s nofun)

theorem joinOrHalt_ne_config (s : State) : s.joinOrHalt ≠ .config := by
  unfold State.joinOrHalt
  split <;> nofun

theorem softValues_still (s : State) : LoadsStill s s.softValues :=
  ⟨.of_roll rfl rfl id (.inl ⟨rfl, Nat.le_refl _⟩), rfl, rfl, rfl, rfl⟩

theorem UnitsAgree.softReset (h : UnitsAgree s) : UnitsAgree s.softReset := by
  have left : UnitsAgree (s.depart .reset s.joinOrHalt) := h.depart nofun (joinOrHalt_ne_config s)
  exact (left.still (softValues_still _)).settle

theorem UnitsAgree.takePark (h : UnitsAgree s) (x : Operands) : UnitsAgree (s.takePark x) := by
  unfold State.takePark
  refine h.writeCommand x _ _ _ fun _ => ?_
  exact h.foldl _ parkChan_load fun _ c agree => agree.parkChan c

theorem UnitsAgree.takeUnpark (h : UnitsAgree s) (x : Operands) : UnitsAgree (s.takeUnpark x) := by
  unfold State.takeUnpark
  refine h.writeCommand x _ _ _ fun _ => ?_
  exact h.foldl _ unparkChan_load fun _ c agree => agree.unparkChan c

theorem UnitsAgree.takeSend (h : UnitsAgree s) (x : Operands) : UnitsAgree (s.takeSend x) := by
  unfold State.takeSend
  refine h.writeCommand x _ _ _ fun _ => ?_
  exact (h.still (setNotice_still s _)).settle

theorem UnitsAgree.takeYield (h : UnitsAgree s) (x : Operands) : UnitsAgree (s.takeYield x) := by
  unfold State.takeYield
  refine h.writeCommand x _ _ _ fun _ => ?_
  exact (h.still (setNotice_still s _)).settle

theorem UnitsAgree.takeDemandSet (h : UnitsAgree s) (x : Operands) : UnitsAgree (s.takeDemandSet x) := by
  unfold State.takeDemandSet
  refine h.writeCommand x _ _ _ fun _ => ?_
  exact h.foldl_writeSoft true _

theorem UnitsAgree.takeDemandClear (h : UnitsAgree s) (x : Operands) : UnitsAgree (s.takeDemandClear x) := by
  unfold State.takeDemandClear
  refine h.writeCommand x _ _ _ fun _ => ?_
  exact h.foldl_writeSoft false _

theorem UnitsAgree.takeClearEvents (h : UnitsAgree s) (x : Operands) : UnitsAgree (s.takeClearEvents x) := by
  unfold State.takeClearEvents
  refine h.writeCommand x _ _ _ fun _ => ?_
  exact h.still (setPort_still s _ rfl)

theorem UnitsAgree.takeSetEnables (h : UnitsAgree s) (x : Operands) : UnitsAgree (s.takeSetEnables x) := by
  unfold State.takeSetEnables
  refine h.writeCommand x _ _ _ fun _ => ?_
  exact h.still (setPort_still s _ rfl)

theorem UnitsAgree.takeJoin (h : UnitsAgree s) (x : Operands) : UnitsAgree (s.takeJoin x) := by
  unfold State.takeJoin
  refine h.writeCommand x _ _ _ fun _ => ?_
  exact (h.still (enterState_still s (x := .joining) nofun)).settle

theorem UnitsAgree.takeClearFault (h : UnitsAgree s) (x : Operands) : UnitsAgree (s.takeClearFault x) := by
  unfold State.takeClearFault
  refine h.writeCommand x _ _ _ fun _ => ?_
  exact (h.still (enterState_still s (joinOrHalt_ne_config s))).settle

theorem takePop_still (x : Operands) : LoadsStill s (s.takePop x) := by
  unfold State.takePop
  refine readCommand_still s _ _ _ _ ?_
  exact setNotice_still s _

theorem takeReadQueue_still (x : Operands) : LoadsStill s (s.takeReadQueue x) := by
  unfold State.takeReadQueue
  refine readCommand_still s _ _ _ _ ?_
  exact .refl s

theorem takeReadStation_still (x : Operands) : LoadsStill s (s.takeReadStation x) := by
  unfold State.takeReadStation
  refine readCommand_still s _ _ _ _ ?_
  exact .refl s

theorem takeReadIncident_still (x : Operands) : LoadsStill s (s.takeReadIncident x) := by
  unfold State.takeReadIncident
  refine readCommand_still s _ _ _ _ ?_
  exact setStn_still s _ id

theorem takeReadEvents_still (x : Operands) : LoadsStill s (s.takeReadEvents x) := by
  unfold State.takeReadEvents
  refine readCommand_still s _ _ _ _ ?_
  exact .refl s

theorem takeCfgRead_still (x : Operands) : LoadsStill s (s.takeCfgRead x) := by
  unfold State.takeCfgRead
  split <;> exact readCommand_still s _ _ _ _ (.refl s)

theorem takeReadUnit_still (x : Operands) : LoadsStill s (s.takeReadUnit x) := by
  unfold State.takeReadUnit
  split <;> exact readCommand_still s _ _ _ _ (.refl s)

theorem takeReadChannel_still (x : Operands) : LoadsStill s (s.takeReadChannel x) := by
  unfold State.takeReadChannel
  split <;> exact readCommand_still s _ _ _ _ (.refl s)

/-- Each command of the local port keeps the agreement. -/
theorem UnitsAgree.runCommand (h : UnitsAgree s) (k : Command) (x : Operands) : UnitsAgree (s.runCommand k x) := by
  cases k with
  | lock => exact h.writeCommand x 0 s.lockVerdict State.lockBlocks fun _ => lockBlocks_agree s
  | softReset => exact h.writeCommand x 0 s.afterLock State.softReset fun _ => h.softReset
  | cfgWrite => exact h.takeCfgWrite x
  | demandSet => exact h.takeDemandSet x
  | demandClear => exact h.takeDemandClear x
  | park => exact h.takePark x
  | unpark => exact h.takeUnpark x
  | send => exact h.takeSend x
  | yield => exact h.takeYield x
  | clearEvents => exact h.takeClearEvents x
  | setEnables => exact h.takeSetEnables x
  | join => exact h.takeJoin x
  | leave => exact h.takeLeave x
  | quiet => exact h.takeQuiet x
  | clearFault => exact h.takeClearFault x
  | cfgRead => exact h.still (takeCfgRead_still x)
  | pop => exact h.still (takePop_still x)
  | readUnit => exact h.still (takeReadUnit_still x)
  | readChannel => exact h.still (takeReadChannel_still x)
  | readQueue => exact h.still (takeReadQueue_still x)
  | readStation => exact h.still (takeReadStation_still x)
  | readIncident => exact h.still (takeReadIncident_still x)
  | readEvents => exact h.still (takeReadEvents_still x)

theorem UnitsAgree.takeCsnRise (h : UnitsAgree s) : UnitsAgree s.takeCsnRise := by
  have closed : UnitsAgree s.closeTransaction := by
    unfold State.closeTransaction
    split
    · exact h.still (takeUnknown_still s _)
    · split
      · exact h.still (finishWrite_still s _)
      · exact h.runCommand _ _
  unfold State.takeCsnRise
  split
  · exact closed.still (setPort_still _ _ rfl)
  · exact closed.still (setPort_still _ _ rfl)
  all_goals exact h.still (setPort_still s _ rfl)

theorem UnitsAgree.takeKillnLow (h : UnitsAgree s) : UnitsAgree s.takeKillnLow := by
  have pin : UnitsAgree (s.setStn { s.stn with killnLow := true }) := h.still (setStn_still s _ id)
  have low := pin.still (holdClear_still _)
  have incident : UnitsAgree (((s.setStn { s.stn with killnLow := true }).holdClear.writeIncident .kill none).depart
      .kill .halted) := (low.still (writeIncident_still _ _ _)).depart nofun nofun
  unfold State.takeKillnLow
  dsimp only
  split
  · exact incident
  · exact incident
  · exact incident
  · exact incident
  all_goals exact low

theorem UnitsAgree.takeKillnHigh (h : UnitsAgree s) : UnitsAgree s.takeKillnHigh := by
  have high : UnitsAgree (s.setStn { s.stn with killnLow := false }) := h.still (setStn_still s _ id)
  unfold State.takeKillnHigh
  dsimp only
  split
  · exact high.still (enterState_still _ nofun)
  · exact high

theorem UnitsAgree.takeClaimResolved (h : UnitsAgree s) (word : BitVec 10) : UnitsAgree (s.takeClaimResolved word) := by
  unfold State.takeClaimResolved
  split
  · rename_i due
    have settled : UnitsAgree ((s.toPosition (s.numUnits + 10)).settleClaim word) :=
      h.still (.of_roll rfl rfl rfl rfl rfl id (.inl ⟨rfl, phaseDue_before due⟩))
    dsimp only
    split
    · exact settled.faultClash
    · exact settled
  · exact h

theorem UnitsAgree.takeDriveReport (h : UnitsAgree s) (phase : Phase) (q : Nat) :
    UnitsAgree (s.takeDriveReport phase q) := by
  have state := driveReport_state phase s.roll
  have place : (s.roll.driveReport phase).position = s.roll.position := by
    unfold RollTracker.driveReport
    split <;> rfl
  have reported : UnitsAgree (s.setRoll (s.roll.driveReport phase)) :=
    h.still (setRoll_still s _ (.inl ⟨state, Nat.le_of_eq place.symm⟩))
  unfold State.takeDriveReport
  split
  · refine UnitsAgree.faultDrive ?_ _
    unfold State.dropRecv
    split
    · exact reported
    · exact reported.still (setNotice_still _ _)
  · exact h

theorem UnitsAgree.takeConflict (h : UnitsAgree s) (phase : OwnPhase) : UnitsAgree (s.takeConflict phase) := by
  have effects := h.still (conflictEffects_still s phase)
  unfold State.takeConflict
  split
  · dsimp only
    split
    · exact effects.faultClash
    · exact effects
  · exact h

theorem UnitsAgree.takeStuckLine (h : UnitsAgree s) : UnitsAgree s.takeStuckLine := by
  unfold State.takeStuckLine
  split
  · rename_i armed
    have disarmed : UnitsAgree s.disarmed := h.still (setLine_still s _)
    have uncounted : UnitsAgree (s.disarmed.setStn { s.disarmed.stn with joinCount := 0 }) :=
      disarmed.still (setStn_still _ _ id)
    have report : UnitsAgree s.disarmed.stuckReport := by
      unfold State.stuckReport
      split
      · exact disarmed.incident _ _ _ nofun nofun
      · exact uncounted.still (setEvent_still _ _)
      · exact uncounted.still (setEvent_still _ _)
      · exact disarmed.still (setEvent_still _ _)
      · exact disarmed.still (setEvent_still _ _)
      · exact disarmed.still (setEvent_still _ _)
      · exact disarmed
    refine report.still (stuckTracker_still _ ?_)
    rw [(stuckReport_rolls s.disarmed).state]
    exact armed.1
  · exact h

theorem UnitsAgree.takeBusLossExpiry (h : UnitsAgree s) : UnitsAgree s.takeBusLossExpiry := by
  unfold State.takeBusLossExpiry
  split
  · exact h.incident _ _ _ nofun nofun
  · exact h

theorem UnitsAgree.takeLevelChange (h : UnitsAgree s) (pins : BitVec 8) : UnitsAgree (s.takeLevelChange pins).settle := by
  unfold State.takeLevelChange
  split
  · exact h.foldl _ (fun u c => writeInputs_load u c _) fun u c l => l.writeInputs c rfl
  · exact h.settle

/-- Units, channels and bid agree through every row. -/
theorem UnitsAgree.fire (h : UnitsAgree s) (i : Instr) : UnitsAgree (s.fire i) := by
  cases i with
  | por => exact .of_reset rfl rfl rfl rfl
  | reset => exact .of_reset rfl rfl rfl rfl
  | killnLow => exact h.takeKillnLow.settle
  | killnHigh => exact h.takeKillnHigh.settle
  | filteredLevelChange pins => exact h.takeLevelChange pins
  | settlingEnd => exact h.still (takeSettlingEnd_still s)
  | openRoll => exact h.still (takeOpenRoll_still s)
  | rollStart => exact (h.still (takeRollStart_still s)).settle
  | malformedOpen => exact h.still (takeMalformedOpen_still s)
  | holdComplete units => exact (h.takeHoldComplete units).settle
  | arbitrationLost bit => exact h.still (takeArbitrationLost_still s bit)
  | claimResolved word => exact (h.takeClaimResolved word).settle
  | takeComplete units => exact (h.takeTakeComplete units).settle
  | flagReading level => exact h.still (takeFlagReading_still s level)
  | noticeCharacter index data framing marker => exact h.still (takeNoticeCharacter_still s index data framing marker)
  | noticeEnd form => exact (h.takeNoticeEnd form).settle
  | rollEnd cause order => exact (h.takeRollEnd cause order).settle
  | driveReport phase position => exact (h.takeDriveReport phase position).settle
  | conflict phase => exact (h.takeConflict phase).settle
  | stuckLine => exact h.takeStuckLine.settle
  | silenceTimerExpiry => exact h.still (takeSilenceExpiry_still s)
  | busLossExpiry => exact h.takeBusLossExpiry.settle
  | lingerExpiry unit => exact h.load (setTable_load s _) (h.loads.takeLingerExpiry unit)
  | waitTimerExpiry c => exact h.load (takeWaitExpiry_load s c) (h.loads.takeWaitExpiry c)
  | minOnExpiry c => exact h.load (takeMinOnExpiry_load s c) (h.loads.takeMinOnExpiry c)
  | minOffExpiry c => exact h.load (takeMinOffExpiry_load s c) (h.loads.takeMinOffExpiry c)
  | fenceExpiry sender => exact h.still (setChans_still s _ rfl rfl)
  | yieldHoldoffExpiry => exact h.still (setNotice_still s _)
  | staggerReached => exact h.load (takeStaggerReached_load s) h.loads.takeStaggerReached
  | statusCapture => exact h.still (setPort_still s _ rfl)
  | unknownCommand code => exact h.still (takeUnknown_still s code)
  | candidateOpen => exact h.still (takeCandidateOpen_still s)
  | openNoise run => exact h.still (takeOpenNoise_still s run)
  | csnRise => exact h.takeCsnRise
  | cfgWrite x => exact h.runCommand .cfgWrite x
  | cfgRead x => exact h.runCommand .cfgRead x
  | lock x => exact h.runCommand .lock x
  | demandSet x => exact h.runCommand .demandSet x
  | demandClear x => exact h.runCommand .demandClear x
  | park x => exact h.runCommand .park x
  | unpark x => exact h.runCommand .unpark x
  | send x => exact h.runCommand .send x
  | yield x => exact h.runCommand .yield x
  | pop x => exact h.runCommand .pop x
  | readUnit x => exact h.runCommand .readUnit x
  | readChannel x => exact h.runCommand .readChannel x
  | readQueue x => exact h.runCommand .readQueue x
  | readStation x => exact h.runCommand .readStation x
  | readIncident x => exact h.runCommand .readIncident x
  | readEvents x => exact h.runCommand .readEvents x
  | clearEvents x => exact h.runCommand .clearEvents x
  | setEnables x => exact h.runCommand .setEnables x
  | join x => exact h.runCommand .join x
  | leave x => exact h.runCommand .leave x
  | quiet x => exact h.runCommand .quiet x
  | clearFault x => exact h.runCommand .clearFault x
  | softReset x => exact h.runCommand .softReset x

end

end Sys2Proof.Machine

namespace Sys2Proof.Machine

/-! ### What a CLK period does between its rows -/

/-- A CLK period outside its rows writes pins, line, clock, free choices, the silence timer, the elapsed timer, the SPI
receiver and the Roll Tracker, which goes on in its state, to a character of the notice, or to TRAILING. -/
structure PeriodWrite (s t : State) : Prop where
  table : t.table = s.table
  chans : t.chans = s.chans
  cont : t.cont = s.cont
  notice : t.notice = s.notice
  seq : t.seq = { s.seq with elapsed := t.seq.elapsed }
  stn : t.stn = { s.stn with silence := t.stn.silence }
  port : t.port = { s.port with rx := t.port.rx }
  roll : t.roll.state = s.roll.state ∧
      (s.roll.position ≤ t.roll.position ∨ 2 * s.numUnits + 10 ≤ t.roll.position) ∨
    s.roll.state = .inRoll ∧ t.roll.state = .trailing

/-- A predicate that a row, a write between rows and one count of the timers keep. -/
structure TickKeeps (P : State → Prop) : Prop where
  fire {s : State} (i : Instr) : P s → P (s.fire i)
  write {s t : State} : P s → PeriodWrite s t → P t
  advanceTimers {s : State} : P s → P s.advanceTimers
  sampleFilters {s : State} : P s → P s.sampleFilters

section
variable {P : State → Prop} {s t : State} (keeps : TickKeeps P)

/-- The writes of a CLK period that leave the Roll Tracker alone. -/
theorem PeriodWrite.of_roll (table : t.table = s.table) (chans : t.chans = s.chans) (cont : t.cont = s.cont)
    (notice : t.notice = s.notice) (seq : t.seq = { s.seq with elapsed := t.seq.elapsed })
    (stn : t.stn = { s.stn with silence := t.stn.silence }) (port : t.port = { s.port with rx := t.port.rx })
    (roll : t.roll = s.roll) : PeriodWrite s t :=
  ⟨table, chans, cont, notice, seq, stn, port, .inl ⟨by rw [roll], .inl (by rw [roll])⟩⟩

theorem setRoll_write (x : RollTracker) (state : x.state = s.roll.state) (later : s.roll.position ≤ x.position) :
    PeriodWrite s (s.setRoll x) :=
  ⟨rfl, rfl, rfl, rfl, rfl, rfl, rfl, .inl ⟨state, .inl later⟩⟩

theorem setFree_write (n : Nat) : PeriodWrite s (s.setFree n) := .of_roll rfl rfl rfl rfl rfl rfl rfl rfl

theorem setLine_write (x : LineIf) : PeriodWrite s (s.setLine x) := .of_roll rfl rfl rfl rfl rfl rfl rfl rfl

theorem setClock_write (x : Clock) : PeriodWrite s (s.setClock x) := .of_roll rfl rfl rfl rfl rfl rfl rfl rfl

theorem setRx_write (x : SpiRx) : PeriodWrite s (s.setPort { s.port with rx := x }) :=
  .of_roll rfl rfl rfl rfl rfl rfl rfl rfl

theorem setSilence_write (n : Nat) : PeriodWrite s (s.setStn { s.stn with silence := n }) :=
  .of_roll rfl rfl rfl rfl rfl rfl rfl rfl

theorem setElapsed_write (n : Nat) : PeriodWrite s (s.setSeq { s.seq with elapsed := n }) :=
  .of_roll rfl rfl rfl rfl rfl rfl rfl rfl

theorem trackCharacter_write (index : Nat) (data : Byte) (framing marker : Bool) :
    PeriodWrite s (s.trackCharacter index data framing marker) := by
  refine ⟨rfl, rfl, rfl, rfl, rfl, rfl, rfl, .inl ⟨rfl, .inr ?_⟩⟩
  change 2 * s.numUnits + 10 ≤ 2 * s.numUnits + 22 + 11 * index
  omega

theorem trackerNoticeEnd_write (form : NoticeForm) (rolling : s.roll.state = .inRoll) :
    PeriodWrite s (s.setRoll (s.roll.noticeEnd form)) := by
  cases form with
  | cut => exact ⟨rfl, rfl, rfl, rfl, rfl, rfl, rfl, .inr ⟨rolling, rfl⟩⟩
  | damaged => exact ⟨rfl, rfl, rfl, rfl, rfl, rfl, rfl, .inr ⟨rolling, rfl⟩⟩
  | complete => exact setRoll_write _ rfl (Nat.le_refl _)
  | stuck => exact setRoll_write _ rfl (Nat.le_refl _)

theorem drawPins_write : PeriodWrite s s.drawPins := by
  unfold State.drawPins
  split <;> exact .of_roll rfl rfl rfl rfl rfl rfl rfl rfl

theorem advanceBit_write (e : LineEvent) : PeriodWrite s (s.advanceBit e) := by
  have same : PeriodWrite s s := .of_roll rfl rfl rfl rfl rfl rfl rfl rfl
  unfold State.advanceBit
  dsimp only
  split
  · split
    · exact same
    · exact setLine_write _
  · split
    · exact same
    · exact setLine_write _
  · exact setLine_write _
  · exact setLine_write _

/-! #### The bit time -/

include keeps

theorem TickKeeps.freeOrder (n : Nat) (l : List (State → State)) (each : ∀ g ∈ l, ∀ s, P s → P (g s)) (h : P s) :
    P (inFreeOrder n l s) :=
  inFreeOrder_keeps (fun _ n k => keeps.write k (setFree_write n)) n l each s h

theorem TickKeeps.fireRollEnd (cause : RollEndCause) (h : P s) : P (s.fireRollEnd cause) := by
  unfold State.fireRollEnd
  split
  · exact keeps.fire _ h
  · exact keeps.fire _ (keeps.write h (setFree_write _))

theorem TickKeeps.readback (v : Level) (h : P s) : P (s.readback v) := by
  unfold State.readback
  split
  · exact h
  · split
    · exact keeps.fire _ h
    · exact h

theorem TickKeeps.stuckNotice (h : P s) : P s.stuckNotice := by
  unfold State.stuckNotice
  split
  · exact keeps.fire _ h
  · exact h

theorem TickKeeps.stuckBit (h : P s) : P s.stuckBit := by
  unfold State.stuckBit
  split
  · refine keeps.freeOrder _ _ (fun g mem u k => ?_) h
    simp only [List.mem_cons, List.not_mem_nil, or_false] at mem
    obtain rfl | rfl | rfl := mem
    · exact keeps.fire _ k
    · exact keeps.stuckNotice k
    · exact keeps.fireRollEnd _ k
  · exact keeps.fire _ h

theorem TickKeeps.readLine (v : Level) (h : P s) : P (s.readLine v) := by
  have compared := keeps.readback v (keeps.write h (setLine_write { s.line with value := v }))
  unfold State.readLine
  dsimp only
  split
  · exact keeps.stuckBit compared
  · exact compared

theorem TickKeeps.silenceReads (v : Level) (h : P s) : P (s.silenceReads v) := by
  cases v with
  | dominant => exact keeps.write h (setSilence_write _)
  | recessive =>
    unfold State.silenceReads
    dsimp only
    split
    · exact keeps.fire _ h
    · exact keeps.write h (setSilence_write _)

theorem TickKeeps.endWithNotice (h : P s) : P s.endWithNotice := by
  unfold State.endWithNotice
  split
  · refine keeps.freeOrder _ _ (fun g mem u k => ?_) h
    simp only [List.mem_cons, List.not_mem_nil, or_false] at mem
    obtain rfl | rfl := mem
    · exact keeps.fire _ k
    · exact keeps.fireRollEnd _ k
  · exact keeps.fireRollEnd _ h

/-- The end of a stopped notice, while the roll is parsed and as the Roll Tracker alone follows it (R19). -/
theorem TickKeeps.stopNotice (h : P s) : P s.stopNotice := by
  have fired (form : NoticeForm) : P (if s.roll.parsing then s.fire (.noticeEnd form) else s) := by
    split
    · exact keeps.fire _ h
    · exact h
  have tracked {t : State} (k : P t) (form : NoticeForm) :
      P (if t.roll.state = .inRoll then t.setRoll (t.roll.noticeEnd form) else t) := by
    split
    · exact keeps.write k (trackerNoticeEnd_write form ‹_›)
    · exact k
  exact tracked (fired _) _

theorem TickKeeps.endCharacter (index : Nat) (bits : List Level) (h : P s) : P (s.endCharacter index bits) := by
  have tracked (data : Byte) (framing marker : Bool) : P
      (if s.roll.parsing then s.fire (.noticeCharacter index data framing marker)
        else s.trackCharacter index data framing marker) := by
    split
    · exact keeps.fire _ h
    · exact keeps.write h (trackCharacter_write index data framing marker)
  unfold State.endCharacter
  dsimp only
  split
  · split
    · exact keeps.endWithNotice (tracked _ _ _)
    · exact tracked _ _ _
  · exact tracked _ _ _

theorem TickKeeps.noticeBit (n : Nat) (v : Level) (h : P s) : P (s.noticeBit n v) := by
  unfold State.noticeBit
  split
  · cases v with
    | recessive => exact keeps.stopNotice h
    | dominant => exact keeps.write h (setRoll_write _ rfl (Nat.le_succ _))
  · split
    · exact keeps.endCharacter _ _ h
    · exact keeps.write h (setRoll_write _ rfl (Nat.le_succ _))

theorem TickKeeps.phaseEvent {q : Nat} (later : s.roll.position ≤ q) (last : Nat) (i : Instr) (h : P s) :
    P (s.phaseEvent q last i) := by
  unfold State.phaseEvent
  split
  · exact keeps.fire _ h
  · exact keeps.write h (setRoll_write _ rfl later)

theorem TickKeeps.flagBit {q : Nat} (later : s.roll.position ≤ q) (v : Level) (h : P s) : P (s.flagBit q v) := by
  have kept : P (if s.roll.parsing then s.fire (.flagReading v)
      else s.setRoll { s.roll with position := q, flag := some v }) := by
    split
    · exact keeps.fire _ h
    · exact keeps.write h (setRoll_write _ rfl later)
  unfold State.flagBit
  dsimp only
  split
  · exact keeps.fireRollEnd _ kept
  · exact kept

theorem TickKeeps.rollBit (v : Level) (h : P s) : P (s.rollBit v) := by
  have later : s.roll.position ≤ s.roll.position + 1 := Nat.le_succ _
  have reading (r : RollTracker) (state : r.state = s.roll.state) (place : r.position = s.roll.position) (last : Nat)
      (i : Instr) : P ((s.setRoll r).phaseEvent (s.roll.position + 1) last i) :=
    keeps.phaseEvent (by rw [State.setRoll_roll, place]; exact later) last i
      (keeps.write h (setRoll_write r state (Nat.le_of_eq place.symm)))
  unfold State.rollBit
  dsimp only
  split
  · exact reading _ (by rfl) (by rfl) _ _
  · exact reading _ (by rfl) (by rfl) _ _
  · exact reading _ (by rfl) (by rfl) _ _
  · exact reading _ (by rfl) (by rfl) _ _
  · exact keeps.flagBit later _ h
  · exact keeps.noticeBit _ _ h

theorem TickKeeps.trackerBit (run : Nat) (v : Level) (h : P s) : P (s.trackerBit run v) := by
  have counted (r : RollTracker) (state : r.state = s.roll.state) (place : r.position = s.roll.position) :
      P (s.setRoll r) := keeps.write h (setRoll_write r state (Nat.le_of_eq place.symm))
  unfold State.trackerBit
  dsimp only
  split
  · exact h
  · split
    · exact keeps.fire _ (counted _ (by rfl) (by rfl))
    · exact counted _ (by rfl) (by rfl)
  · exact counted _ (by rfl) (by rfl)
  · exact counted _ (by rfl) (by rfl)
  · exact counted _ (by rfl) (by rfl)
  · split
    · exact keeps.fire _ (counted _ (by rfl) (by rfl))
    · exact counted _ (by rfl) (by rfl)
  · split
    · exact keeps.fire _ h
    · split <;> exact keeps.fire _ h
  · exact keeps.rollBit _ h
  · split
    · exact keeps.fireRollEnd _ (counted _ (by rfl) (by rfl))
    · exact counted _ (by rfl) (by rfl)
  · exact counted _ (by rfl) (by rfl)

theorem TickKeeps.boundary (h : P s) : P s.boundary := by
  have counted : P (s.setRoll { s.roll with openLeft := s.roll.openLeft - 1 }) :=
    keeps.write h (setRoll_write _ rfl (Nat.le_refl _))
  unfold State.boundary
  dsimp only
  split
  · exact keeps.write (keeps.fire _ counted) (setLine_write _)
  · exact keeps.write counted (setLine_write _)

theorem TickKeeps.closeBit (v : Level) (h : P s) : P (s.closeBit v) :=
  keeps.boundary (keeps.trackerBit _ v (keeps.silenceReads v (keeps.write h (setLine_write _))))

theorem TickKeeps.takeLine (e : LineEvent) (h : P s) : P (s.takeLine e) := by
  cases e with
  | quiet => exact h
  | restart => exact keeps.fire .candidateOpen h
  | read v => exact keeps.readLine v h
  | close v unread edge =>
    have closed : P ((if unread then s.readLine v else s).closeBit v) := by
      split
      · exact keeps.closeBit v (keeps.readLine v h)
      · exact keeps.closeBit v h
    unfold State.takeLine
    dsimp only
    split
    · exact keeps.fire _ closed
    · exact closed

/-! #### The port's pins -/

theorem TickKeeps.commandByte (code : Byte) (h : P s) : P (s.commandByte code) := by
  have received (x : SpiRx) : P (s.setPort { s.port with rx := x }) := keeps.write h (setRx_write x)
  unfold State.commandByte
  dsimp only
  split
  · exact received _
  · split
    · split
      · exact keeps.fire _ (received _)
      · exact received _
    · exact received _

theorem TickKeeps.operandByte (x : Byte) (h : P s) : P (s.operandByte x) := by
  have received (x : SpiRx) : P (s.setPort { s.port with rx := x }) := keeps.write h (setRx_write x)
  unfold State.operandByte
  dsimp only
  split
  · exact received _
  · split
    · split
      · exact keeps.fire _ (received _)
      · exact received _
    · exact received _

theorem TickKeeps.byteIn (x : Byte) (h : P s) : P (s.byteIn x) := by
  unfold State.byteIn
  split
  · exact h
  · exact keeps.commandByte x h
  · exact keeps.operandByte x h
  · exact keeps.write h (setRx_write _)
  · exact keeps.write h (setRx_write _)

theorem TickKeeps.takePort (e : PortEvent) (h : P s) : P (s.takePort e) := by
  cases e with
  | none => exact h
  | select => exact keeps.fire .statusCapture h
  | deselect => exact keeps.fire .csnRise h
  | rise =>
    have shifted (x : SpiRx) : P (s.setPort { s.port with rx := x }) := keeps.write h (setRx_write x)
    change P s.sckRise
    unfold State.sckRise
    dsimp only
    split
    · exact keeps.byteIn _ (shifted _)
    · exact shifted _
  | fall => exact keeps.write h (setRx_write _)

/-! #### The events of one instant and the time base -/

theorem TickKeeps.takeRow (i : Instr) (h : P s) : P (s.takeRow i) := by
  by_cases reached : i = .staggerReached
  · subst reached
    have counted : P (s.setSeq { s.seq with elapsed := s.seq.elapsed + 1 }) := keeps.write h (setElapsed_write _)
    change P s.reachStagger
    unfold State.reachStagger
    dsimp only
    split
    · split
      · exact keeps.fire _ counted
      · exact counted
    · exact h
  · rw [takeRow_of_ne reached]
    split
    · exact keeps.fire i h
    · exact h

theorem TickKeeps.takeEvents (l : List TickEvent) (h : P s) : P (s.takeEvents l) := by
  refine takeEvents_keeps (fun _ n k => keeps.write k (setFree_write n)) l (fun e _ u k => ?_) s h
  cases e with
  | row i => exact keeps.takeRow i k
  | line x => exact keeps.takeLine x k
  | port x => exact keeps.takePort x k

theorem TickKeeps.timeBase (h : P s) : P s.timeBase.2 := by
  unfold State.timeBase
  split
  · have divided : P (s.setClock { s.clock with sub := 0 }) := keeps.write h (setClock_write _)
    unfold State.microsecond
    split
    · have counted := keeps.advanceTimers divided
      unfold State.lockedMicrosecond
      dsimp only
      refine keeps.write ?_ (setClock_write _)
      split
      · exact keeps.sampleFilters counted
      · exact counted
    · exact divided
  · exact keeps.write h (setClock_write _)

/-- A whole CLK period is made of rows, writes between them and counts of the timers. -/
theorem TickKeeps.tick (h : P s) : P s.tick := by
  have drawn : P s.drawPins := keeps.write h drawPins_write
  unfold State.tick
  dsimp only
  split
  · exact keeps.takeEvents _ (keeps.timeBase (keeps.write drawn (advanceBit_write _)))
  · exact keeps.fire _ drawn

end

/-! ### Units, channels and bid through every step -/

section
variable {s t : State}

theorem PeriodWrite.loads (h : PeriodWrite s t) : LoadsStill s t := by
  have image : t.port.image = s.port.image := by rw [h.port]
  have config : t.stn.state = s.stn.state := by rw [h.stn]
  refine ⟨⟨image, .inr fun ⟨rolling, early⟩ => ?_, fun e => ⟨config.symm.trans e, fun off => ?_⟩⟩, by rw [h.table],
    by rw [h.chans], by rw [h.chans], by rw [h.seq]⟩
  · rw [show t.numUnits = s.numUnits from congrArg Image.units image] at early
    obtain ⟨state, later | late⟩ | ⟨-, trailing⟩ := h.roll
    · exact ⟨⟨state.symm.trans rolling, by omega⟩, by rw [h.cont]⟩
    · omega
    · rw [trailing] at rolling
      cases rolling
  · obtain ⟨state, -⟩ | ⟨rolling, -⟩ := h.roll
    · exact state.trans off
    · rw [off] at rolling
      cases rolling

theorem advanceChan_code (s : State) (c : Chan) : (s.advanceChan c).state.code = (s.chan c).state.code := by
  unfold State.advanceChan
  cases h : (s.chan c).state <;> simp only [h] <;> rfl

/-- Channel records that differ inside their states alone. -/
theorem LoadsAgree.recode {hit : List Chan} {ks : List Nat} (h : LoadsAgree hit ks s) {x : Channels} {f : Chan → ChannelRec}
    (recs : x.recs = Vector.ofFn f) (queue : x.queue = s.chans.queue)
    (code : ∀ c, (f c).state.code = (s.chan c).state.code) : LoadsAgree hit ks (s.setChans x) :=
  h.same rfl (fun c => by rw [chan_ofFn s f x recs]; exact code c) queue rfl rfl id

theorem UnitsAgree.sampleFilters (h : UnitsAgree s) : UnitsAgree s.sampleFilters :=
  h.marks ⟨rfl, rfl, rfl, rfl, rfl, fun _ => id⟩ (h.loads.recode rfl rfl fun _ => rfl)

/-- One count of the timers changes lingers, waits and on-times, and no view and no state otherwise. -/
theorem UnitsAgree.advanceTimers (h : UnitsAgree s) : UnitsAgree s.advanceTimers := by
  have chans := h.loads.recode (x := { s.chans with
    recs := Vector.ofFn s.advanceChan
    fences := s.chans.fences.map fun f => { f with left := f.left - 1 } }) rfl rfl (advanceChan_code s)
  have units := chans.mapViews (x := s.table.mapViews fun _ v => v.advance) (f := fun _ v => v.advance) rfl
    (fun c k r _ => by cases r.view <;> rfl)
    (fun k r _ spare => by cases view : r.view <;> rw [view] at spare <;> exact spare)
    fun k r _ _ free => (advance_held r.view).trans free
  exact h.step (.of_roll rfl rfl id (.inl ⟨rfl, Nat.le_refl _⟩)) (units.same rfl (fun _ => rfl) rfl rfl rfl id)

theorem unitsAgree_tickKeeps : TickKeeps UnitsAgree :=
  ⟨fun i h => h.fire i, fun h k => h.still k.loads, UnitsAgree.advanceTimers, UnitsAgree.sampleFilters⟩

theorem UnitsAgree.of_step (h : UnitsAgree s) (taken : Machine.step s = .next t) : UnitsAgree t := by
  unfold Machine.step at taken
  split at taken
  · cases taken
    exact unitsAgree_tickKeeps.tick h
  · rename_i rest _
    rw [exec_eq_fire] at taken
    cases taken
    have popped : UnitsAgree (s.setPending rest) :=
      h.still (.of_roll rfl rfl rfl rfl rfl id (.inl ⟨rfl, Nat.le_refl _⟩))
    exact popped.fire _

theorem spareCount_eq_zero_iff (t : UnitTable) : t.spareCount = 0 ↔ ∀ r ∈ t.recs, r.view.isSpare = false := by
  unfold UnitTable.spareCount
  simp only [List.countP_eq_zero, Bool.not_eq_true]

theorem UnitsMatch.agree (queues : QueuesMatchStates s) (units : UnitsMatch s) : UnitsAgree s := by
  obtain ⟨-, queued, -, -, once, starting, disabled⟩ := queues
  obtain ⟨own, spares, config, bid⟩ := units
  refine ⟨?_, fun choosing c chosen a p w e => ?_, fun e => (config e).1⟩
  · exact {
      queued := fun c => (queued c).1
      once := once
      starting := fun c => (starting c).1
      own := fun c _ => own c
      held := nofun
      spares := spares
      config := fun e => ⟨disabled e, (spareCount_eq_zero_iff _).2 (config e).2⟩
      free := fun k mem => by
        unfold State.openChoice at mem
        split at mem
        · rename_i choosing
          have free := bid choosing.1 choosing.2
          cases e : s.cont.bid with
          | channel c chosen a p w =>
            rw [e] at mem free
            obtain ⟨r, record, unheld⟩ := free.2.2 k mem
            exact ⟨r, record, unheld⟩
          | nothing => rw [e] at mem; cases mem
          | notice => rw [e] at mem; cases mem
        · cases mem }
  · have free := bid choosing.1 choosing.2
    rw [e] at free
    exact ⟨free.1, free.2.1⟩

theorem UnitsAgree.unitsMatch (h : UnitsAgree s) : UnitsMatch s := by
  refine ⟨fun c => h.loads.own c List.not_mem_nil, h.loads.spares, fun e => ⟨h.off e, ?_⟩, fun rolling early => ?_⟩
  · obtain ⟨-, none⟩ := h.loads.config e
    exact (spareCount_eq_zero_iff _).1 none
  · have choosing : s.choosing := ⟨rolling, early⟩
    cases e : s.cont.bid with
    | channel c chosen a p w =>
      obtain ⟨nodup, length⟩ := h.chosen choosing c chosen a p w e
      refine ⟨nodup, length, fun k mem => ?_⟩
      obtain ⟨r, record, unheld⟩ := h.loads.free k (by rw [State.openChoice, if_pos choosing, e]; exact mem)
      exact ⟨r, record, unheld⟩
    | nothing => exact trivial
    | notice => exact trivial

end

/-- Settles O59: QueuesMatchStates and UnitsMatch give the agreement of units, channels and bid, which every row and
every part of a CLK period keeps. -/
theorem unitsMatchChannels : Obligations.UnitsMatchChannels := by
  unfold Obligations.UnitsMatchChannels
  intro s t queues units taken
  exact ((units.agree queues).of_step taken).unitsMatch

end Sys2Proof.Machine

namespace Sys2Proof.Machine

/-! ### Ends of linger, fence, holdoff and stagger (R39, R87, R93, R94, R99, R106) -/

theorem settle_seq (s : State) : s.settle.seq = s.holdClear.seq := rfl

/-- An ACTIVE station with KILLN high keeps its latch (R99). -/
theorem holdClear_of_active {s : State} (active : s.isActive = true) (high : s.stn.killnLow = false) :
    s.holdClear = s := by
  unfold State.holdClear
  rw [active, high]
  rfl

@[simp] theorem settle_startList (s : State) : s.settle.seq.startList = s.seq.startList := by
  rw [settle_seq]
  unfold State.holdClear
  split <;> rfl

@[simp] theorem settle_chan (s : State) (c : Chan) : s.settle.chan c = s.chan c := by
  unfold State.chan
  rw [settle_chans]

theorem checkHead_cons {s : State} {c : Chan} {rest : List Chan} (list : s.seq.startList = c :: rest) :
    s.checkHead = if s.headReady c then s.turnOn c else s := by
  unfold State.checkHead
  rw [list]

/-- The start list with the elapsed timer at the head's stagger (R93). -/
def State.atStagger (s : State) (c : Chan) : State :=
  s.setSeq { s.seq with elapsed := max s.seq.elapsed (s.port.image.staggerUs c) }

/-- The head's stagger has passed by its report, so that station and KILLN alone decide the check (R93). -/
theorem takeStaggerReached_cons {s : State} {c : Chan} {rest : List Chan} (list : s.seq.startList = c :: rest) :
    s.takeStaggerReached =
      if s.isActive && !s.stn.killnLow then (s.atStagger c).turnOn c else s.atStagger c := by
  have passed : decide (s.port.image.staggerUs c ≤ max s.seq.elapsed (s.port.image.staggerUs c)) = true :=
    decide_eq_true (Nat.le_max_right _ _)
  have counted : (s.atStagger c).headReady c = (s.isActive && !s.stn.killnLow) := by
    change (decide (s.port.image.staggerUs c ≤ max s.seq.elapsed (s.port.image.staggerUs c)) && s.isActive && !s.stn.killnLow) = _
    rw [passed, Bool.true_and]
  have taken : s.takeStaggerReached = (s.atStagger c).checkHead := by
    unfold State.takeStaggerReached
    rw [list]
    rfl
  rw [taken, checkHead_cons (s := s.atStagger c) list, counted]

theorem takeLingerExpiry_record (s : State) (k j : Nat) : (s.takeLingerExpiry k).table.recs[j]? =
    s.table.recs[j]?.map fun r => { r with view := if j = k ∧ r.view.isSpare = true then .releasing else r.view } :=
  mapViews_record s.table (fun j v => if j = k ∧ v.isSpare = true then .releasing else v) j

/-- Settles O36: fence and holdoff are written by their rows, the linger ends in the one view, and the head turns on
where the station may. -/
theorem lingerFenceHoldoffStaggerEnd : Obligations.LingerFenceHoldoffStaggerEnd := by
  unfold Obligations.LingerFenceHoldoffStaggerEnd
  intro s
  refine ⟨fun k n r record spare => ?_, fun _ => rfl, rfl, fun c rest list => ⟨fun active high => ?_, fun held => ?_⟩⟩
  · refine ⟨(s.takeLingerExpiry k).settle, rfl, ?_, fun j other => ?_, ?_⟩
    · rw [settle_table, takeLingerExpiry_record, record]
      simp [spare, View.isSpare]
    · rw [settle_table, takeLingerExpiry_record]
      simp [other]
    · simp only [settle_table, settle_chans, settle_notice, settle_port]
      exact ⟨rfl, rfl, rfl, rfl, rfl⟩
  · have ready : (s.isActive && !s.stn.killnLow) = true := by simp [State.isActive, active, high]
    have on : s.takeStaggerReached = (s.atStagger c).turnOn c := by
      rw [takeStaggerReached_cons list, if_pos ready]
    refine ⟨s.takeStaggerReached.settle, rfl, ?_⟩
    rw [on]
    have held : ((s.atStagger c).turnOn c).settle.seq = ((s.atStagger c).turnOn c).seq := by
      rw [settle_seq, holdClear_of_active (s := (s.atStagger c).turnOn c) ((isActive_iff _).2 active) high]
    refine ⟨?_, ?_, ?_, ?_, fun d other => ?_, ?_, ?_⟩
    · rw [held]
      exact congrArg List.tail list
    · rw [held]
      rfl
    · rw [held]
      rfl
    · rw [settle_chan, turnOn_chan_self]
    · rw [settle_chan, turnOn_chan_other other]
      rfl
    · rw [settle_table]
      rfl
    · rw [settle_port]
      rfl
  · have closed : s.isActive = false ∨ s.stn.killnLow = true := by
      simpa [State.isActive] using held
    have waits : s.takeStaggerReached = s.atStagger c := by
      rw [takeStaggerReached_cons list, if_neg]
      obtain away | low := closed <;> simp_all
    refine ⟨s.takeStaggerReached.settle, rfl, ?_⟩
    rw [waits]
    refine ⟨?_, ?_, settle_latch _ closed⟩
    · rw [settle_startList]
      exact list
    · rw [settle_chans]
      rfl

end Sys2Proof.Machine

namespace Sys2Proof.Machine

/-! ### The checks of LOCK in index order (R24, R162) -/

/-- In a list that ascends by a key, the first element with a property is the one with the least key. -/
theorem find?_eq_some_iff_least {α : Type} (key : α → Nat) {l : List α} (sorted : l.Pairwise fun a b => key a < key b)
    (p : α → Bool) (a : α) :
    l.find? p = some a ↔ a ∈ l ∧ p a = true ∧ ∀ b ∈ l, key b < key a → p b = false := by
  induction l with
  | nil => simp
  | cons x l ih =>
    obtain ⟨above, sorted⟩ := List.pairwise_cons.1 sorted
    cases h : p x with
    | true =>
      rw [List.find?_cons_of_pos h, Option.some_inj]
      constructor
      · rintro rfl
        refine ⟨List.mem_cons_self, h, fun b mem less => ?_⟩
        obtain rfl | mem := List.mem_cons.1 mem
        · omega
        · have := above b mem
          omega
      · rintro ⟨mem, -, least⟩
        obtain rfl | mem := List.mem_cons.1 mem
        · rfl
        · rw [least x List.mem_cons_self (above a mem)] at h
          cases h
    | false =>
      rw [List.find?_cons_of_neg (by simp [h]), ih sorted]
      constructor
      · rintro ⟨mem, holds, least⟩
        refine ⟨List.mem_cons_of_mem x mem, holds, fun b mem' less => ?_⟩
        obtain rfl | mem' := List.mem_cons.1 mem'
        · exact h
        · exact least b mem' less
      · rintro ⟨mem, holds, least⟩
        obtain rfl | mem := List.mem_cons.1 mem
        · rw [h] at holds
          cases holds
        · exact ⟨mem, holds, fun b mem' => least b (List.mem_cons_of_mem x mem')⟩

section
variable (m : Image)

theorem mem_allWins (w : Win) : w ∈ allWins := by
  revert w
  decide

/-- The window of a unit is the one R24 names. -/
theorem windowOf_eq_some (k : Nat) (w : Win) : m.windowOf k = some w ↔ Decodes m k w := by
  unfold Image.windowOf
  rw [find?_eq_some_iff_least (fun w : Win => w.val) (by decide)]
  have contains (v : Win) : (m.winOn v && decide (m.winFirst v ≤ k) && decide (k ≤ m.winLast v)) = true ↔
      m.winFirst v ≤ k ∧ k ≤ m.winLast v := by
    simp only [Image.winOn, Bool.and_eq_true, decide_eq_true_eq]
    omega
  simp only [mem_allWins, true_and, forall_const, ← Bool.not_eq_true, contains, and_assoc]
  rfl

theorem windowOf_eq_none (k : Nat) : m.windowOf k = none ↔ ∀ w, ¬ Decodes m k w := by
  simp only [← windowOf_eq_some, Option.eq_none_iff_forall_ne_some, ne_eq]

/-- A unit is usable to a channel where some window decodes it, and is open to the channel (R24, R25). -/
theorem usableCount_eq (c : Chan) : m.usableCount c = (List.range m.units).countP fun k =>
    allWins.any fun w => decide (Decodes m k w) && (m.mask c).getLsbD w.val && decide (m.reserve w ≤ m.priority c) := by
  unfold Image.usableCount
  rw [← List.countP_eq_length_filter]
  congr 1
  funext k
  simp only [← windowOf_eq_some]
  cases m.windowOf k with
  | none => simp
  | some w =>
    rw [Bool.eq_iff_iff]
    simp [Image.winUsable, mem_allWins, and_assoc]

theorem windowCheck_fails (w : Win) :
    (m.windowCheck w).ok = false ↔ m.winFirst w ≤ m.winLast w ∧ m.units ≤ m.winLast w := by
  simp [Image.windowCheck, Image.winOn]

theorem channelCheck_fails (c : Chan) :
    (m.channelCheck c).ok = false ↔ m.enabled c = true ∧ m.usableCount c < m.weight c := by
  simp [Image.channelCheck]

theorem no_window_on : allWins.any m.winOn = false ↔ ∀ w, m.winLast w < m.winFirst w := by
  simp [Image.winOn, mem_allWins]

theorem busLossCheck_fails : decide (4 * (116 + 2 * m.units) * Config.bitTimeUs m.bitTime ≤ m.busLossUs) = false ↔
    m.item 17 * 10000 < 4 * (116 + 2 * m.units) * [5, 10, 20, 50, 100].getD m.bitTime 100 := by
  have table : ∀ n, Config.bitTimeUs n = [5, 10, 20, 50, 100].getD n 100 := by
    rintro (_ | _ | _ | _ | _ | n) <;> rfl
  rw [table, decide_eq_false_iff_not, Nat.not_le]
  rfl

/-- The checks that fail are those of the table of R162. -/
theorem lockCheckFails_iff (i : Nat) :
    LockCheckFails m i ↔ ∃ k ∈ m.lockChecks, k.index = i ∧ k.ok = false := by
  have units : m.units ∉ [8, 16, 24, 32, 40, 48, 56, 64] ↔
      decide (8 ≤ m.units ∧ m.units ≤ 64 ∧ m.units % 8 = 0) = false := by
    simp only [List.mem_cons, List.not_mem_nil, or_false, decide_eq_false_iff_not]
    omega
  unfold LockCheckFails Image.lockChecks
  simp only [List.mem_append, List.mem_cons, List.not_mem_nil, or_false, List.mem_map, or_and_right, exists_or,
    exists_eq_left, or_assoc]
  simp only [exists_exists_eq_and, mem_allWins, mem_allChans, true_and, windowCheck_fails, channelCheck_fails,
    no_window_on, busLossCheck_fails, usableCount_eq]
  refine or_congr (and_congr eq_comm (by simp)) <| or_congr (and_congr eq_comm (by simp)) <|
    or_congr (and_congr eq_comm ?_) <| or_congr (exists_congr fun w => and_congr eq_comm .rfl) <|
    or_congr (and_congr eq_comm .rfl) <| or_congr (and_congr eq_comm (by simp)) <|
    or_congr (and_congr eq_comm .rfl) (exists_congr fun c => and_congr eq_comm .rfl)
  rw [← units]
  simp only [List.mem_cons, List.not_mem_nil, or_false]

theorem lockChecks_sorted : m.lockChecks.Pairwise fun a b => a.index < b.index := by
  have indices : m.lockChecks.map LockCheck.index =
      [0, 1, 2, 4, 7, 10, 13, 14, 15, 17, 33, 42, 51, 60, 69, 78, 87, 96] := rfl
  have sorted : (m.lockChecks.map LockCheck.index).Pairwise (· < ·) := by
    rw [indices]
    decide
  exact List.pairwise_map.1 sorted

/-- LOCK reports the least index whose check fails (R162). -/
theorem lockFailure_of_least {i : Nat} (fails : LockCheckFails m i) (least : ∀ j < i, ¬ LockCheckFails m j) :
    m.lockFailure = some i := by
  obtain ⟨k, mem, rfl, failed⟩ := (lockCheckFails_iff m i).1 fails
  have found : m.lockChecks.find? (fun k => !k.ok) = some k := by
    refine (find?_eq_some_iff_least _ (lockChecks_sorted m) _ k).2 ⟨mem, by simp [failed], fun b mem' less => ?_⟩
    cases ok : b.ok with
    | true => rfl
    | false => exact absurd ((lockCheckFails_iff m _).2 ⟨b, mem', rfl, ok⟩) (least _ less)
  rw [Image.lockFailure, found]
  rfl

theorem lockFailure_of_none (none : ∀ i, ¬ LockCheckFails m i) : m.lockFailure = .none := by
  rw [Image.lockFailure, Option.map_eq_none_iff, List.find?_eq_none]
  intro k mem failed
  exact none k.index ((lockCheckFails_iff m _).2 ⟨k, mem, rfl, by simpa using failed⟩)

end

/-! ### The verdict and the effect of LOCK -/

section
variable (s : State)

theorem lockVerdict_of_not_config (h : s.stn.state ≠ .config) : s.lockVerdict = .state := by
  simp [State.lockVerdict, State.inConfig, h]

theorem lockVerdict_of_config (h : s.stn.state = .config) :
    s.lockVerdict = (s.port.image.lockFailure.map Reply.lockFailed).getD .accepted := by
  have inConfig : s.inConfig = true := beq_iff_eq.2 h
  rw [State.lockVerdict, if_pos inConfig]
  cases s.port.image.lockFailure <;> rfl

theorem exec_lock_refused (h : s.lockVerdict ≠ .accepted) : exec (.lock (whole [])) s =
    .next (s.finishWrite s.lockVerdict) :=
  congrArg Host.Outcome.next (writeCommand_refused s _ 0 _ _ rfl h)

theorem finishWrite_repliedOnly (r : Reply) : RepliedOnly s (s.finishWrite r) r := by
  rw [finishWrite_eq]
  exact ⟨rfl, rfl, rfl⟩

theorem lockBlocks_record {k : Nat} (below : k < s.port.image.units) :
    s.lockBlocks.table.recs[k]? = some (s.port.image.unitRec k) := by
  change ((List.range s.port.image.units).map s.port.image.unitRec)[k]? = _
  rw [List.getElem?_map, List.getElem?_range below]
  rfl

theorem unitRec_decoded {m : Image} {k : Nat} {w : Win} (h : Decodes m k w) :
    m.unitRec k = { view := .unknown, window := some w } := by
  rw [Image.unitRec, (windowOf_eq_some m k w).2 h]

theorem unitRec_dead {m : Image} {k : Nat} (h : ∀ w, ¬ Decodes m k w) :
    m.unitRec k = { view := .dead, window := none } := by
  rw [Image.unitRec, (windowOf_eq_none m k).2 h]

theorem lockBlocks_chan (c : Chan) : s.lockBlocks.chan c =
    { ChannelRec.reset with state := if s.port.image.enabled c then .off else .disabled } := by
  change s.port.image.channelRecs[c] = _
  unfold Image.channelRecs
  simp only [Fin.getElem_fin, Vector.getElem_ofFn]

end

/-- Settles O42: the verdict is that of the least failing check, and an accepted LOCK writes each block as a whole. -/
theorem lockStartsBlocks : Obligations.LockStartsBlocks := by
  unfold Obligations.LockStartsBlocks
  intro s
  refine ⟨fun outside => ?_, fun config i fails least => ?_, fun config passes => ?_⟩
  · have verdict := lockVerdict_of_not_config s outside
    refine ⟨_, exec_lock_refused s (by rw [verdict]; nofun), ?_⟩
    rw [verdict]
    exact finishWrite_repliedOnly s _
  · have verdict : s.lockVerdict = .lockFailed i := by
      rw [lockVerdict_of_config s config, lockFailure_of_least _ fails least]
      rfl
    refine ⟨_, exec_lock_refused s (by rw [verdict]; nofun), ?_⟩
    rw [verdict]
    exact finishWrite_repliedOnly s _
  · have verdict : s.lockVerdict = .accepted := by
      rw [lockVerdict_of_config s config, lockFailure_of_none _ passes]
      rfl
    have locked : s.takeLock (whole []) = s.lockBlocks.finishWrite .accepted := by
      rw [State.takeLock, verdict]
      exact writeCommand_accepted s _ 0 _ rfl
    refine ⟨_, congrArg Host.Outcome.next locked, ?_⟩
    rw [finishWrite_eq]
    refine ⟨rfl, rfl, rfl, rfl, rfl, rfl, rfl, rfl, rfl, rfl, rfl, rfl, rfl, rfl, rfl, rfl, rfl, rfl, ?_,
      fun k below => ⟨fun w decoded => ?_, fun dead => ?_⟩, rfl, rfl, rfl, fun c => ?_, rfl, rfl, rfl, rfl, rfl⟩
    · exact (List.length_map _).trans List.length_range
    · exact (lockBlocks_record s below).trans (congrArg some (unitRec_decoded decoded))
    · exact (lockBlocks_record s below).trans (congrArg some (unitRec_dead dead))
    · exact lockBlocks_chan s c

end Sys2Proof.Machine

namespace Sys2Proof.Machine

/-! ### SKEW and the views of HOLD complete (R26, R28, R30, R31) -/

section
variable {s : State}

/-- A settled latch has no bit that the latch before had not (R99). -/
theorem settle_latch_subset (s : State) : s.settle.seq.latch &&& s.seq.latch = s.settle.seq.latch := by
  rw [settle_seq]
  unfold State.holdClear
  split
  · exact BitVec.and_self
  · exact BitVec.zero_and

@[simp] theorem settle_elapsed (s : State) : s.settle.seq.elapsed = s.seq.elapsed := by
  rw [settle_seq]
  unfold State.holdClear
  split <;> rfl

/-- A DEAD unit is read dominant in a roll that has no SKEW yet (R26). -/
abbrev Skewed (s : State) (units : List Nat) : Prop :=
  s.table.skewMark = false ∧ ∃ k ∈ units, ∃ r, s.table.recs[k]? = some r ∧ r.view = .dead

theorem readsDead_iff (s : State) (units : List Nat) :
    (units.any fun k => (s.table.recs[k]?).any fun r => r.view == .dead) = true ↔
      ∃ k ∈ units, ∃ r, s.table.recs[k]? = some r ∧ r.view = .dead := by
  simp only [List.any_eq_true, Option.any_eq_true, beq_iff_eq]

open Classical in
theorem markSkew_events (s : State) (units : List Nat) : (s.markSkew units).port.events =
    if Skewed s units then s.port.events ||| 0x0080 else s.port.events := by
  unfold State.markSkew
  simp only [readsDead_iff]
  split <;> rfl

theorem holdView_eq (s : State) (units : List Nat) (k : Nat) (v : View) :
    holdView s.table.driveSet units k v = viewAfterHold s units k v := by
  unfold holdView viewAfterHold
  by_cases dead : v = .dead
  · simp [dead]
  · by_cases drive : k ∈ s.table.driveSet
    · simp [dead, drive]
    · simp [dead, drive]

theorem holdView_free_iff (driveSet units : List Nat) (k : Nat) (v : View) (out : k ∉ driveSet) :
    holdView driveSet units k v = .free ↔ v ≠ .dead ∧ v.held = false ∧ k ∉ units := by
  unfold holdView
  rw [if_neg out]
  cases v <;> simp [View.held]

theorem mem_freed (t : UnitTable) (units : List Nat) (k : Nat) : k ∈ t.freed units ↔
    ∃ r, t.recs[k]? = some r ∧ r.view ≠ .dead ∧ r.view.held = false ∧ k ∉ t.driveSet ∧ k ∉ units := by
  unfold UnitTable.freed
  simp only [List.mem_filter, List.mem_range, Option.any_eq_true, Bool.and_eq_true, decide_eq_true_eq,
    Bool.not_eq_true', decide_eq_false_iff_not]
  constructor
  · rintro ⟨-, r, record, free, out⟩
    obtain ⟨live, unheld, unread⟩ := (holdView_free_iff _ _ _ _ out).1 free
    exact ⟨r, record, live, unheld, out, unread⟩
  · rintro ⟨r, record, live, unheld, out, unread⟩
    obtain ⟨below, -⟩ := List.getElem?_eq_some_iff.1 record
    exact ⟨below, r, record, (holdView_free_iff _ _ _ _ out).2 ⟨live, unheld, unread⟩, out⟩

theorem holdViews_views (s : State) (units : List Nat) :
    ViewsBecome s (s.holdViews units) fun k v => viewAfterHold s units k v := by
  obtain ⟨recs, drive, -⟩ := markSkew_blocks s units
  intro k
  change ((s.markSkew units).table.mapViews _).recs[k]? = _
  rw [mapViews_record, recs, drive]
  simp only [holdView_eq]

/-- A station that does not listen takes HOLD complete for its bid alone, and has none (R28, R46). -/
theorem takeHoldComplete_eq (due : InPhase s s.numUnits) (units : List Nat) : s.takeHoldComplete units =
    if s.listens then ((s.toPosition s.numUnits).holdViews units).formBid else (s.toPosition s.numUnits).formBid := by
  unfold State.takeHoldComplete
  rw [if_pos ((phaseDue_iff s _).2 due)]
  exact apply_ite State.formBid (s.listens = true) _ _

theorem listens_of_deaf {s : State} (h : s.stn.state ∈ [.config, .left, .halted, .faulted]) : s.listens = false := by
  unfold State.listens
  simp only [List.mem_cons, List.not_mem_nil, or_false] at h
  obtain e | e | e | e := h <;> rw [e]

end

/-- Settles O11: the views are those of R30, the free set is what they leave FREE, and the bid touches neither. -/
theorem holdCompleteUpdatesViews : Obligations.HoldCompleteUpdatesViews := by
  unfold Obligations.HoldCompleteUpdatesViews
  intro s units due
  have taken := takeHoldComplete_eq due units
  refine ⟨fun listens => ?_, fun deaf => ?_⟩
  · rw [if_pos listens] at taken
    refine ⟨(s.takeHoldComplete units).settle, rfl, ?_⟩
    rw [taken]
    obtain ⟨recs, drive, chans, seq, notice⟩ := markSkew_blocks (s.toPosition s.numUnits) units
    have frame := markSkew_marks (s.toPosition s.numUnits) units
    have seq : ((s.toPosition s.numUnits).holdViews units).formBid.seq = s.seq := seq
    have notice : ((s.toPosition s.numUnits).holdViews units).notice = s.notice := notice
    have stn : ((s.toPosition s.numUnits).holdViews units).formBid.stn = s.stn := frame.stn
    refine ⟨fun k => ?_, fun k => ?_, ?_, ?_, ?_, ?_, ?_, ?_, fun active high => ?_, ?_, ?_, ?_, ?_⟩
    · rw [settle_table]
      exact holdViews_views (s.toPosition s.numUnits) units k
    · rw [settle_table]
      refine (mem_freed ((s.toPosition s.numUnits).markSkew units).table units k).trans ?_
      rw [recs, drive]
      rfl
    · rw [settle_table]
      exact drive
    · rw [settle_port]
      exact markSkew_events (s.toPosition s.numUnits) units
    · rw [settle_chans]
      exact chans
    · rw [settle_startList, seq]
    · rw [settle_elapsed, seq]
    · rw [← seq]
      exact settle_latch_subset _
    · rw [settle_seq, holdClear_of_active, seq]
      · rw [isActive_iff, stn]
        exact active
      · rw [stn]
        exact high
    · rw [settle_notice]
      change ((s.toPosition s.numUnits).holdViews units).notice.ring = _
      rw [notice]
    · rw [settle_notice]
      change ((s.toPosition s.numUnits).holdViews units).notice.tx = _
      rw [notice]
    · rw [settle_notice]
      change ((s.toPosition s.numUnits).holdViews units).notice.slot = _
      rw [notice]
    · rw [settle_state, stn]
  · rw [listens_of_deaf deaf] at taken
    refine ⟨(s.takeHoldComplete units).settle, rfl, ?_⟩
    rw [taken]
    simp only [Bool.false_eq_true, if_false, settle_table, settle_chans, settle_port, settle_state]
    exact ⟨rfl, rfl, rfl, rfl⟩

end Sys2Proof.Machine

namespace Sys2Proof.Machine

/-! ### TAKE complete up to the sheds (R26, R28, R32, R33) -/

/-- The state in which TAKE complete is handled: in its position, with SKEW where a DEAD unit is read dominant. -/
def State.takeStart (s : State) (units : List Nat) : State :=
  (s.toPosition (2 * s.numUnits + 10)).markSkew units

section
variable {s : State} {units : List Nat}

/-- Nothing but position, skew mark and SKEW distinguishes it from the state before. -/
structure TakeStarted (s t : State) : Prop where
  recs : t.table.recs = s.table.recs
  driveSet : t.table.driveSet = s.table.driveSet
  chans : t.chans = s.chans
  seq : t.seq = s.seq
  notice : t.notice = s.notice
  cont : t.cont = s.cont
  stn : t.stn = s.stn
  image : t.port.image = s.port.image

theorem takeStart_started (s : State) (units : List Nat) : TakeStarted s (s.takeStart units) := by
  obtain ⟨recs, drive, chans, seq, notice⟩ := markSkew_blocks (s.toPosition (2 * s.numUnits + 10)) units
  have frame := markSkew_marks (s.toPosition (2 * s.numUnits + 10)) units
  exact ⟨recs, drive, chans, seq, notice, frame.cont, frame.stn, frame.image⟩

open Classical in
theorem takeStart_events (s : State) (units : List Nat) : (s.takeStart units).port.events =
    if Skewed s units then s.port.events ||| 0x0080 else s.port.events :=
  markSkew_events (s.toPosition (2 * s.numUnits + 10)) units

theorem TakeStarted.chan {t : State} (h : TakeStarted s t) (c : Chan) : t.chan c = s.chan c := by
  rw [State.chan, State.chan, h.chans]

theorem TakeStarted.overlapped {t : State} (h : TakeStarted s t) : t.overlapped units = s.overlapped units := by
  unfold State.overlapped UnitTable.boundUnits UnitTable.unitsWhere
  rw [h.recs]

theorem takeTakeComplete_deaf (due : InPhase s (2 * s.numUnits + 10)) (deaf : s.listens = false) :
    s.takeTakeComplete units = s.toPosition (2 * s.numUnits + 10) := by
  unfold State.takeTakeComplete
  rw [if_pos ((phaseDue_iff s _).2 due)]
  exact if_neg (by rw [Bool.not_eq_true]; exact deaf)

theorem takeTakeComplete_listening (due : InPhase s (2 * s.numUnits + 10)) (listens : s.listens = true) :
    s.takeTakeComplete units =
      if s.isActive && decide (s.cont.outcome = .won) then (s.takeStart units).takeByWinner units
      else (s.takeStart units).takeByPeer units := by
  have start := takeStart_started s units
  unfold State.takeTakeComplete
  rw [if_pos ((phaseDue_iff s _).2 due)]
  dsimp only
  rw [if_pos (show (s.toPosition (2 * s.numUnits + 10)).listens = true from listens)]
  change (if (s.takeStart units).isActive && decide ((s.takeStart units).cont.outcome = .won) then _ else _) = _
  rw [State.isActive, State.isActive, start.stn, start.cont]
  rfl

theorem takeTakeComplete_peer (due : InPhase s (2 * s.numUnits + 10)) (listens : s.listens = true)
    (lost : s.cont.outcome ≠ .won) : s.takeTakeComplete units = (s.takeStart units).takeByPeer units := by
  rw [takeTakeComplete_listening due listens, if_neg (by simp [lost])]

theorem active_listens (active : s.stn.state = .active) : s.listens = true := by
  simp [State.listens, active]

theorem takeTakeComplete_winner (due : InPhase s (2 * s.numUnits + 10)) (active : s.stn.state = .active)
    (won : s.cont.outcome = .won) : s.takeTakeComplete units = (s.takeStart units).takeByWinner units := by
  rw [takeTakeComplete_listening due (active_listens active), if_pos (by simp [State.isActive, active, won])]

theorem overlaps_iff (s : State) (units : List Nat) :
    s.overlaps units = true ↔ ∃ k ∈ units, ∃ r, s.table.recs[k]? = some r ∧ r.view.held = true := by
  unfold State.overlaps
  rw [List.any_eq_true]
  simp only [mem_unitsWhere, decide_eq_true_eq]
  exact ⟨fun ⟨k, held, mem⟩ => ⟨k, mem, held⟩, fun ⟨k, mem, held⟩ => ⟨k, held, mem⟩⟩

theorem takeView_eq (units : List Nat) (k : Nat) (v : View) :
    takeView units k v = if k ∈ units ∧ v ≠ .dead then .peer else v := by
  unfold takeView
  by_cases dead : v = .dead <;> simp [dead]

/-- Two flags set one after the other, each under its condition. -/
theorem or_flags (e a b : BitVec 16) (p q : Prop) [Decidable p] [Decidable q] :
    (if p then (if q then e ||| b else e) ||| a else if q then e ||| b else e) =
      e ||| (if p then a else 0) ||| (if q then b else 0) := by
  by_cases hp : p
  · by_cases hq : q
    · simp only [hp, hq, if_true]
      rw [BitVec.or_assoc, BitVec.or_assoc, BitVec.or_comm b a]
    · simp [hp, hq]
  · by_cases hq : q <;> simp [hp, hq]

/-- A peer's take up to its sheds: OVERLAP, and the units read dominant PEER (R32, R33). -/
def State.peerViews (s : State) (units : List Nat) : State :=
  let t := if s.overlaps units then s.setEvent .overlap else s
  t.setTable (t.table.mapViews (takeView units))

/-- Where no channel loses a unit a peer's take ends there. -/
theorem takeByPeer_of_none (none : s.overlapped units = []) : s.takeByPeer units = s.peerViews units := by
  unfold State.takeByPeer
  rw [none]
  rfl

theorem peerViews_record (s : State) (units : List Nat) (k : Nat) : (s.peerViews units).table.recs[k]? =
    (s.table.recs[k]?).map fun r => { r with view := if k ∈ units ∧ r.view ≠ .dead then .peer else r.view } := by
  have same : (s.peerViews units).table.recs = (s.table.mapViews (takeView units)).recs := by
    unfold State.peerViews
    dsimp only
    split <;> rfl
  rw [same, mapViews_record]
  simp only [takeView_eq]

/-- What a peer's take up to its sheds leaves as it was. -/
theorem peerViews_blocks (s : State) (units : List Nat) : (s.peerViews units).chans = s.chans ∧
    (s.peerViews units).seq = s.seq ∧ (s.peerViews units).notice = s.notice ∧ (s.peerViews units).cont = s.cont ∧
    (s.peerViews units).stn = s.stn ∧ (s.peerViews units).port.image = s.port.image ∧
    (s.peerViews units).table.driveSet = s.table.driveSet := by
  unfold State.peerViews
  dsimp only
  split <;> exact ⟨rfl, rfl, rfl, rfl, rfl, rfl, rfl⟩

theorem peerViews_events (s : State) (units : List Nat) : (s.peerViews units).port.events =
    if s.overlaps units then s.port.events ||| 0x0004 else s.port.events := by
  unfold State.peerViews
  dsimp only
  split <;> rfl

end

/-- Settles O19: with no OWN unit read dominant a peer's take ends before its sheds. -/
theorem takeCompleteMarksPeersAndSpares : Obligations.TakeCompleteMarksPeersAndSpares := by
  unfold Obligations.TakeCompleteMarksPeersAndSpares
  intro s units due
  refine ⟨fun listens lost unowned => ?_, fun deaf => ?_⟩
  · have start := takeStart_started s units
    have none : (s.takeStart units).overlapped units = [] := by
      rw [start.overlapped, List.eq_nil_iff_forall_not_mem]
      intro c mem
      obtain ⟨k, read, r, record, own⟩ := (mem_overlapped s units c).1 mem
      exact unowned k read r record c own
    have spare : (s.takeStart units).overlaps units = true ↔
        ∃ k ∈ units, ∃ r, s.table.recs[k]? = some r ∧ r.view.isSpare = true := by
      rw [overlaps_iff, start.recs]
      refine exists_congr fun k => and_congr_right fun mem => exists_congr fun r => and_congr_right fun record => ?_
      have other := unowned k mem r record
      cases view : r.view <;> simp_all [View.held, View.isSpare]
    obtain ⟨chans, seq, notice, cont, stn, image, drive⟩ := peerViews_blocks (s.takeStart units) units
    refine ⟨(s.takeTakeComplete units).settle, rfl, ?_⟩
    rw [takeTakeComplete_peer due listens lost, takeByPeer_of_none none]
    refine ⟨?_, fun k => ?_, ?_, ?_, ?_, ?_, ?_, ?_⟩
    · rw [settle_chans, chans, start.chans]
    · rw [settle_table, peerViews_record, start.recs]
    · rw [settle_port, peerViews_events, takeStart_events]
      simp only [spare]
      exact or_flags _ 0x0004 0x0080 _ _
    · rw [settle_startList, seq, start.seq]
    · have kept := settle_latch_subset ((s.takeStart units).peerViews units)
      rw [seq, start.seq] at kept
      exact kept
    · rw [settle_table, drive, start.driveSet]
    · rw [settle_notice, notice, start.notice]
    · rw [settle_cont, cont, start.cont]
  · refine ⟨(s.takeTakeComplete units).settle, rfl, ?_⟩
    rw [takeTakeComplete_deaf due (listens_of_deaf deaf)]
    simp only [settle_table, settle_chans, settle_port, settle_state]
    exact ⟨rfl, rfl, rfl, rfl⟩

end Sys2Proof.Machine

namespace Sys2Proof.Machine

/-! ### A winner's take (R35, R58, R74, R91, R93) -/

section
variable {s : State} {c d : Chan}

/-- The channel has left the queue for the back of the start list, whose head is still to be checked (R74, R91). -/
def State.appended (s : State) (c : Chan) : State :=
  ((s.leaveQueue c).setChState c .starting).setSeq { s.seq with startList := s.seq.startList ++ [c] }

/-- What stands apart from channel, queue, start list and requester. -/
theorem appended_blocks (s : State) (c : Chan) : (s.appended c).table = s.table ∧ (s.appended c).cont = s.cont ∧
    (s.appended c).stn = s.stn ∧ (s.appended c).port = s.port ∧
    (s.appended c).notice = { s.notice with slot := withoutRequester c s.notice.slot } ∧
    (s.appended c).chans.queue = s.chans.queue.filter (· ≠ c) := by
  unfold State.appended
  rw [leaveQueue_eq]
  exact ⟨rfl, rfl, rfl, rfl, rfl, rfl⟩

@[simp] theorem appended_chan_self (s : State) (c : Chan) :
    (s.appended c).chan c = { s.chan c with state := .starting } := by
  unfold State.appended
  rw [leaveQueue_eq]
  exact chan_setChState_self _ c _

theorem appended_chan_other (h : d ≠ c) : (s.appended c).chan d = s.chan d := by
  unfold State.appended
  rw [leaveQueue_eq]
  exact chan_setChState_other _ c d _ h

theorem toStarting_checkHead (s : State) (c : Chan) : s.toStarting c = (s.appended c).checkHead := by
  have seq : ((s.leaveQueue c).setChState c .starting).seq = s.seq := leaveQueue_seq s c
  unfold State.toStarting State.appendStart
  rw [seq]
  rfl

/-- The check that goes with the append is one of the head, be it the channel or one before it (R93). -/
theorem toStarting_eq (s : State) (c : Chan) : s.toStarting c =
    if (s.appended c).headReady (s.seq.startList.headD c) then (s.appended c).turnOn (s.seq.startList.headD c)
    else s.appended c := by
  rw [toStarting_checkHead]
  cases list : s.seq.startList with
  | nil => exact checkHead_cons (rest := []) (congrArg (· ++ [c]) list)
  | cons d rest => exact checkHead_cons (rest := rest ++ [c]) (congrArg (· ++ [c]) list)

theorem turnOn_seq (s : State) (c : Chan) : (s.turnOn c).seq =
    { startList := s.seq.startList.tail, elapsed := 0, latch := s.seq.latch ||| BitVec.twoPow 8 c.val } := rfl

theorem headReady_iff (s : State) (c : Chan) : s.headReady c = true ↔
    s.port.image.staggerUs c ≤ s.seq.elapsed ∧ s.stn.state = .active ∧ s.stn.killnLow = false := by
  simp [State.headReady, State.isActive, and_assoc]

/-- What stands apart from channels, queue, start list and requester. -/
theorem toStarting_blocks (s : State) (c : Chan) : (s.toStarting c).table = s.table ∧ (s.toStarting c).cont = s.cont ∧
    (s.toStarting c).stn = s.stn ∧ (s.toStarting c).port = s.port ∧
    (s.toStarting c).notice = { s.notice with slot := withoutRequester c s.notice.slot } ∧
    (s.toStarting c).chans.queue = s.chans.queue.filter (· ≠ c) := by
  rw [toStarting_eq]
  split <;> exact appended_blocks s c

theorem toStarting_chan_other (h : d ≠ c) (tail : d ≠ s.seq.startList.headD c) : (s.toStarting c).chan d = s.chan d := by
  rw [toStarting_eq]
  split
  · rw [turnOn_chan_other tail, appended_chan_other h]
  · exact appended_chan_other h

/-- The units chosen for a channel that still waits are bound to it (R35, R58). -/
theorem takeByWinner_binds {units chosen : List Nat} {a : Option NoticeSource} {p : Nat} {word : BitVec 10}
    (bid : s.cont.bid = .channel c chosen a p word) (clear : s.cont.conflictMark = false)
    (waiting : (s.chan c).state.isWaiting = true) :
    s.takeByWinner units = (s.bindUnits c chosen).toStarting c := by
  unfold State.takeByWinner
  rw [bid]
  dsimp only
  rw [clear, if_neg Bool.false_ne_true, if_pos waiting]

theorem bindUnits_record (s : State) (c : Chan) (chosen : List Nat) (k : Nat) :
    (s.bindUnits c chosen).table.recs[k]? =
      (s.table.recs[k]?).map fun r => { r with view := if k ∈ chosen then .own c else r.view } :=
  mapViews_record s.table (fun k v => if k ∈ chosen then .own c else v) k

end

/-- Settles O17: the units are bound, and the append's check of the head decides who is STARTING and who ON. -/
theorem takeCompleteBindsWinner : Obligations.TakeCompleteBindsWinner := by
  unfold Obligations.TakeCompleteBindsWinner
  intro s units chosen c a p word e w due active won clear bid waits
  have start := takeStart_started s units
  let b := (s.takeStart units).bindUnits c chosen
  have taken : s.takeTakeComplete units = b.toStarting c := by
    rw [takeTakeComplete_winner due active won]
    exact takeByWinner_binds (by rw [start.cont]; exact bid) (by rw [start.cont]; exact clear)
      (by rw [start.chan, waits]; rfl)
  obtain ⟨table, cont, stn, port, notice, queue⟩ := toStarting_blocks b c
  have seq : b.seq = s.seq := start.seq
  have chan (d : Chan) : b.chan d = s.chan d := start.chan d
  have list : (b.appended c).seq = { s.seq with startList := s.seq.startList ++ [c] } := by
    change { b.seq with startList := b.seq.startList ++ [c] } = _
    rw [seq]
  have ready : (b.appended c).headReady (s.seq.startList.headD c) = true ↔
      s.port.image.staggerUs (s.seq.startList.headD c) ≤ s.seq.elapsed ∧ s.stn.killnLow = false := by
    obtain ⟨-, -, stn, port, -⟩ := appended_blocks b c
    rw [headReady_iff, stn.trans start.stn, list, (congrArg LocalPort.image port).trans start.image]
    simp [active]
  have checked := toStarting_eq b c
  rw [seq] at checked
  refine ⟨(s.takeTakeComplete units).settle, rfl, ?_⟩
  rw [taken]
  refine ⟨fun k => ?_, ?_, fun waits => ?_, fun passed high => ?_, fun d apart tail => ?_, ?_, ?_⟩
  · rw [settle_table, table, bindUnits_record, start.recs]
  · rw [settle_chans, queue]
    exact congrArg (fun x : Channels => x.queue.filter (· ≠ c)) start.chans
  · rw [if_neg] at checked
    · rw [settle_chan, settle_startList, settle_elapsed, checked, list, appended_chan_self]
      exact ⟨rfl, rfl, rfl⟩
    · rw [ready]
      rintro ⟨passed, high⟩
      obtain early | low := waits
      · omega
      · rw [high] at low
        cases low
  · rw [if_pos (ready.2 ⟨passed, high⟩)] at checked
    refine ⟨?_, ?_, fun other => ?_⟩
    · rw [settle_chan, checked, turnOn_chan_self]
    · rw [settle_seq, holdClear_of_active, checked]
      · rw [turnOn_seq, list]
      · rw [isActive_iff, stn]
        exact (congrArg StationCtl.state start.stn).trans active
      · rw [stn]
        exact (congrArg StationCtl.killnLow start.stn).trans high
    · rw [settle_chan, checked, turnOn_chan_other (Ne.symm other), appended_chan_self]
  · rw [settle_chan, toStarting_chan_other apart (by rw [seq]; exact tail), chan]
  · rw [settle_notice, notice]
    exact congrArg (fun n : NoticeUnit => { n with slot := withoutRequester c n.slot }) start.notice
  · rw [settle_cont, cont]
    exact start.cont

end Sys2Proof.Machine

namespace Sys2Proof.Machine

/-! ### Views that change by a rule (R27) -/

/-- Each unit keeps its window, and its view becomes one that the rule allows. -/
def ViewsGo (rule : View → View → Prop) (s t : State) : Prop :=
  ∀ k : Nat, Option.Rel (fun r r' : UnitRec => r'.window = r.window ∧ rule r.view r'.view) s.table.recs[k]? t.table.recs[k]?

section
variable {s t u : State} {p q r : View → View → Prop}

theorem ViewsGo.of_same (table : t.table.recs = s.table.recs) (same : ∀ v, p v v) : ViewsGo p s t := by
  intro k
  rw [table]
  cases s.table.recs[k]? with
  | none => exact .none
  | some x => exact .some ⟨rfl, same _⟩

theorem ViewsGo.of_map {f : Nat → View → View} (table : t.table.recs = (s.table.mapViews f).recs)
    (by_rule : ∀ k x, s.table.recs[k]? = some x → p x.view (f k x.view)) : ViewsGo p s t := by
  intro k
  rw [table, mapViews_record]
  cases record : s.table.recs[k]? with
  | none => exact .none
  | some x => exact .some ⟨rfl, by_rule k x record⟩

theorem ViewsGo.comp (h : ViewsGo p s t) (k : ViewsGo q t u) (both : ∀ v w x, p v w → q w x → r v x) :
    ViewsGo r s u := by
  intro n
  have first := h n
  have second := k n
  generalize s.table.recs[n]? = a at first ⊢
  generalize t.table.recs[n]? = b at first second
  generalize u.table.recs[n]? = c at second ⊢
  cases first with
  | none =>
    cases second
    exact .none
  | some first =>
    cases second with
    | some second => exact .some ⟨second.1.trans first.1, both _ _ _ first.2 second.2⟩

theorem ViewsGo.forward {k : Nat} {x : UnitRec} (h : ViewsGo p s t) (record : s.table.recs[k]? = some x) :
    ∃ y, t.table.recs[k]? = some y ∧ y.window = x.window ∧ p x.view y.view := by
  have here := h k
  rw [record] at here
  generalize t.table.recs[k]? = b at here ⊢
  cases here with
  | some told => exact ⟨_, rfl, told⟩

theorem ViewsGo.backward {k : Nat} {y : UnitRec} (h : ViewsGo p s t) (record : t.table.recs[k]? = some y) :
    ∃ x, s.table.recs[k]? = some x ∧ y.window = x.window ∧ p x.view y.view := by
  have here := h k
  rw [record] at here
  generalize s.table.recs[k]? = a at here ⊢
  cases here with
  | some told => exact ⟨_, rfl, told⟩

end

/-! ### Turn-ons and bindings of spares among known channels (R40, R81, R93, R94) -/

/-- What no shed, turn-on or binding touches. -/
structure ShedKeeps (s t : State) : Prop extends LoadFrame s t where
  ring : t.notice.ring = s.notice.ring
  fences : t.chans.fences = s.chans.fences

/-- The channels of the queue and of the start list are among these, and a channel that may wait may start. -/
structure Within (waits starts : Chan → Prop) (s : State) : Prop where
  queue : ∀ c ∈ s.chans.queue, waits c
  list : ∀ c ∈ s.seq.startList, starts c
  sub : ∀ c, waits c → starts c

/-- A channel's record stays, or its state alone changes, to one that holds units. -/
def Starts (x y : ChannelRec) : Prop := y = x ∨ ∃ state : ChState, state.holdsUnits = true ∧ y = { x with state := state }

/-- What turn-ons and bindings of spares make of a state in which no other channels wait or start. -/
structure Advances (waits starts : Chan → Prop) (s t : State) : Prop extends ShedKeeps s t where
  queue : t.chans.queue ⊆ s.chans.queue
  list : ∀ c ∈ t.seq.startList, c ∈ s.seq.startList ∨ waits c
  chan : ∀ c, Starts (s.chan c) (t.chan c) ∧ (¬ starts c → t.chan c = s.chan c)
  views : ViewsGo (fun v w => w = v ∨ v.isSpare = true ∧ ∃ c, waits c ∧ w = .own c) s t

section
variable {s t u : State} {c d : Chan} {waits starts : Chan → Prop}

theorem ShedKeeps.refl (s : State) : ShedKeeps s s := ⟨.refl s, rfl, rfl⟩

theorem ShedKeeps.trans (h : ShedKeeps s t) (k : ShedKeeps t u) : ShedKeeps s u :=
  ⟨h.toLoadFrame.trans k.toLoadFrame, k.ring.trans h.ring, k.fences.trans h.fences⟩

theorem Starts.trans {x y z : ChannelRec} (h : Starts x y) (k : Starts y z) : Starts x z := by
  obtain rfl | ⟨state, holds, rfl⟩ := h
  · exact k
  · obtain rfl | ⟨state', holds', rfl⟩ := k
    · exact .inr ⟨state, holds, rfl⟩
    · exact .inr ⟨state', holds', rfl⟩

theorem Advances.refl (s : State) : Advances waits starts s s :=
  ⟨.refl s, List.Subset.refl _, fun _ => .inl, fun _ => ⟨.inl rfl, fun _ => rfl⟩, .of_same rfl fun _ => .inl rfl⟩

theorem Advances.trans (h : Advances waits starts s t) (k : Advances waits starts t u) : Advances waits starts s u := by
  refine ⟨h.toShedKeeps.trans k.toShedKeeps, List.Subset.trans k.queue h.queue, fun c mem => ?_, fun c => ?_, ?_⟩
  · obtain mem | wait := k.list c mem
    · exact h.list c mem
    · exact .inr wait
  · obtain ⟨first, same⟩ := h.chan c
    obtain ⟨second, same'⟩ := k.chan c
    exact ⟨first.trans second, fun out => (same' out).trans (same out)⟩
  · refine h.views.comp k.views fun v w x first second => ?_
    obtain rfl | ⟨spare, c, wait, rfl⟩ := first
    · exact second
    · obtain rfl | ⟨spare', -⟩ := second
      · exact .inr ⟨spare, c, wait, rfl⟩
      · cases spare'

theorem Advances.within (h : Advances waits starts s t) (k : Within waits starts s) : Within waits starts t :=
  ⟨fun c mem => k.queue c (h.queue mem), fun c mem => (h.list c mem).elim (k.list c) (k.sub c), k.sub⟩

theorem turnOn_advances {rest : List Chan} (head : s.seq.startList = c :: rest) (may : starts c) :
    Advances waits starts s (s.turnOn c) := by
  refine ⟨⟨(setSeq_load s _).trans (setChState_load _ _ _), rfl, rfl⟩, List.Subset.refl _, fun d mem => .inl ?_,
    fun d => ?_, .of_same rfl fun _ => .inl rfl⟩
  · rw [turnOn_seq] at mem
    exact List.mem_of_mem_tail mem
  · by_cases e : d = c
    · subst e
      rw [turnOn_chan_self]
      exact ⟨.inr ⟨_, rfl, rfl⟩, fun out => absurd may out⟩
    · rw [turnOn_chan_other e]
      exact ⟨.inl rfl, fun _ => rfl⟩

theorem checkHead_advances (h : Within waits starts s) : Advances waits starts s s.checkHead := by
  cases head : s.seq.startList with
  | nil =>
    unfold State.checkHead
    rw [head]
    exact .refl s
  | cons c rest =>
    rw [checkHead_cons head]
    split
    · exact turnOn_advances head (h.list c (by rw [head]; exact List.mem_cons_self))
    · exact .refl s

/-- A channel of the queue goes to the start list with its check (R74, R91). -/
theorem toStarting_advances (h : Within waits starts s) (wait : waits c) : Advances waits starts s (s.toStarting c) := by
  have appended : Advances waits starts s (s.appended c) := by
    obtain ⟨table, -, -, -, notice, queue⟩ := appended_blocks s c
    refine ⟨⟨((leaveQueue_load s c).trans (setChState_load _ _ _)).trans (setSeq_load _ _), by rw [notice], ?_⟩, ?_,
      fun d mem => ?_, fun d => ?_, .of_same (by rw [table]) fun _ => .inl rfl⟩
    · unfold State.appended
      rw [leaveQueue_eq]
      rfl
    · rw [queue]
      exact List.filter_subset_self _
    · obtain mem | last := List.mem_append.1 mem
      · exact .inl mem
      · rw [List.mem_singleton.1 last]
        exact .inr wait
    · by_cases e : d = c
      · subst e
        rw [appended_chan_self]
        exact ⟨.inr ⟨_, rfl, rfl⟩, fun out => absurd (h.sub _ wait) out⟩
      · rw [appended_chan_other e]
        exact ⟨.inl rfl, fun _ => rfl⟩
  rw [toStarting_checkHead]
  exact appended.trans (checkHead_advances (appended.within h))

/-- Spares are bound to a channel of the queue (R40, R81). -/
theorem bindSpares_advances (h : Within waits starts s) (fits : s.spareCandidate = some c) :
    Advances waits starts s (s.bindSpares c) := by
  obtain ⟨queued, -⟩ := spareCandidate_fits fits
  have wait := h.queue c queued
  let l := (s.spareUsable c).take (s.port.image.weight c)
  have bound : Advances waits starts s (s.bindUnits c l) := by
    refine ⟨⟨bindUnits_load s c l, rfl, rfl⟩, List.Subset.refl _, fun _ => .inl, fun _ => ⟨.inl rfl, fun _ => rfl⟩,
      .of_map rfl fun k r record => ?_⟩
    by_cases mem : k ∈ l
    · obtain ⟨r', record', spare, -⟩ := mem_spareUsable (List.mem_of_mem_take mem)
      obtain rfl := Option.some.inj (record.symm.trans record')
      exact .inr ⟨spare, c, wait, if_pos mem⟩
    · exact .inl (if_neg mem)
  exact bound.trans (toStarting_advances (bound.within h) wait)

theorem spareCheck_advances (h : Within waits starts s) : Advances waits starts s s.spareCheck :=
  spareCheck_keeps (P := Advances waits starts s)
    (fun _ _ k fits => k.trans (bindSpares_advances (k.within h) fits)) (.refl s)

end

/-! ### One shed of a station that stays ACTIVE (R82) -/

/-- A channel that held units is shed up to its next state: none of its units is held, and its output is off. -/
structure LetsGo (cause : ShedCause) (c : Chan) (s t : State) : Prop extends ShedKeeps s t where
  queue : t.chans.queue = s.chans.queue
  list : t.seq.startList ⊆ s.seq.startList
  other : ∀ d, d ≠ c → t.chan d = s.chan d
  idle : (t.chan c).state.holdsUnits = false
  cause : (t.chan c).lastShed = cause
  rests : (s.chan c).state.isOn = true → (t.chan c).offSince = some 0 ∧
    (0 < s.port.image.minOffUs c → (t.chan c).state = .cooldown)
  views : ViewsGo (fun v w => w = if v = .own c then .releasing else v) s t

section
variable {s t u : State} {c d : Chan} {cause : ShedCause}

theorem shedOn_letsGo {x : ChState} (idle : x.holdsUnits = false)
    (rests : 0 < s.port.image.minOffUs c → x = .cooldown) :
    LetsGo cause c s ((s.shedOn cause c).setChState c x) := by
  have self : ((s.shedOn cause c).setChState c x).chan c = { s.chan c with offSince := some 0, lastShed := cause, state := x } := by
    rw [chan_setChState_self, shedOn_chan_self]
  refine ⟨⟨(shedOn_load s cause c).trans (setChState_load _ c x), rfl, rfl⟩, rfl, List.Subset.refl _,
    fun d e => ?_, ?_, ?_, fun _ => ?_, .of_map rfl fun _ _ _ => rfl⟩
  · rw [chan_setChState_other _ _ _ _ e, shedOn_chan_other s c d cause e]
  · rw [self]
    exact idle
  · rw [self]
  · rw [self]
    exact ⟨rfl, rests⟩

theorem shedStarting_letsGo (starting : (s.chan c).state = .starting) :
    LetsGo cause c s (s.shedStarting cause c) := by
  have self := shedStarting_chan_self s c cause
  have load : LoadFrame s (s.shedStarting cause c) :=
    (((releaseUnits_load s c).trans (writeCause_load _ c cause)).trans (setChState_load _ c .off)).trans
      (removeStart_load _ c true)
  have list : (s.shedStarting cause c).seq.startList = s.seq.startList.filter (· ≠ c) := by
    unfold State.shedStarting
    rw [removeStart_leaving]
    rfl
  have rest : (s.shedStarting cause c).notice = s.notice ∧ (s.shedStarting cause c).chans.fences = s.chans.fences ∧
      (s.shedStarting cause c).chans.queue = s.chans.queue ∧
      (s.shedStarting cause c).table = s.table.mapViews fun _ v => if v = .own c then .releasing else v := by
    unfold State.shedStarting
    rw [removeStart_leaving]
    exact ⟨rfl, rfl, rfl, rfl⟩
  obtain ⟨notice, fences, queue, table⟩ := rest
  refine ⟨⟨load, by rw [notice], fences⟩, queue, ?_, fun d e => shedStarting_chan_other s c d cause e, ?_, ?_,
    fun isOn => ?_, .of_map (by rw [table]) fun _ _ _ => rfl⟩
  · rw [list]
    exact List.filter_subset_self _
  · rw [self]
    rfl
  · rw [self]
  · rw [starting] at isOn
    cases isOn

theorem starting_or_on {x : ChState} (holds : x.holdsUnits = true) : x = .starting ∨ ∃ m n, x = .on m n := by
  cases x with
  | starting => exact .inl rfl
  | on m n => exact .inr ⟨m, n, rfl⟩
  | _ => cases holds

/-- The course of a shed (R82): the channel lets its units go, the start list may be checked for a new head, and a channel
with no min off to serve may go on to WAITING, with the spare-binding check. -/
theorem shedChan_course (holds : (s.chan c).state.holdsUnits = true) (park : cause ≠ .park) :
    ∃ t u, LetsGo cause c s t ∧ (u = t ∨ u = t.checkHead) ∧
      (s.shedChan cause false c = u ∨ s.shedChan cause false c = (u.joinQueue c).spareCheck ∧
        ¬ ((s.chan c).state.isOn = true ∧ 0 < s.port.image.minOffUs c)) := by
  have next (v : State) : v.shedNext c false = v ∨ v.shedNext c false = (v.joinQueue c).spareCheck := by
    unfold State.shedNext
    split
    · exact .inr rfl
    · exact .inl rfl
  unfold State.shedChan
  obtain starting | ⟨m, n, on⟩ := starting_or_on holds
  · rw [starting]
    dsimp only
    rw [if_neg park]
    refine ⟨s.shedStarting cause c, (((s.releaseUnits c).writeCause c cause).setChState c .off).removeStart c false,
      shedStarting_letsGo starting, removeStart_cases _ c false, ?_⟩
    exact (next _).imp id fun e => ⟨e, fun ⟨isOn, _⟩ => Bool.false_ne_true isOn⟩
  · rw [on]
    dsimp only
    rw [if_neg park]
    by_cases rest : 0 < s.port.image.minOffUs c
    · rw [if_pos rest]
      exact ⟨_, _, shedOn_letsGo rfl fun _ => rfl, .inl rfl, .inl rfl⟩
    · rw [if_neg rest]
      refine ⟨_, _, shedOn_letsGo (x := .off) rfl fun e => absurd e rest, .inl rfl, ?_⟩
      exact (next _).imp id fun e => ⟨e, fun h => rest h.2⟩

end

end Sys2Proof.Machine

namespace Sys2Proof.Machine

/-! ### The sheds of a peer's take, one after the other (R34, R82) -/

section
variable (a : State) (hits l : List Chan)

/-- A shed of the channel ends in COOLDOWN: it was ON, and it has min off to serve (R82, 4). -/
abbrev Rests (c : Chan) : Prop := (a.chan c).state.isOn = true ∧ 0 < a.port.image.minOffUs c

/-- The channel may be in the queue while the channels `l` of `hits` are still to be shed: it waited before the sheds, or
it has been shed and has no min off to serve. -/
abbrev MayWait (c : Chan) : Prop := (a.chan c).state.isWaiting = true ∨ c ∈ hits ∧ c ∉ l ∧ ¬ Rests a c

/-- The channel may be in the start list while the channels `l` of `hits` are still to be shed. -/
abbrev MayStart (c : Chan) : Prop := MayWait a hits l c ∨ (a.chan c).state = .starting

/-- What a view has become while the channels `l` of `hits` are still to be shed. -/
def ShedView (v w : View) : Prop :=
  match v with
  | .own c => w = if c ∈ hits ∧ c ∉ l then .releasing else .own c
  | .spare n => w = .spare n ∨ ∃ c, c ∉ l ∧ w = .own c
  | v => w = v

/-- The state u on the course of a peer's sheds that began in a: the channels `l` of `hits` are still to be shed. -/
structure ShedCourse (u : State) : Prop extends ShedKeeps a u where
  within : Within (MayWait a hits l) (MayStart a hits l) u
  todo : ∀ c ∈ l, (u.chan c).state.holdsUnits = true ∧ ((a.chan c).state.isOn = true → u.chan c = a.chan c)
  done : ∀ c ∈ hits, c ∉ l → (u.chan c).lastShed = .overlap ∧ ((a.chan c).state.isOn = true →
    (u.chan c).offSince = some 0 ∧ (0 < a.port.image.minOffUs c → (u.chan c).state = .cooldown))
  kept : ∀ c ∉ hits, (a.chan c).state.isWaiting = false → (a.chan c).state ≠ .starting → u.chan c = a.chan c
  views : ViewsGo (ShedView hits l) a u

end

section
variable {a u t : State} {hits l : List Chan} {c : Chan}

theorem isOn_apart {x : ChState} (on : x.isOn = true) : x.isWaiting = false ∧ x ≠ .starting := by
  cases x with
  | on => exact ⟨rfl, nofun⟩
  | _ => cases on

theorem not_mayStart_of_on (on : (a.chan c).state.isOn = true) (later : c ∈ l ∨ Rests a c) : ¬ MayStart a hits l c := by
  obtain ⟨idle, away⟩ := isOn_apart on
  rintro ((waits | ⟨-, out, rests⟩) | starting)
  · rw [idle] at waits
    cases waits
  · exact later.elim out rests
  · exact away starting

/-- Turn-ons and bindings of spares between two sheds. -/
theorem ShedCourse.advance (h : ShedCourse a hits l u) (sub : l ⊆ hits)
    (holds : ∀ c ∈ hits, (a.chan c).state.holdsUnits = true)
    (adv : Advances (MayWait a hits l) (MayStart a hits l) u t) : ShedCourse a hits l t := by
  refine ⟨h.toShedKeeps.trans adv.toShedKeeps, adv.within h.within, fun c mem => ?_, fun c mem out => ?_,
    fun c out idle away => ?_, h.views.comp adv.views fun v w x first second => ?_⟩
  · obtain ⟨starts, same⟩ := adv.chan c
    obtain ⟨held, kept⟩ := h.todo c mem
    refine ⟨?_, fun on => (same (not_mayStart_of_on on (.inl mem))).trans (kept on)⟩
    obtain e | ⟨x, still, e⟩ := starts
    · rw [e]
      exact held
    · rw [e]
      exact still
  · obtain ⟨starts, same⟩ := adv.chan c
    obtain ⟨cause, rests⟩ := h.done c mem out
    have told : (t.chan c).lastShed = (u.chan c).lastShed ∧ (t.chan c).offSince = (u.chan c).offSince := by
      obtain e | ⟨x, -, e⟩ := starts <;> rw [e] <;> exact ⟨rfl, rfl⟩
    refine ⟨told.1.trans cause, fun on => ?_⟩
    obtain ⟨off, cooldown⟩ := rests on
    refine ⟨told.2.trans off, fun rest => ?_⟩
    rw [same (not_mayStart_of_on on (.inr ⟨on, rest⟩))]
    exact cooldown rest
  · obtain ⟨-, same⟩ := adv.chan c
    refine (same ?_).trans (h.kept c out idle away)
    rintro ((waits | ⟨mem, -⟩) | starting)
    · rw [idle] at waits
      cases waits
    · exact out mem
    · exact away starting
  · obtain rfl | ⟨spare, c, wait, rfl⟩ := second
    · exact first
    · have out : c ∉ l := by
        intro mem
        obtain waits | ⟨-, out, -⟩ := wait
        · have idle := (holdsUnits_cases (holds c (sub mem))).1
          rw [idle] at waits
          cases waits
        · exact out mem
      cases v with
      | own d =>
        obtain rfl : w = _ := first
        split at spare <;> cases spare
      | spare n => exact .inr ⟨c, out, rfl⟩
      | _ =>
        obtain rfl : w = _ := first
        cases spare

/-- The next channel lets its units go. -/
theorem ShedCourse.letGo (h : ShedCourse a hits (c :: l) u) (out : c ∉ l) (sub : c ∈ hits)
    (gone : LetsGo .overlap c u t) : ShedCourse a hits l t := by
  have apart {d : Chan} (mem : d ∈ l) : d ≠ c := fun e => out (e ▸ mem)
  have image : u.port.image = a.port.image := congrArg LocalPort.image h.port
  have weaker (d : Chan) : MayWait a hits (c :: l) d → MayWait a hits l d :=
    Or.imp id fun ⟨mem, out, rest⟩ => ⟨mem, fun e => out (List.mem_cons_of_mem c e), rest⟩
  refine ⟨h.toShedKeeps.trans gone.toShedKeeps, ⟨fun d mem => ?_, fun d mem => ?_, fun _ => .inl⟩, fun d mem => ?_,
    fun d mem away => ?_, fun d away idle start => ?_, h.views.comp gone.views fun v w x first second => ?_⟩
  · exact weaker d (h.within.queue d (gone.queue ▸ mem))
  · exact (h.within.list d (gone.list mem)).imp (weaker d) id
  · rw [gone.other d (apart mem)]
    exact h.todo d (List.mem_cons_of_mem c mem)
  · by_cases e : d = c
    · subst e
      refine ⟨gone.cause, fun on => ?_⟩
      obtain ⟨-, same⟩ := h.todo d List.mem_cons_self
      have rests := gone.rests (by rw [same on]; exact on)
      rw [image] at rests
      exact rests
    · rw [gone.other d e]
      exact h.done d mem (by simp [e, away])
  · rw [gone.other d fun e => away (e ▸ sub)]
    exact h.kept d away idle start
  · subst second
    unfold ShedView at first ⊢
    split at first
    · rename_i d
      rw [first]
      by_cases e : d = c
      · simp [e, sub, out]
      · by_cases mem : d ∈ hits ∧ d ∉ l
        · simp [e, mem]
        · simp [e, mem]
    · obtain rfl | ⟨d, away, rfl⟩ := first
      · exact .inl (if_neg nofun)
      · rw [List.mem_cons, not_or] at away
        exact .inr ⟨d, away.2, if_neg fun e => away.1 (View.own.inj e)⟩
    · rename_i own _
      rw [first]
      exact if_neg (own c)

/-- A channel that has been shed, with no min off to serve, goes on to WAITING. -/
theorem ShedCourse.join (h : ShedCourse a hits l u) (mem : c ∈ hits) (out : c ∉ l) (free : ¬ Rests a c) :
    ShedCourse a hits l (u.joinQueue c) := by
  refine ⟨h.toShedKeeps.trans ⟨joinQueue_load u c, rfl, rfl⟩, ⟨fun d queued => ?_, h.within.list, h.within.sub⟩,
    fun d later => ?_, fun d gone away => ?_, fun d away idle start => ?_, h.views⟩
  · obtain rfl | queued := (mem_insertQueue _ _ _ _).1 queued
    · exact .inr ⟨mem, out, free⟩
    · exact h.within.queue d queued
  · rw [joinQueue_chan_other u c d fun e => out (e ▸ later)]
    exact h.todo d later
  · by_cases e : d = c
    · subst e
      obtain ⟨cause, rests⟩ := h.done d gone away
      rw [joinQueue_chan_self]
      exact ⟨cause, fun on => ⟨(rests on).1, fun rest => absurd ⟨on, rest⟩ free⟩⟩
    · rw [joinQueue_chan_other u c d e]
      exact h.done d gone away
  · rw [joinQueue_chan_other u c d fun e => away (e ▸ mem)]
    exact h.kept d away idle start

theorem ShedCourse.shed (h : ShedCourse a hits (c :: l) u) (once : c ∉ l) (sub : c :: l ⊆ hits)
    (holds : ∀ c ∈ hits, (a.chan c).state.holdsUnits = true) :
    ShedCourse a hits l (u.shedChan .overlap false c) := by
  obtain ⟨mem, sub⟩ := List.cons_subset.1 sub
  obtain ⟨held, same⟩ := h.todo c List.mem_cons_self
  obtain ⟨t, w, gone, checked, next⟩ := shedChan_course (cause := .overlap) held nofun
  have let_go := h.letGo once mem gone
  have after : ShedCourse a hits l w := by
    obtain rfl | rfl := checked
    · exact let_go
    · exact let_go.advance sub holds (checkHead_advances let_go.within)
  obtain e | ⟨e, free⟩ := next
  · rw [e]
    exact after
  · have joined := after.join mem once fun ⟨on, rest⟩ => by
      rw [same on, congrArg LocalPort.image h.port] at free
      exact free ⟨on, rest⟩
    rw [e]
    exact joined.advance sub holds (spareCheck_advances joined.within)

/-- Every channel is shed in its turn. -/
theorem ShedCourse.shedAll (h : ShedCourse a hits l u) (once : l.Nodup) (sub : l ⊆ hits)
    (holds : ∀ c ∈ hits, (a.chan c).state.holdsUnits = true) :
    ShedCourse a hits [] (l.foldl (fun u c => u.shedChan .overlap false c) u) := by
  induction l generalizing u with
  | nil => exact h
  | cons c l ih =>
    obtain ⟨out, once⟩ := List.nodup_cons.1 once
    exact ih (h.shed out sub holds) once (List.cons_subset.1 sub).2

/-- Where queue and start list match the states, the course begins with every channel still to be shed. -/
theorem ShedCourse.begin (queue : ∀ c ∈ a.chans.queue, (a.chan c).state.isWaiting = true)
    (list : ∀ c ∈ a.seq.startList, (a.chan c).state = .starting)
    (holds : ∀ c ∈ hits, (a.chan c).state.holdsUnits = true) : ShedCourse a hits hits a := by
  refine ⟨.refl a, ⟨fun c mem => .inl (queue c mem), fun c mem => .inr (list c mem), fun _ => .inl⟩,
    fun c mem => ⟨holds c mem, fun _ => rfl⟩, fun c mem out => absurd mem out, fun _ _ _ _ => rfl,
    .of_same rfl fun v => ?_⟩
  cases v with
  | own c => exact (if_neg fun ⟨mem, out⟩ => out mem).symm
  | spare n => exact .inl rfl
  | _ => rfl

end

end Sys2Proof.Machine

namespace Sys2Proof.Machine

/-! ### What a peer's take makes of units and channels (R32 to R34, R36) -/

/-- b is s with the chosen units FREE, and OVERLAP and SHED as they were. -/
structure ChosenFreed (chosen : List Nat) (s b : State) : Prop where
  recs : ∀ k : Nat, b.table.recs[k]? =
    (s.table.recs[k]?).map fun r => { r with view := if k ∈ chosen then .free else r.view }
  chans : b.chans = s.chans
  seq : b.seq = s.seq
  image : b.port.image = s.port.image
  overlap : b.port.events.getLsbD 2 = s.port.events.getLsbD 2
  shed : b.port.events.getLsbD 1 = s.port.events.getLsbD 1

section
variable {s b : State} {units read chosen : List Nat}

/-- The units that a peer's take goes by: those read dominant that were not chosen. -/
abbrev ReadApart (units chosen read : List Nat) : Prop := ∀ k, k ∈ read ↔ k ∈ units ∧ k ∉ chosen

theorem ChosenFreed.record {k : Nat} (h : ChosenFreed chosen s b) (out : k ∉ chosen) :
    b.table.recs[k]? = s.table.recs[k]? := by
  rw [h.recs]
  simp [out]

theorem ChosenFreed.chan (h : ChosenFreed chosen s b) (c : Chan) : b.chan c = s.chan c := by
  rw [State.chan, State.chan, h.chans]

/-- A unit with a view that passes a test is read dominant, before as after the chosen ones have gone free. -/
theorem ChosenFreed.reads (h : ChosenFreed chosen s b) (apart : ReadApart units chosen read) (p : UnitRec → Prop) :
    (∃ k ∈ read, ∃ r, b.table.recs[k]? = some r ∧ p r) ↔
      ∃ k ∈ units, k ∉ chosen ∧ ∃ r, s.table.recs[k]? = some r ∧ p r := by
  refine exists_congr fun k => ?_
  rw [apart, and_assoc]
  exact and_congr_right fun _ => and_congr_right fun out => by rw [h.record out]

theorem ChosenFreed.hit_iff (h : ChosenFreed chosen s b) (apart : ReadApart units chosen read) (c : Chan) :
    c ∈ b.overlapped read ↔ Hit s units chosen c :=
  (mem_overlapped b read c).trans (h.reads apart fun r => r.view = .own c)

theorem ChosenFreed.overlaps_iff (h : ChosenFreed chosen s b) (apart : ReadApart units chosen read) :
    b.overlaps read = true ↔ ∃ k ∈ units, k ∉ chosen ∧ ∃ r, s.table.recs[k]? = some r ∧ r.view.held = true :=
  (Machine.overlaps_iff b read).trans (h.reads apart fun r => r.view.held = true)

/-- A channel of which a unit is read dominant holds units. -/
theorem ChosenFreed.hit_holds (h : ChosenFreed chosen s b) (apart : ReadApart units chosen read) (owners : OwnersHold s)
    {c : Chan} (mem : c ∈ b.overlapped read) : (b.chan c).state.holdsUnits = true := by
  obtain ⟨k, -, -, r, record, own⟩ := (h.hit_iff apart c).1 mem
  rw [h.chan]
  exact owners r (List.mem_of_getElem? record) c own

/-- The sheds of a peer's take. -/
def State.peerSheds (b : State) (read : List Nat) : State :=
  (b.overlapped read).foldl (fun u c => u.shedChan .overlap false c) (b.peerViews read)

theorem takeByPeer_eq (b : State) (read : List Nat) : b.takeByPeer read =
    if (b.overlapped read).any (fun c => (b.chan c).state.holdsUnits) then (b.peerSheds read).setEvent .shed
    else b.peerSheds read := rfl

theorem peerViews_chan (b : State) (read : List Nat) (c : Chan) : (b.peerViews read).chan c = b.chan c := by
  rw [State.chan, State.chan, (peerViews_blocks b read).1]

theorem ChosenFreed.course (h : ChosenFreed chosen s b) (apart : ReadApart units chosen read)
    (queues : QueuesMatchStates s) (owners : OwnersHold s) :
    ShedCourse (b.peerViews read) (b.overlapped read) [] (b.peerSheds read) := by
  obtain ⟨-, queued, -, -, -, starting, -⟩ := queues
  obtain ⟨chans, seq, -⟩ := peerViews_blocks b read
  have holds (c : Chan) (mem : c ∈ b.overlapped read) : ((b.peerViews read).chan c).state.holdsUnits = true := by
    rw [peerViews_chan]
    exact h.hit_holds apart owners mem
  refine ShedCourse.shedAll (ShedCourse.begin (fun c mem => ?_) (fun c mem => ?_) holds) (overlapped_nodup b read)
    (List.Subset.refl _) holds
  · rw [chans, h.chans] at mem
    rw [peerViews_chan, h.chan]
    exact (queued c).1 mem
  · rw [seq, h.seq] at mem
    rw [peerViews_chan, h.chan]
    exact (starting c).1 mem

/-- Nothing but SHED is left to set after the sheds. -/
theorem takeByPeer_blocks (b : State) (read : List Nat) : (b.takeByPeer read).table = (b.peerSheds read).table ∧
    (b.takeByPeer read).chans = (b.peerSheds read).chans ∧ (b.takeByPeer read).seq = (b.peerSheds read).seq ∧
    (b.takeByPeer read).notice = (b.peerSheds read).notice := by
  rw [takeByPeer_eq]
  split <;> exact ⟨rfl, rfl, rfl, rfl⟩

theorem takeByPeer_chan (b : State) (read : List Nat) (c : Chan) :
    (b.takeByPeer read).chan c = (b.peerSheds read).chan c := by
  rw [State.chan, State.chan, (takeByPeer_blocks b read).2.1]

theorem takeByPeer_events {b : State} {read : List Nat} (port : (b.peerSheds read).port = (b.peerViews read).port)
    (k : Nat) : (b.takeByPeer read).port.events.getLsbD k = true ↔
      (b.port.events.getLsbD k = true ∨ b.overlaps read = true ∧ (0x0004 : BitVec 16).getLsbD k = true) ∨
        (∃ c ∈ b.overlapped read, (b.chan c).state.holdsUnits = true) ∧ (0x0002 : BitVec 16).getLsbD k = true := by
  have views : (b.peerViews read).port.events.getLsbD k = true ↔
      b.port.events.getLsbD k = true ∨ b.overlaps read = true ∧ (0x0004 : BitVec 16).getLsbD k = true := by
    rw [peerViews_events]
    split <;> simp_all
  rw [takeByPeer_eq, ← views, ← List.any_eq_true]
  split
  · rename_i held
    rw [setEvent_events, port, BitVec.getLsbD_or, Bool.or_eq_true]
    simp only [held, true_and]
    rfl
  · rename_i idle
    rw [port]
    simp [idle]

/-- What has become of a unit's view after a peer's take whose chosen units had been set free. -/
theorem ChosenFreed.view (h : ChosenFreed chosen s b) (apart : ReadApart units chosen read)
    (course : ShedCourse (b.peerViews read) (b.overlapped read) [] (b.peerSheds read)) {k : Nat} {r : UnitRec}
    (record : s.table.recs[k]? = some r) : ∃ r', (b.peerSheds read).table.recs[k]? = some r' ∧ r'.window = r.window ∧
      ShedView (b.overlapped read) [] (if k ∈ chosen then .free
        else if k ∈ units ∧ r.view ≠ .dead then .peer else r.view) r'.view := by
  have marked : (b.peerViews read).table.recs[k]? = some { r with view := if k ∈ chosen then .free
      else if k ∈ units ∧ r.view ≠ .dead then .peer else r.view } := by
    rw [peerViews_record, h.recs, record]
    simp only [Option.map_some, apart]
    by_cases mem : k ∈ chosen
    · simp [mem]
    · simp [mem]
  exact course.views.forward marked

/-- A peer's take is what PeerTaken says of it. -/
theorem ChosenFreed.peerTaken (h : ChosenFreed chosen s b) (apart : ReadApart units chosen read)
    (queues : QueuesMatchStates s) (owners : OwnersHold s) :
    PeerTaken s (b.takeByPeer read).settle units chosen := by
  have course := h.course apart queues owners
  obtain ⟨table, chans, seq, -⟩ := takeByPeer_blocks b read
  obtain ⟨chans', seq', -, -, -, image', -⟩ := peerViews_blocks b read
  have before (c : Chan) : (b.peerViews read).chan c = s.chan c := (peerViews_chan b read c).trans (h.chan c)
  have image : (b.peerViews read).port.image = s.port.image := image'.trans h.image
  have hit := h.hit_iff apart
  constructor
  case views =>
    intro k r record
    obtain ⟨r', record', window, view⟩ := h.view apart course record
    refine ⟨r', by rw [settle_table, table]; exact record', window, fun mem => ?_, fun out dead => ?_,
      fun out mem live => ?_, fun out unread => ⟨fun unheld => ?_, fun c own gone => ?_, fun c own stays => ?_,
        fun n spare => ?_⟩⟩
    · rw [if_pos mem] at view
      exact view
    · rw [if_neg out, dead, if_neg fun e => e.2 rfl] at view
      exact view
    · rw [if_neg out, if_pos ⟨mem, live⟩] at view
      exact view
    all_goals rw [if_neg out, if_neg fun e => unread e.1] at view
    · generalize r.view = v at unheld view ⊢
      cases v with
      | own c => cases unheld
      | spare n => cases unheld
      | _ => exact view
    · rw [own] at view
      exact view.trans (if_pos ⟨(hit c).2 gone, List.not_mem_nil⟩)
    · rw [own] at view
      exact view.trans (if_neg fun e => stays ((hit c).1 e.1))
    · rw [spare] at view
      exact view.imp id fun ⟨c, _, e⟩ => ⟨c, e⟩
  case shed =>
    intro c gone
    obtain ⟨cause, rests⟩ := course.done c ((hit c).2 gone) List.not_mem_nil
    rw [settle_chan, takeByPeer_chan]
    refine ⟨cause, fun m n on => ?_⟩
    rw [before, image] at rests
    exact rests (by rw [on]; rfl)
  case kept =>
    intro c stays idle away
    rw [settle_chan, takeByPeer_chan, ← before c]
    exact course.kept c (fun mem => stays ((hit c).1 mem)) (by rw [before]; exact idle) (by rw [before]; exact away)
  case events =>
    have held : (∃ c ∈ b.overlapped read, (b.chan c).state.holdsUnits = true) ↔ ∃ c, Hit s units chosen c :=
      exists_congr fun c => ⟨fun ⟨mem, _⟩ => (hit c).1 mem,
        fun gone => ⟨(hit c).2 gone, h.hit_holds apart owners ((hit c).2 gone)⟩⟩
    rw [settle_port, takeByPeer_events course.port, takeByPeer_events course.port, h.overlap, h.shed, held,
      h.overlaps_iff apart]
    simp
  case quiet =>
    intro none
    have empty : b.overlapped read = [] := List.eq_nil_iff_forall_not_mem.2 fun c mem => none c ((hit c).1 mem)
    rw [takeByPeer_of_none empty]
    refine ⟨?_, ?_, ?_, fun k => ?_⟩
    · rw [settle_chans, chans', h.chans]
    · rw [settle_startList, seq', h.seq]
    · have kept := settle_latch_subset (b.peerViews read)
      rw [seq', h.seq] at kept
      exact kept
    · rw [settle_table, peerViews_record, h.recs, Option.map_map]
      refine congrArg (Option.map · _) (funext fun r => ?_)
      simp only [Function.comp, apart]
      by_cases mem : k ∈ chosen
      · simp [mem]
      · by_cases dead : r.view = .dead <;> simp [mem, dead]

end

end Sys2Proof.Machine

namespace Sys2Proof.Machine

/-! ### Overlaps, discarded and returned takes (R33, R34, R36, R37) -/

section
variable {s : State} {units chosen : List Nat} {c : Chan}

/-- SKEW is neither OVERLAP nor SHED. -/
theorem takeStart_bits (s : State) (units : List Nat) :
    (s.takeStart units).port.events.getLsbD 2 = s.port.events.getLsbD 2 ∧
      (s.takeStart units).port.events.getLsbD 1 = s.port.events.getLsbD 1 := by
  rw [takeStart_events]
  split
  · simp
  · exact ⟨rfl, rfl⟩

theorem takeStart_freed (s : State) (units : List Nat) : ChosenFreed [] s (s.takeStart units) := by
  have start := takeStart_started s units
  obtain ⟨overlap, shed⟩ := takeStart_bits s units
  refine ⟨fun k => ?_, start.chans, start.seq, start.image, overlap, shed⟩
  rw [start.recs]
  simp

theorem chosenTo_record (s : State) (chosen : List Nat) (v : View) (k : Nat) :
    (s.chosenTo chosen v).table.recs[k]? =
      (s.table.recs[k]?).map fun r => { r with view := if k ∈ chosen then v else r.view } :=
  mapViews_record s.table (fun k w => if k ∈ chosen then v else w) k

theorem chosenTo_freed (s : State) (units chosen : List Nat) :
    ChosenFreed chosen s ((s.takeStart units).chosenTo chosen .free) := by
  have start := takeStart_started s units
  obtain ⟨overlap, shed⟩ := takeStart_bits s units
  refine ⟨fun k => ?_, start.chans, start.seq, start.image, overlap, shed⟩
  rw [chosenTo_record, start.recs]

theorem readApart_all (units : List Nat) : ReadApart units [] units := by
  simp [ReadApart]

theorem readApart_filter (units chosen : List Nat) :
    ReadApart units chosen (units.filter fun k => !decide (k ∈ chosen)) := by
  intro k
  simp [List.mem_filter]

/-- Where no DEAD unit is read dominant the events stand at the beginning of a take. -/
theorem takeStart_events_live (live : ∀ k ∈ units, ∀ r, s.table.recs[k]? = some r → r.view ≠ .dead) :
    (s.takeStart units).port.events = s.port.events := by
  rw [takeStart_events, if_neg]
  rintro ⟨-, k, mem, r, record, dead⟩
  exact live k mem r record dead

/-- An ON channel with min off to serve rests in COOLDOWN after a shed (R82). -/
theorem shedChan_rests {cause : ShedCause} {m : Bool} {n : Nat} (on : (s.chan c).state = .on m n)
    (rest : 0 < s.port.image.minOffUs c) (park : cause ≠ .park) :
    s.shedChan cause false c = (s.shedOn cause c).setChState c .cooldown := by
  unfold State.shedChan
  rw [on]
  dsimp only
  rw [if_neg park, if_pos rest]
  rfl

theorem shedOn_latch (s : State) (cause : ShedCause) (c : Chan) :
    (s.shedOn cause c).seq.latch.getLsbD c.val = false := by
  change (s.seq.latch &&& ~~~BitVec.twoPow 8 c.val).getLsbD c.val = false
  simp

theorem shedOn_record (s : State) (cause : ShedCause) (c : Chan) (k : Nat) :
    (s.shedOn cause c).table.recs[k]? =
      (s.table.recs[k]?).map fun r => { r with view := if r.view = .own c then .releasing else r.view } :=
  mapViews_record s.table (fun _ v => if v = .own c then .releasing else v) k

/-- One channel alone loses units. -/
theorem overlapped_single (own : ∃ k ∈ units, ∃ r, s.table.recs[k]? = some r ∧ r.view = .own c)
    (alone : ∀ k ∈ units, ∀ r, s.table.recs[k]? = some r → r.view = .own c ∨ r.view = .free ∨ r.view = .peer) :
    s.overlapped units = [c] := by
  refine List.perm_singleton.1 ((List.perm_ext_iff_of_nodup (overlapped_nodup s units) (List.nodup_singleton c)).2
    fun d => ?_)
  rw [mem_overlapped, List.mem_singleton]
  constructor
  · rintro ⟨k, mem, r, record, view⟩
    obtain e | e | e := alone k mem r record
    · exact View.own.inj (view.symm.trans e)
    · rw [e] at view; cases view
    · rw [e] at view; cases view
  · rintro rfl
    exact own

/-- The effect of a peer's take on one ON channel with min off to serve. -/
theorem takeByPeer_single {m : Bool} {n : Nat} (on : (s.chan c).state = .on m n) (rest : 0 < s.port.image.minOffUs c)
    (alone : s.overlapped units = [c]) : s.takeByPeer units =
      (((s.peerViews units).shedOn .overlap c).setChState c .cooldown).setEvent .shed := by
  have held : [c].any (fun c => (s.chan c).state.holdsUnits) = true := by simp [on, ChState.holdsUnits]
  have on' : ((s.peerViews units).chan c).state = .on m n := by
    rw [peerViews_chan]
    exact on
  have rest' : 0 < (s.peerViews units).port.image.minOffUs c := by
    obtain ⟨-, -, -, -, -, image, -⟩ := peerViews_blocks s units
    rw [image]
    exact rest
  rw [takeByPeer_eq, State.peerSheds, alone, if_pos held, List.foldl_cons, List.foldl_nil,
    shedChan_rests (cause := .overlap) on' rest' nofun]

end

/-- Settles O20: one ON channel is shed to COOLDOWN; several channels are shed as PeerTaken says. -/
theorem takeCompleteOverlapShedsChannel : Obligations.TakeCompleteOverlapShedsChannel := by
  unfold Obligations.TakeCompleteOverlapShedsChannel
  intro s units due active lost
  have start := takeStart_started s units
  have taken := takeTakeComplete_peer (units := units) due (active_listens active) lost
  refine ⟨fun c m n on rest own alone => ?_, fun queues owners => ?_⟩
  · have alone' : (s.takeStart units).overlapped units = [c] := by
      rw [start.overlapped]
      exact overlapped_single own alone
    rw [takeByPeer_single (by rw [start.chan]; exact on) (by rw [start.image]; exact rest) alone'] at taken
    obtain ⟨chans, seq, -⟩ := peerViews_blocks (s.takeStart units) units
    have self := shedOn_chan_self ((s.takeStart units).peerViews units) c .overlap
    have gone : LetsGo .overlap c ((s.takeStart units).peerViews units)
        ((((s.takeStart units).peerViews units).shedOn .overlap c).setChState c .cooldown) :=
      shedOn_letsGo rfl fun _ => rfl
    have live (k : Nat) (mem : k ∈ units) (r : UnitRec) (record : s.table.recs[k]? = some r) : r.view ≠ .dead := by
      obtain e | e | e := alone k mem r record <;> rw [e] <;> nofun
    refine ⟨(s.takeTakeComplete units).settle, rfl, ?_⟩
    rw [taken]
    refine ⟨fun k => ?_, ?_, ?_, ?_, ?_, ?_, fun d other => ?_, ?_⟩
    · rw [settle_table, setEvent_table]
      refine (shedOn_record _ .overlap c k).trans ?_
      rw [peerViews_record, start.recs, Option.map_map]
      cases record : s.table.recs[k]? with
      | none => rfl
      | some r =>
        by_cases mem : k ∈ units
        · simp [mem, live k mem r record]
        · simp [mem]
    · rw [settle_chan, setEvent_chan, chan_setChState_self]
    · rw [settle_chan, setEvent_chan, chan_setChState_self, self]
    · rw [settle_chan, setEvent_chan, chan_setChState_self, self]
    · have kept := settle_latch_subset
        (((((s.takeStart units).peerViews units).shedOn .overlap c).setChState c .cooldown).setEvent .shed)
      have cleared : ((((s.takeStart units).peerViews units).shedOn .overlap c).setChState c
          .cooldown).seq.latch.getLsbD c.val = false := shedOn_latch _ .overlap c
      rw [← kept, BitVec.getLsbD_and, setEvent_seq, cleared, Bool.and_false]
    · have read : (s.takeStart units).overlaps units = true := by
        obtain ⟨k, mem, r, record, view⟩ := own
        refine (overlaps_iff _ _).2 ⟨k, mem, r, by rw [start.recs]; exact record, by rw [view]; rfl⟩
      rw [settle_port, setEvent_events, gone.port, peerViews_events, if_pos read, takeStart_events_live live,
        BitVec.or_assoc]
      rfl
    · rw [settle_chan, setEvent_chan, chan_setChState_other _ _ _ _ other, shedOn_chan_other _ _ _ _ other,
        peerViews_chan, start.chan]
    · rw [settle_chans, setEvent_chans, gone.queue, chans, start.chans]
  · have freed := takeStart_freed s units
    have course := freed.course (readApart_all units) queues owners
    obtain ⟨-, -, notice, -⟩ := peerViews_blocks (s.takeStart units) units
    obtain ⟨-, -, -, notice'⟩ := takeByPeer_blocks (s.takeStart units) units
    refine ⟨(s.takeTakeComplete units).settle, rfl, ?_⟩
    rw [taken]
    refine ⟨freed.peerTaken (readApart_all units) queues owners, ?_, ?_⟩
    · rw [settle_cont, (takeByPeer_marks (s.takeStart units) units).cont, start.cont]
    · rw [settle_notice, notice', course.ring, notice, start.notice]

section
variable {s : State} {units chosen : List Nat} {c : Chan} {a : Option NoticeSource} {n : NoticeSource} {p : Nat}
  {word : BitVec 10}

theorem takeByWinner_discards (bid : s.cont.bid = .channel c chosen a p word) (conflict : s.cont.conflictMark = true) :
    s.takeByWinner units = (s.chosenTo chosen .free).takeByPeer (units.filter fun k => !decide (k ∈ chosen)) := by
  unfold State.takeByWinner
  rw [bid]
  exact if_pos conflict

theorem takeByWinner_returns (bid : s.cont.bid = .channel c chosen a p word) (clear : s.cont.conflictMark = false)
    (gone : (s.chan c).state.isWaiting = false) : s.takeByWinner units = s.chosenTo chosen .releasing := by
  unfold State.takeByWinner
  rw [bid]
  dsimp only
  rw [clear, gone]
  rfl

theorem takeByWinner_notice (bid : s.cont.bid = .notice n p word) :
    s.takeByWinner units = if s.cont.conflictMark then s.takeByPeer units else s := by
  unfold State.takeByWinner
  rw [bid]

end

/-- Settles O18: a discarded take is a peer's once the chosen units are FREE; a returned one changes their views alone. -/
theorem takeCompleteDiscardsOrReturns : Obligations.TakeCompleteDiscardsOrReturns := by
  unfold Obligations.TakeCompleteDiscardsOrReturns
  intro s units queues owners due active won
  have start := takeStart_started s units
  have taken := takeTakeComplete_winner (units := units) due active won
  have bid' {b : Bid} (bid : s.cont.bid = b) : (s.takeStart units).cont.bid = b := by rw [start.cont, bid]
  have mark {m : Bool} (h : s.cont.conflictMark = m) : (s.takeStart units).cont.conflictMark = m := by
    rw [start.cont, h]
  refine ⟨fun c chosen a p word bid => ⟨fun conflict => ?_, fun clear gone => ?_⟩,
    fun n p word bid => ⟨fun conflict => ?_, fun clear => ?_⟩⟩
  · rw [takeByWinner_discards (bid' bid) (mark conflict)] at taken
    let b := (s.takeStart units).chosenTo chosen .free
    have frame := takeByPeer_marks b (units.filter fun k => !decide (k ∈ chosen))
    refine ⟨(s.takeTakeComplete units).settle, rfl, ?_⟩
    rw [taken]
    refine ⟨(chosenTo_freed s units chosen).peerTaken (readApart_filter units chosen) queues owners, ?_, ?_⟩
    · rw [settle_cont, frame.cont]
      exact start.cont
    · rw [settle_state, frame.stn]
      exact (congrArg StationCtl.state start.stn).trans active
  · rw [takeByWinner_returns (bid' bid) (mark clear) (by rw [start.chan]; exact gone)] at taken
    refine ⟨(s.takeTakeComplete units).settle, rfl, ?_⟩
    rw [taken]
    refine ⟨?_, ?_, ?_, fun k => ?_⟩
    · rw [settle_chans]
      exact start.chans
    · rw [settle_startList]
      exact congrArg Sequencer.startList start.seq
    · have kept := settle_latch_subset ((s.takeStart units).chosenTo chosen .releasing)
      rw [show ((s.takeStart units).chosenTo chosen .releasing).seq = s.seq from start.seq] at kept
      exact kept
    · rw [settle_table, chosenTo_record, start.recs]
  · rw [takeByWinner_notice (bid' bid), if_pos (mark conflict)] at taken
    refine ⟨(s.takeTakeComplete units).settle, rfl, ?_⟩
    rw [taken]
    refine ⟨(takeStart_freed s units).peerTaken (readApart_all units) queues owners, ?_⟩
    rw [settle_cont, (takeByPeer_marks (s.takeStart units) units).cont, start.cont]
  · rw [takeByWinner_notice (bid' bid), mark clear, if_neg Bool.false_ne_true] at taken
    refine ⟨(s.takeTakeComplete units).settle, rfl, ?_⟩
    rw [taken, settle_table, settle_chans, settle_startList]
    exact ⟨start.recs, start.chans, congrArg Sequencer.startList start.seq⟩

end Sys2Proof.Machine

namespace Sys2Proof.Machine

/-! ### The sheds of a received yield (R114 to R116) -/

/-- The state u on the course of a yield's sheds that began in a: a channel that held units holds some, or it is one that
the yield reaches, with the yield as its cause. -/
structure YieldCourse (y : YieldIn) (a u : State) : Prop where
  image : u.port.image = a.port.image
  ring : u.notice.ring = a.notice.ring
  fences : u.chans.fences = a.chans.fences
  spares : ViewsGo (fun v w => w.isSpare = true → v.isSpare = true) a u
  chan : ∀ c, (a.chan c).state.holdsUnits = true → (u.chan c).state.holdsUnits = true ∨
    a.yieldReaches y c = true ∧ (u.chan c).lastShed = .yield

section
variable {y : YieldIn} {a s t u : State} {c : Chan}

theorem YieldCourse.refl (a : State) : YieldCourse y a a :=
  ⟨rfl, rfl, rfl, .of_same rfl fun _ => id, fun _ => .inl⟩

theorem YieldCourse.setEvent (h : YieldCourse y a u) (e : Event) : YieldCourse y a (u.setEvent e) :=
  ⟨h.image, h.ring, h.fences, h.spares, h.chan⟩

theorem within_all (s : State) : Within (fun _ => True) (fun _ => True) s :=
  ⟨fun _ _ => trivial, fun _ _ => trivial, fun _ => id⟩

theorem YieldCourse.advance (h : YieldCourse y a u) (adv : Advances (fun _ => True) (fun _ => True) u t) :
    YieldCourse y a t := by
  refine ⟨(congrArg LocalPort.image adv.port).trans h.image, adv.ring.trans h.ring, adv.fences.trans h.fences,
    h.spares.comp adv.views fun v w x first second spare => ?_, fun c held => ?_⟩
  · obtain rfl | ⟨-, d, -, rfl⟩ := second
    · exact first spare
    · cases spare
  · obtain e | ⟨x, holds, e⟩ := (adv.chan c).1
    · rw [e]
      exact h.chan c held
    · rw [e]
      exact .inl holds

/-- A channel that the yield reaches lets its units go. -/
theorem YieldCourse.letGo (h : YieldCourse y a u) (reaches : a.yieldReaches y c = true) (gone : LetsGo .yield c u t) :
    YieldCourse y a t := by
  refine ⟨(congrArg LocalPort.image gone.port).trans h.image, gone.ring.trans h.ring, gone.fences.trans h.fences,
    h.spares.comp gone.views fun v w x first second spare => ?_, fun d held => ?_⟩
  · subst second
    split at spare
    · cases spare
    · exact first spare
  · by_cases e : d = c
    · subst e
      exact .inr ⟨reaches, gone.cause⟩
    · rw [gone.other d e]
      exact h.chan d held

/-- A channel that the yield has shed goes on to WAITING. -/
theorem YieldCourse.join (h : YieldCourse y a u) (reaches : a.yieldReaches y c = true)
    (cause : (u.chan c).lastShed = .yield) : YieldCourse y a (u.joinQueue c) := by
  refine ⟨h.image, h.ring, h.fences, h.spares, fun d held => ?_⟩
  by_cases e : d = c
  · subst e
    rw [joinQueue_chan_self]
    exact .inr ⟨reaches, cause⟩
  · rw [joinQueue_chan_other u c d e]
    exact h.chan d held

theorem Starts.lastShed {x x' : ChannelRec} (h : Starts x x') : x'.lastShed = x.lastShed := by
  obtain rfl | ⟨state, -, rfl⟩ := h <;> rfl

/-- A shed other than a PARK touches a channel that holds units alone (R82). -/
theorem shedChan_idle {cause : ShedCause} (leaving : Bool) (idle : (s.chan c).state.holdsUnits = false)
    (park : cause ≠ .park) : s.shedChan cause leaving c = s := by
  unfold State.shedChan
  cases state : (s.chan c).state with
  | on m n => rw [state] at idle; cases idle
  | starting => rw [state] at idle; cases idle
  | waiting e w => exact if_neg park
  | off => rfl
  | cooldown => rfl
  | parked => rfl
  | disabled => rfl

theorem YieldCourse.shed (h : YieldCourse y a u) (reaches : a.yieldReaches y c = true) :
    YieldCourse y a (u.shedChan .yield false c) := by
  cases holds : (u.chan c).state.holdsUnits with
  | false =>
    rw [shedChan_idle (cause := .yield) false holds nofun]
    exact h
  | true =>
    obtain ⟨t, w, gone, checked, next⟩ := shedChan_course (cause := .yield) holds nofun
    have let_go := h.letGo reaches gone
    have adv := checkHead_advances (within_all t)
    obtain ⟨after, cause⟩ : YieldCourse y a w ∧ (w.chan c).lastShed = .yield := by
      obtain rfl | rfl := checked
      · exact ⟨let_go, gone.cause⟩
      · exact ⟨let_go.advance adv, (adv.chan c).1.lastShed.trans gone.cause⟩
    obtain e | ⟨e, -⟩ := next
    · rw [e]
      exact after
    · rw [e]
      exact (after.join reaches cause).advance (spareCheck_advances (within_all _))

theorem mem_of_bestBy {better : Chan → Chan → Bool} {l : List Chan} (h : bestBy better l = some c) : c ∈ l := by
  induction l with
  | nil => cases h
  | cons d l ih =>
    unfold bestBy at h
    split at h
    · cases h
      exact List.mem_cons_self
    · rename_i e best
      split at h
      · cases h
        exact List.mem_cons_of_mem d (ih best)
      · cases h
        exact List.mem_cons_self

/-- A candidate is below the yield in priority, and shares a window with it (R114). -/
theorem yieldCandidate_reaches (h : s.yieldCandidate y = some c) : s.yieldReaches y c = true := by
  unfold State.yieldCandidate at h
  split at h
  · rename_i d starting
    cases h
    exact (List.mem_filter.1 (mem_of_bestBy starting)).2
  · have on := (List.mem_filter.1 (mem_of_bestBy h)).2
    unfold State.onCandidate at on
    split at on
    · exact (Bool.and_eq_true_iff.1 on).2
    · cases on

theorem yieldReaches_image (image : t.port.image = s.port.image) : t.yieldReaches y c = s.yieldReaches y c := by
  rw [State.yieldReaches, State.yieldReaches, image]

/-- The sheds of a yield are on course, and SHED is set where a channel has lost its units. -/
theorem YieldCourse.yieldSheds (h : YieldCourse y a u) (n count : Nat)
    (told : u.port.events.getLsbD 1 = true ∨
      ∀ c, (a.chan c).state.holdsUnits = true → (u.chan c).state.holdsUnits = true) :
    YieldCourse y a (Machine.yieldSheds y n count u) ∧
      ((Machine.yieldSheds y n count u).port.events.getLsbD 1 = true ∨ ∀ c, (a.chan c).state.holdsUnits = true →
        ((Machine.yieldSheds y n count u).chan c).state.holdsUnits = true) := by
  induction n generalizing u count with
  | zero => exact ⟨h, told⟩
  | succ n ih =>
    unfold Machine.yieldSheds
    split
    · exact ⟨h, told⟩
    · split
      · exact ⟨h, told⟩
      · rename_i c candidate
        have reaches := yieldCandidate_reaches candidate
        rw [yieldReaches_image h.image] at reaches
        exact ih ((h.shed reaches).setEvent .shed) _ (.inl (setEvent_bit _ .shed))

end

/-! ### A valid YIELD from a peer (R87, R113, R131, R132) -/

section
variable {s : State} {h p c : RxChar} {id : BitVec 6}

theorem yieldHeader_fields : ∀ x : Byte, x &&& 0xE7 = 0x21 → headerKind x = 1 ∧ headerLength x = 1 := by
  decide +kernel

theorem yieldMask_zero : ∀ x : Byte, x &&& 0x0F = 0 ↔ (x.setWidth 4 : BitVec 4) = 0 := by
  decide +kernel

/-- Three good characters of a YIELD header make a valid notice. -/
theorem storedYield_valid (header : h.data &&& 0xE7 = 0x21) (sum : h.data + p.data + c.data = 0xFF)
    (clean : ∀ x ∈ [h, p, c], x.framing = false ∧ x.marker = false) :
    (storedNotice .complete id [h, p, c]).valid = true := by
  obtain ⟨kind, length⟩ := yieldHeader_fields h.data header
  obtain ⟨fh, mh⟩ := clean h (by simp)
  obtain ⟨fp, mp⟩ := clean p (by simp)
  obtain ⟨fc, mc⟩ := clean c (by simp)
  simp [StoredNotice.valid, storedNotice, errorSet, checkError, lengthError, cutError, charsLength, byteSum,
    kind, length, lengthFits, fh, mh, fp, mp, fc, mc, sum]

theorem storedYield_payload (header : h.data &&& 0xE7 = 0x21) :
    (storedNotice .complete id [h, p, c]).payload = [p.data] := by
  obtain ⟨-, length⟩ := yieldHeader_fields h.data header
  simp [storedNotice, charsLength, length]

end

end Sys2Proof.Machine

namespace Sys2Proof.Machine

/-! ### The notice is stored and handed off (R113, R132, R134) -/

/-- The state in which a whole notice is handed off: its receive record is used up, and the ring has taken it. -/
def State.received (s : State) (n : StoredNotice) : State :=
  (s.setNotice { s.notice with recv := none }).ringAppend n

section
variable {s : State} {n : StoredNotice}

theorem ringAppend_blocks (s : State) (n : StoredNotice) : (s.ringAppend n).table = s.table ∧
    (s.ringAppend n).chans = s.chans ∧ (s.ringAppend n).seq = s.seq ∧ (s.ringAppend n).stn = s.stn ∧
    (s.ringAppend n).port.image = s.port.image ∧
    (s.notice.ring.length < 16 → (s.ringAppend n).notice.ring = s.notice.ring ++ [n]) := by
  unfold State.ringAppend
  dsimp only
  split
  · split <;> exact ⟨rfl, rfl, rfl, rfl, rfl, fun _ => rfl⟩
  · rename_i full
    exact ⟨rfl, rfl, rfl, rfl, rfl, fun room => absurd room full⟩

theorem received_blocks (s : State) (n : StoredNotice) : (s.received n).table = s.table ∧
    (s.received n).chans = s.chans ∧ (s.received n).seq = s.seq ∧ (s.received n).stn = s.stn ∧
    (s.received n).port.image = s.port.image ∧
    (s.notice.ring.length < 16 → (s.received n).notice.ring = s.notice.ring ++ [n]) :=
  ringAppend_blocks (s.setNotice { s.notice with recv := none }) n

theorem received_chan (s : State) (n : StoredNotice) (c : Chan) : (s.received n).chan c = s.chan c := by
  rw [State.chan, State.chan, (received_blocks s n).2.1]

/-- A whole valid YIELD of a peer, in ACTIVE, is stored and handled (R113, R132). -/
theorem takeNoticeEnd_yield {h p c : RxChar} {id : BitVec 6} (active : s.stn.state = .active)
    (flag : s.roll.flag = some .dominant) (peer : id ≠ s.ownId) (claimed : id ≠ 63)
    (recv : s.notice.recv = some { sender := some id, chars := [h, p, c] }) (good : s.roll.header = some (.good 1))
    (header : h.data &&& 0xE7 = 0x21) (valid : (storedNotice .complete id [h, p, c]).valid = true) :
    s.takeNoticeEnd .complete =
      (s.received (storedNotice .complete id [h, p, c])).handleYield (readYield id h.data p.data) := by
  let n := storedNotice .complete id [h, p, c]
  have fits : s.endFits .complete [h, p, c] = true := by simp [State.endFits, good]
  have taken : s.takeNoticeEnd .complete = (s.setNotice { s.notice with recv := none }).dispose n := by
    unfold State.takeNoticeEnd
    rw [recv]
    exact if_pos ⟨flag, fits⟩
  have stored : (s.setNotice { s.notice with recv := none }).dispose n = (s.received n).handOff n := by
    refine if_neg ?_
    rintro (own | deaf)
    · exact peer own
    · exact Bool.false_ne_true (deaf.symm.trans (active_listens (s := s.setNotice { s.notice with recv := none }) active))
  have on : (s.received n).isActive = true := by
    rw [isActive_iff, (received_blocks s n).2.2.2.1]
    exact active
  obtain ⟨kind, -⟩ := yieldHeader_fields h.data header
  rw [taken, stored]
  unfold State.handOff
  rw [if_pos ⟨valid, claimed⟩]
  have first : n.header = some h.data := rfl
  rw [first, on, storedYield_payload header]
  dsimp only
  rw [kind]
  rfl

end

/-! ### The fence of a yield (R87) -/

section
variable {fences : List Fence} {f : Fence}

/-- With room, or with an entry of the sender, the list loses that entry alone. -/
theorem writeFence_room (few : fences.length ≤ 4)
    (room : fences.length < 4 ∨ ∃ g ∈ fences, g.sender = f.sender) :
    writeFence fences f = fences.filter (fun g => g.sender ≠ f.sender) ++ [f] := by
  have short : (fences.filter fun g => g.sender ≠ f.sender).length < 4 := by
    obtain less | ⟨g, mem, own⟩ := room
    · exact Nat.lt_of_le_of_lt (List.length_filter_le _ _) less
    · refine Nat.lt_of_lt_of_le (List.length_filter_lt_length_iff_exists.2 ⟨g, mem, by simp [own]⟩) few
  have none : (fences.filter fun g => g.sender ≠ f.sender).length + 1 - Config.fencePlaces = 0 :=
    Nat.sub_eq_zero_of_le short
  unfold writeFence
  dsimp only
  rw [none, List.drop_zero]

/-- A full list without the sender loses its oldest entry. -/
theorem writeFence_full (full : fences.length = 4) (other : ∀ g ∈ fences, g.sender ≠ f.sender) :
    writeFence fences f = fences.tail ++ [f] := by
  have all : (fences.filter fun g => g.sender ≠ f.sender) = fences :=
    List.filter_eq_self.2 fun g mem => decide_eq_true (other g mem)
  unfold writeFence
  dsimp only
  rw [all, full]
  exact congrArg (· ++ [f]) List.drop_one

end

/-! ### The handling of a yield (R113, R114) -/

/-- The state in which the sheds of a yield begin: the fence written, YIELD_IN set, the spares of the mask released. -/
def State.yieldStart (s : State) (y : YieldIn) : State :=
  ((s.fenceFor y).setEvent .yieldIn).releaseSpares y.mask

section
variable {s : State} {y : YieldIn}

theorem handleYield_masked (mask : y.mask ≠ 0) :
    s.handleYield y = yieldSheds y 8 (s.table.sparesIn y.mask).length (s.yieldStart y) :=
  if_neg mask

/-- No spare of the mask is left (R41). -/
theorem yieldStart_spares {k : Nat} {r : UnitRec} {w : Win} (record : (s.yieldStart y).table.recs[k]? = some r)
    (spare : r.view.isSpare = true) (window : r.window = some w) : y.mask.getLsbD w.val = false := by
  have views : (s.yieldStart y).table.recs[k]? = (s.table.recs[k]?).map fun r =>
      { r with view := if k ∈ s.table.sparesIn y.mask then .releasing else r.view } :=
    mapViews_record s.table (fun k v => if k ∈ s.table.sparesIn y.mask then .releasing else v) k
  rw [views] at record
  obtain ⟨r', record', rfl⟩ := Option.map_eq_some_iff.1 record
  dsimp only at spare window
  split at spare
  · cases spare
  · rename_i out
    rw [UnitTable.sparesIn, mem_unitsWhere] at out
    by_contra named
    refine out ⟨r', record', ?_⟩
    rw [Bool.not_eq_false] at named
    simp only [UnitRec.spareIn, spare, window, named, Bool.and_self]

/-- A channel of the yield's priority or a higher one, or outside its mask, is out of reach (R114). -/
theorem yieldReaches_apart {m : Image} (image : s.port.image = m) {c : Chan}
    (apart : y.priority ≤ m.priority c ∨ y.mask &&& m.mask c = 0) : ¬ (s.yieldStart y).yieldReaches y c = true := by
  rw [yieldReaches_image (t := s.yieldStart y) (s := s) rfl, State.yieldReaches, image]
  obtain higher | outside := apart
  · simp [Nat.not_lt.2 higher]
  · rw [BitVec.and_comm] at outside
    simp [outside]

/-- The sheds of a yield from their beginning. -/
theorem handleYield_course (mask : y.mask ≠ 0) : YieldCourse y (s.yieldStart y) (s.handleYield y) ∧
    ((s.handleYield y).port.events.getLsbD 1 = true ∨ ∀ c, (s.chan c).state.holdsUnits = true →
      ((s.handleYield y).chan c).state.holdsUnits = true) := by
  rw [handleYield_masked mask]
  exact (YieldCourse.refl _).yieldSheds 8 _ (.inr fun _ => id)

/-- YIELD_IN is set, whatever the mask (R113). -/
theorem handleYield_yieldIn (s : State) (y : YieldIn) : (s.handleYield y).port.events.getLsbD 8 = true := by
  by_cases mask : y.mask = 0
  · have only : s.handleYield y = s.setEvent .yieldIn := if_pos mask
    rw [only]
    exact setEvent_bit s .yieldIn
  · rw [handleYield_masked mask]
    exact (yieldSheds_marks y 8 _ _).events 8 (setEvent_bit (s.fenceFor y) .yieldIn)

end

/-- Settles O26: the fence and the spares are written before the sheds, and each shed keeps them; a channel out of the
yield's reach is never a candidate. -/
theorem yieldReceivedWritesFence : Obligations.YieldReceivedWritesFence := by
  unfold Obligations.YieldReceivedWritesFence
  intro s id h p c active flag peer claimed recv good header sum clean few
  let n := storedNotice .complete id [h, p, c]
  let y := readYield id h.data p.data
  have taken := takeNoticeEnd_yield active flag peer claimed recv good header (storedYield_valid header sum clean)
  obtain ⟨table, chans, seq, stn, image, ring⟩ := received_blocks s n
  refine ⟨(s.takeNoticeEnd .complete).settle, rfl, ?_⟩
  rw [taken]
  refine ⟨?_, fun room => ?_, fun unnamed => ?_, fun named => ?_⟩
  · rw [settle_port]
    exact handleYield_yieldIn _ y
  · rw [settle_notice]
    have kept : ((s.received n).handleYield y).notice.ring = (s.received n).notice.ring := by
      by_cases mask : y.mask = 0
      · rw [show (s.received n).handleYield y = (s.received n).setEvent .yieldIn from if_pos mask]
        rfl
      · exact (handleYield_course mask).1.ring
    rw [kept, ring room, List.length_append, List.length_singleton]
  · have mask : y.mask = 0 := (yieldMask_zero p.data).1 unnamed
    rw [show (s.received n).handleYield y = (s.received n).setEvent .yieldIn from if_pos mask, settle_chans,
      settle_table, settle_startList]
    exact ⟨chans, table, congrArg Sequencer.startList seq⟩
  · have mask : y.mask ≠ 0 := fun e => named ((yieldMask_zero p.data).2 e)
    obtain ⟨course, told⟩ := handleYield_course (s := s.received n) mask
    have before (k : Chan) : ((s.received n).yieldStart y).chan k = s.chan k := received_chan s n k
    have fences : ((s.received n).handleYield y).chans.fences = writeFence s.chans.fences
        { sender := id, priority := (h.data >>> 3 &&& 3 : Byte).toNat, mask := p.data.setWidth 4,
          left := s.port.image.holdoffUs } := by
      rw [course.fences, ← chans, ← image]
      rfl
    refine ⟨?_, fun r mem m w view window => ?_, fun k held apart => ?_, fun k held lost => ?_⟩
    · rw [settle_chans, fences]
      refine ⟨_, rfl, fun room => ?_, fun full other => ?_⟩
      · exact List.append_cancel_right (writeFence_room few room)
      · exact List.append_cancel_right (writeFence_full full other)
    · rw [settle_table] at mem
      obtain ⟨i, record⟩ := List.mem_iff_getElem?.1 mem
      obtain ⟨x, record', same, spare⟩ := course.spares.backward record
      exact yieldStart_spares record' (spare (by rw [view]; rfl)) (same.symm.trans window)
    · rw [settle_chan]
      obtain holds | ⟨reaches, -⟩ := course.chan k (by rw [before]; exact held)
      · exact holds
      · exact absurd reaches (yieldReaches_apart image apart)
    · rw [settle_chan] at lost ⊢
      rw [settle_port]
      obtain holds | ⟨-, cause⟩ := course.chan k (by rw [before]; exact held)
      · rw [lost] at holds
        cases holds
      · refine ⟨cause, told.resolve_right fun all => ?_⟩
        have holds := all k (by rw [received_chan]; exact held)
        rw [lost] at holds
        cases holds

end Sys2Proof.Machine
namespace Sys2Proof.Machine

/-! ### Steps under which no store and no count grows (R45, R87, R122, R134, R138) -/

/-- The stores and counts of t are within those of s, the fence list loses entries at most, an empty yield slot stays
empty, and the station state stays. -/
structure NoGrowth (s t : State) : Prop where
  tx : t.notice.tx.length ≤ s.notice.tx.length
  ring : t.notice.ring.length ≤ s.notice.ring.length
  fences : (t.chans.fences.map Fence.sender).Sublist (s.chans.fences.map Fence.sender)
  slot : s.notice.slot = none → t.notice.slot = none
  lossRun : t.cont.lossRun ≤ s.cont.lossRun
  conflictRun : t.cont.conflictRun ≤ s.cont.conflictRun
  state : t.stn.state = s.stn.state
  joinCount : t.stn.joinCount ≤ s.stn.joinCount
  silence : t.stn.silence ≤ s.stn.silence

section
variable {s t u : State}

/-- What grows nowhere keeps every bound. -/
theorem StoresBounded.noGrowth (h : StoresBounded s) (k : NoGrowth s t) : StoresBounded t := by
  obtain ⟨tx, ring, fences, once, slot, loss, conflicts, joins, joining, silence⟩ := h
  have fewer : t.chans.fences.length ≤ s.chans.fences.length := by simpa using k.fences.length_le
  exact ⟨k.tx.trans tx, k.ring.trans ring, fewer.trans fences, k.fences.nodup once,
    fun away => k.slot (slot (k.state ▸ away)), k.lossRun.trans loss, k.conflictRun.trans conflicts,
    k.joinCount.trans joins, fun at' => k.joinCount.trans (joining (k.state ▸ at')), k.silence.trans silence⟩

theorem NoGrowth.trans (h : NoGrowth s t) (k : NoGrowth t u) : NoGrowth s u :=
  ⟨k.tx.trans h.tx, k.ring.trans h.ring, k.fences.trans h.fences, fun e => k.slot (h.slot e), k.lossRun.trans h.lossRun,
    k.conflictRun.trans h.conflictRun, k.state.trans h.state, k.joinCount.trans h.joinCount, k.silence.trans h.silence⟩

/-- Steps that leave the three blocks with bounds alone, but for what the bounds do not speak of. -/
theorem NoGrowth.of_blocks (notice : t.notice.tx = s.notice.tx ∧ t.notice.ring = s.notice.ring ∧
    t.notice.slot = s.notice.slot) (fences : t.chans.fences = s.chans.fences)
    (runs : t.cont.lossRun = s.cont.lossRun ∧ t.cont.conflictRun = s.cont.conflictRun)
    (stn : t.stn.state = s.stn.state ∧ t.stn.joinCount = s.stn.joinCount ∧ t.stn.silence = s.stn.silence) :
    NoGrowth s t := by
  obtain ⟨tx, ring, slot⟩ := notice
  obtain ⟨loss, conflicts⟩ := runs
  obtain ⟨state, joins, silence⟩ := stn
  exact ⟨by rw [tx], by rw [ring], by rw [fences], fun e => slot.trans e, loss.le, conflicts.le, state, joins.le,
    silence.le⟩

theorem NoGrowth.refl (s : State) : NoGrowth s s := .of_blocks ⟨rfl, rfl, rfl⟩ rfl ⟨rfl, rfl⟩ ⟨rfl, rfl, rfl⟩

end

/-! #### One block written -/

section
variable (s : State) (c : Chan)

theorem setLine_noGrowth (x : LineIf) : NoGrowth s (s.setLine x) := .of_blocks ⟨rfl, rfl, rfl⟩ rfl ⟨rfl, rfl⟩ ⟨rfl, rfl, rfl⟩

theorem setRoll_noGrowth (x : RollTracker) : NoGrowth s (s.setRoll x) :=
  .of_blocks ⟨rfl, rfl, rfl⟩ rfl ⟨rfl, rfl⟩ ⟨rfl, rfl, rfl⟩

theorem setTable_noGrowth (x : UnitTable) : NoGrowth s (s.setTable x) :=
  .of_blocks ⟨rfl, rfl, rfl⟩ rfl ⟨rfl, rfl⟩ ⟨rfl, rfl, rfl⟩

theorem setSeq_noGrowth (x : Sequencer) : NoGrowth s (s.setSeq x) :=
  .of_blocks ⟨rfl, rfl, rfl⟩ rfl ⟨rfl, rfl⟩ ⟨rfl, rfl, rfl⟩

theorem setPort_noGrowth (x : LocalPort) : NoGrowth s (s.setPort x) :=
  .of_blocks ⟨rfl, rfl, rfl⟩ rfl ⟨rfl, rfl⟩ ⟨rfl, rfl, rfl⟩

theorem setFree_noGrowth (n : Nat) : NoGrowth s (s.setFree n) :=
  .of_blocks ⟨rfl, rfl, rfl⟩ rfl ⟨rfl, rfl⟩ ⟨rfl, rfl, rfl⟩

theorem setEvent_noGrowth (e : Event) : NoGrowth s (s.setEvent e) := setPort_noGrowth s _

theorem setChans_noGrowth (x : Channels) (fences : x.fences = s.chans.fences := by exact rfl) : NoGrowth s (s.setChans x) :=
  .of_blocks ⟨rfl, rfl, rfl⟩ fences ⟨rfl, rfl⟩ ⟨rfl, rfl, rfl⟩

theorem setNotice_noGrowth (x : NoticeUnit) (tx : x.tx.length ≤ s.notice.tx.length := by exact Nat.le_refl _)
    (ring : x.ring.length ≤ s.notice.ring.length := by exact Nat.le_refl _)
    (slot : s.notice.slot = none → x.slot = none := by exact id) : NoGrowth s (s.setNotice x) :=
  ⟨tx, ring, .refl _, slot, Nat.le_refl _, Nat.le_refl _, rfl, Nat.le_refl _, Nat.le_refl _⟩

theorem setCont_noGrowth (x : Contention) (loss : x.lossRun ≤ s.cont.lossRun := by exact Nat.le_refl _)
    (conflicts : x.conflictRun ≤ s.cont.conflictRun := by exact Nat.le_refl _) : NoGrowth s (s.setCont x) :=
  ⟨Nat.le_refl _, Nat.le_refl _, .refl _, id, loss, conflicts, rfl, Nat.le_refl _, Nat.le_refl _⟩

theorem setStn_noGrowth (x : StationCtl) (state : x.state = s.stn.state := by exact rfl)
    (joins : x.joinCount ≤ s.stn.joinCount := by exact Nat.le_refl _)
    (silence : x.silence ≤ s.stn.silence := by exact Nat.le_refl _) : NoGrowth s (s.setStn x) :=
  ⟨Nat.le_refl _, Nat.le_refl _, .refl _, id, Nat.le_refl _, Nat.le_refl _, state, joins, silence⟩

theorem setChan_noGrowth (r : ChannelRec) : NoGrowth s (s.setChan c r) := setChans_noGrowth s _

theorem setChState_noGrowth (x : ChState) : NoGrowth s (s.setChState c x) := setChan_noGrowth s c _

/-! #### The operations the blocks share -/

theorem settle_noGrowth : NoGrowth s s.settle := by
  refine .of_blocks ?_ ?_ ?_ ?_
  · rw [settle_notice]; exact ⟨rfl, rfl, rfl⟩
  · rw [settle_chans]
  · rw [settle_cont]; exact ⟨rfl, rfl⟩
  · rw [settle_stn]; exact ⟨rfl, rfl, rfl⟩

theorem turnOn_noGrowth : NoGrowth s (s.turnOn c) := (setSeq_noGrowth s _).trans (setChState_noGrowth _ c _)

theorem checkHead_noGrowth : NoGrowth s s.checkHead := by
  unfold State.checkHead
  split
  · exact .refl s
  · split
    · exact turnOn_noGrowth s _
    · exact .refl s

theorem removeStart_noGrowth (leaving : Bool) : NoGrowth s (s.removeStart c leaving) := by
  have removed : NoGrowth s (s.removeStart c true) := by
    rw [removeStart_leaving]
    exact setSeq_noGrowth s _
  obtain e | e := removeStart_cases s c leaving
  · rw [e]; exact removed
  · rw [e]; exact removed.trans (checkHead_noGrowth _)

theorem restartWait_noGrowth : NoGrowth s (s.restartWait c) := by
  unfold State.restartWait
  split
  · exact setChState_noGrowth s c _
  · exact .refl s

theorem freeRequester_noGrowth : NoGrowth s s.freeRequester := by
  unfold State.freeRequester
  split
  · split
    · exact restartWait_noGrowth s _
    · exact .refl s
  · exact .refl s

theorem emptySlot_noGrowth : NoGrowth s s.emptySlot :=
  (freeRequester_noGrowth s).trans (setNotice_noGrowth _ _ (slot := fun _ => rfl))

/-- A request that loses its requester fills no empty slot (R109). -/
theorem leaveQueue_noGrowth : NoGrowth s (s.leaveQueue c) := by
  rw [leaveQueue_eq]
  refine (setChans_noGrowth s _).trans (setNotice_noGrowth _ _ (slot := fun none => ?_))
  change withoutRequester c s.notice.slot = .none
  rw [show s.notice.slot = .none from none]
  rfl

theorem joinQueue_noGrowth : NoGrowth s (s.joinQueue c) :=
  (setChans_noGrowth s _).trans (setChState_noGrowth _ c _)

theorem toStarting_noGrowth : NoGrowth s (s.toStarting c) :=
  (((leaveQueue_noGrowth s c).trans (setChState_noGrowth _ c _)).trans (setSeq_noGrowth _ _)).trans (checkHead_noGrowth _)

theorem bindSpares_noGrowth : NoGrowth s (s.bindSpares c) := (setTable_noGrowth s _).trans (toStarting_noGrowth _ c)

theorem spareCheck_noGrowth : NoGrowth s s.spareCheck :=
  spareCheck_keeps (P := NoGrowth s) (fun u d h _ => h.trans (bindSpares_noGrowth u d)) (.refl s)

theorem enterWaiting_noGrowth (leaving : Bool) : NoGrowth s (s.enterWaiting c leaving) := by
  unfold State.enterWaiting
  split
  · exact joinQueue_noGrowth s c
  · exact (joinQueue_noGrowth s c).trans (spareCheck_noGrowth _)

theorem shedNext_noGrowth (leaving : Bool) : NoGrowth s (s.shedNext c leaving) := by
  unfold State.shedNext
  split
  · exact enterWaiting_noGrowth s c leaving
  · exact .refl s

/-- A channel's output goes off, its units change their view and its record is written (R76, R82). -/
theorem letGo_noGrowth (x : UnitTable) (r : ChannelRec) : NoGrowth s (((s.clearOutput c).setTable x).setChan c r) :=
  ((setSeq_noGrowth s _).trans (setTable_noGrowth _ x)).trans (setChan_noGrowth _ c r)

theorem stopChan_noGrowth : NoGrowth s (s.stopChan c) := by
  unfold State.stopChan
  split
  · exact (letGo_noGrowth s c _ _).trans (setChState_noGrowth _ c _)
  · exact ((setTable_noGrowth s _).trans (setChState_noGrowth _ c _)).trans (removeStart_noGrowth _ c _)
  · exact .refl s

theorem shedChan_noGrowth (cause : ShedCause) (leaving : Bool) : NoGrowth s (s.shedChan cause leaving c) := by
  unfold State.shedChan
  split
  · have off : NoGrowth s ((((s.clearOutput c).releaseUnits c).startOffSince c).writeCause c cause) :=
      (letGo_noGrowth s c _ _).trans (setChan_noGrowth _ c _)
    dsimp only
    split
    · exact off.trans (setChState_noGrowth _ c _)
    · split
      · exact off.trans (setChState_noGrowth _ c _)
      · exact (off.trans (setChState_noGrowth _ c _)).trans (shedNext_noGrowth _ c leaving)
  · have released (x : ChState) : NoGrowth s
        ((((s.releaseUnits c).writeCause c cause).setChState c x).removeStart c leaving) :=
      (((setTable_noGrowth s _).trans (setChan_noGrowth _ c _)).trans (setChState_noGrowth _ c x)).trans
        (removeStart_noGrowth _ c leaving)
    dsimp only
    split
    · exact released _
    · exact (released _).trans (shedNext_noGrowth _ c leaving)
  · split
    · exact ((leaveQueue_noGrowth s c).trans (setChan_noGrowth _ c _)).trans (setChState_noGrowth _ c _)
    · exact .refl s
  · exact .refl s

theorem demandAppears_noGrowth : NoGrowth s (s.demandAppears c) := by
  unfold State.demandAppears
  split
  · exact enterWaiting_noGrowth s c false
  · exact setChState_noGrowth s c _
  · exact .refl s

theorem demandDisappears_noGrowth : NoGrowth s (s.demandDisappears c) := by
  unfold State.demandDisappears
  split
  · exact (leaveQueue_noGrowth s c).trans (setChState_noGrowth _ c _)
  · exact stopChan_noGrowth s c
  · split
    · exact stopChan_noGrowth s c
    · exact setChState_noGrowth s c _
  · exact .refl s

theorem writeInputs_noGrowth (r : ChannelRec) : NoGrowth s (s.writeInputs c r) := by
  have written := setChan_noGrowth s c r
  unfold State.writeInputs
  dsimp only
  split
  · exact written
  · split
    · exact written.trans (demandAppears_noGrowth _ c)
    · exact written.trans (demandDisappears_noGrowth _ c)

theorem parkChan_noGrowth : NoGrowth s (s.parkChan c) := by
  have parked := setChan_noGrowth s c { s.chan c with park := true }
  unfold State.parkChan
  dsimp only
  split
  · exact parked.trans (setChState_noGrowth _ c _)
  · exact parked.trans (setChState_noGrowth _ c _)
  · exact parked.trans (shedChan_noGrowth _ c _ _)
  · exact parked.trans (shedChan_noGrowth _ c _ _)
  · exact parked.trans (shedChan_noGrowth _ c _ _)
  · exact parked
  · exact parked

theorem unparkChan_noGrowth : NoGrowth s (s.unparkChan c) := by
  have freed := setChan_noGrowth s c { s.chan c with park := false }
  have off := freed.trans (setChState_noGrowth _ c .off)
  unfold State.unparkChan
  dsimp only
  split
  · split
    · split
      · exact off.trans (enterWaiting_noGrowth _ c false)
      · exact off
    · exact freed.trans (setChState_noGrowth _ c _)
  · exact freed

end

/-- One channel after the other, each without growth. -/
theorem foldl_noGrowth {f : State → Chan → State} (each : ∀ s c, NoGrowth s (f s c)) (l : List Chan) (s : State) :
    NoGrowth s (l.foldl f s) := by
  induction l generalizing s with
  | nil => exact .refl s
  | cons c l ih => exact (each s c).trans (ih _)

end Sys2Proof.Machine

namespace Sys2Proof.Machine

/-! ### One block written within its bounds -/

section
variable {s : State}

theorem StoresBounded.setNotice (h : StoresBounded s) (x : NoticeUnit) (tx : x.tx.length ≤ 4) (ring : x.ring.length ≤ 16)
    (slot : s.stn.state ≠ .active → x.slot = none) : StoresBounded (s.setNotice x) := by
  obtain ⟨-, -, fences, once, -, counts⟩ := h
  exact ⟨tx, ring, fences, once, slot, counts⟩

theorem StoresBounded.setFences (h : StoresBounded s) {l : List Fence} (few : l.length ≤ 4)
    (once : (l.map Fence.sender).Nodup) : StoresBounded (s.setChans { s.chans with fences := l }) := by
  obtain ⟨tx, ring, -, -, rest⟩ := h
  exact ⟨tx, ring, few, once, rest⟩

theorem StoresBounded.setCont (h : StoresBounded s) (x : Contention) (loss : x.lossRun ≤ 255)
    (conflicts : x.conflictRun ≤ 3) : StoresBounded (s.setCont x) := by
  obtain ⟨tx, ring, fences, once, slot, -, -, station⟩ := h
  exact ⟨tx, ring, fences, once, slot, loss, conflicts, station⟩

theorem StoresBounded.setStn (h : StoresBounded s) (x : StationCtl) (slot : x.state ≠ .active → s.notice.slot = none)
    (joins : x.joinCount ≤ 2) (joining : x.state = .joining → x.joinCount ≤ 1) (silence : x.silence ≤ 512) :
    StoresBounded (s.setStn x) := by
  obtain ⟨tx, ring, fences, once, -, loss, conflicts, -⟩ := h
  exact ⟨tx, ring, fences, once, slot, loss, conflicts, joins, joining, silence⟩

/-- Entry to any state with an empty slot; JOINING starts its count at 0 (R140). -/
theorem StoresBounded.enterState (h : StoresBounded s) (empty : s.notice.slot = none) (x : StationState) :
    StoresBounded (s.enterState x) := by
  obtain ⟨tx, ring, fences, once, slot, loss, conflicts, joins, joining, silence⟩ := h
  cases x with
  | joining => exact ⟨tx, ring, fences, once, fun _ => empty, loss, conflicts, Nat.zero_le 2, fun _ => Nat.zero_le 1, silence⟩
  | _ => exact ⟨tx, ring, fences, once, fun _ => empty, loss, conflicts, joins, nofun, silence⟩

/-- A state other than ACTIVE is left with its slot empty (R105). -/
theorem StoresBounded.empty_slot (h : StoresBounded s) (away : s.stn.state ≠ .active) : s.notice.slot = none := by
  obtain ⟨-, -, -, -, slot, -⟩ := h
  exact slot away

end

/-! ### Departures (R84, R87, R105, R124, R143) -/

section
variable (s : State) (cause : ShedCause)

theorem stationShed_noGrowth : NoGrowth s (s.stationShed cause) := by
  have shed := foldl_noGrowth (fun u c => shedChan_noGrowth u c cause true) allChans s
  obtain e | e := stationShed_cases s cause
  · rw [e]; exact shed
  · rw [e]; exact shed.trans (setEvent_noGrowth _ _)

theorem abandonSend_noGrowth : NoGrowth s s.abandonSend := by
  unfold State.abandonSend
  split
  · split
    · exact .refl s
    · exact setNotice_noGrowth s _ 
  · exact .refl s

theorem departNotice_noGrowth : NoGrowth s s.departNotice :=
  ((abandonSend_noGrowth s).trans (emptySlot_noGrowth _)).trans
    (setNotice_noGrowth _ _)

theorem writeIncident_noGrowth (i : IncidentCause) (c : Option Chan) : NoGrowth s (s.writeIncident i c) :=
  setStn_noGrowth s _

theorem departing_noGrowth : NoGrowth s (s.departing cause) := by
  have claim (u : State) : NoGrowth u u.abandonClaim := by
    unfold State.abandonClaim
    split
    · exact setCont_noGrowth u _
    · exact .refl u
  have fences (u : State) : NoGrowth u u.dropFences :=
    ⟨Nat.le_refl _, Nat.le_refl _, List.nil_sublist _, id, Nat.le_refl _, Nat.le_refl _, rfl, Nat.le_refl _, Nat.le_refl _⟩
  exact ((((stationShed_noGrowth s cause).trans (setTable_noGrowth _ _)).trans (claim _)).trans
    (departNotice_noGrowth _)).trans (fences _)

end

section
variable {s : State}

/-- A departure empties the slot, whatever the state it enters. -/
theorem StoresBounded.depart (h : StoresBounded s) (cause : ShedCause) (x : StationState) :
    StoresBounded (s.depart cause x) :=
  (h.noGrowth (departing_noGrowth s cause)).enterState (by rw [departing_notice]) x

theorem StoresBounded.incident (h : StoresBounded s) (i : IncidentCause) (c : Option Chan) (cause : ShedCause)
    (x : StationState) : StoresBounded ((s.writeIncident i c).depart cause x) :=
  (h.noGrowth (writeIncident_noGrowth s i c)).depart cause x

theorem StoresBounded.setEvent (h : StoresBounded s) (e : Event) : StoresBounded (s.setEvent e) :=
  h.noGrowth (setEvent_noGrowth s e)

theorem StoresBounded.settle (h : StoresBounded s) : StoresBounded s.settle := h.noGrowth (settle_noGrowth s)

theorem StoresBounded.faultClash (h : StoresBounded s) : StoresBounded s.faultClash :=
  (h.incident .clash none .clash .faulted).setEvent .fault

theorem StoresBounded.faultDrive (h : StoresBounded s) (c : Option Chan) : StoresBounded (s.faultDrive c) :=
  (h.incident .drive c .drive .faulted).setEvent .fault

theorem StoresBounded.actRequest (h : StoresBounded s) (q : Request) : StoresBounded (s.actRequest q) := by
  cases q with
  | leave => exact h.depart .leave .left
  | quiet => exact h.depart .quiet .quiet

/-! ### Received notices (R87, R113 to R116, R134) -/

/-- The fence list after a yield holds four entries at most, and one a sender (R87). -/
theorem writeFence_bounds {l : List Fence} (once : (l.map Fence.sender).Nodup) (f : Fence) :
    (writeFence l f).length ≤ 4 ∧ ((writeFence l f).map Fence.sender).Nodup := by
  let rest := l.filter fun g => g.sender ≠ f.sender
  let last := rest.drop (rest.length + 1 - Config.fencePlaces)
  change (last ++ [f]).length ≤ 4 ∧ ((last ++ [f]).map Fence.sender).Nodup
  have sub : last.Sublist rest := List.drop_sublist _ _
  constructor
  · have short : last.length = rest.length - (rest.length + 1 - 4) := List.length_drop
    rw [List.length_append, short, List.length_singleton]
    omega
  · rw [List.map_append, List.nodup_append]
    refine ⟨(sub.trans List.filter_sublist).map _ |>.nodup once, by simp, fun x mem y new => ?_⟩
    obtain ⟨g, kept, rfl⟩ := List.mem_map.1 mem
    have other : g.sender ≠ f.sender := by simpa using (List.mem_filter.1 (sub.subset kept)).2
    rw [List.map_singleton, List.mem_singleton] at new
    exact new ▸ other

theorem yieldSheds_noGrowth (y : YieldIn) (n count : Nat) (s : State) : NoGrowth s (yieldSheds y n count s) := by
  induction n generalizing count s with
  | zero => exact .refl s
  | succ n ih =>
    unfold yieldSheds
    split
    · exact .refl s
    · split
      · exact .refl s
      · exact ((shedChan_noGrowth s _ _ _).trans (setEvent_noGrowth _ _)).trans (ih _ _)

theorem StoresBounded.handleYield (h : StoresBounded s) (y : YieldIn) : StoresBounded (s.handleYield y) := by
  have once : (s.chans.fences.map Fence.sender).Nodup := by
    obtain ⟨-, -, -, once, -⟩ := h
    exact once
  unfold State.handleYield
  split
  · exact h.setEvent _
  · obtain ⟨few, once⟩ := writeFence_bounds once
      { sender := y.sender, priority := y.priority, mask := y.mask, left := s.port.image.holdoffUs }
    have fenced := (h.setFences few once).setEvent .yieldIn
    exact fenced.noGrowth ((setTable_noGrowth _ _).trans (yieldSheds_noGrowth y 8 _ _))

/-- The ring takes a notice where it has room for it (R134). -/
theorem StoresBounded.ringAppend (h : StoresBounded s) (n : StoredNotice) : StoresBounded (s.ringAppend n) := by
  unfold State.ringAppend
  dsimp only
  split
  · rename_i room
    have stored : StoresBounded (s.setNotice { s.notice with ring := s.notice.ring ++ [n] }) := by
      obtain ⟨tx, -, -, -, slot, -⟩ := id h
      refine h.setNotice _ tx ?_ slot
      rw [List.length_append, List.length_singleton]
      exact room
    split
    · exact stored.setEvent _
    · exact stored
  · exact h.setEvent _

theorem StoresBounded.dispose (h : StoresBounded s) (n : StoredNotice) : StoresBounded (s.dispose n) := by
  have stored := h.ringAppend n
  unfold State.dispose
  split
  · exact h
  · unfold State.handOff
    split
    · split
      · exact stored
      · split
        · unfold State.comparePresence
          split
          · exact stored
          · exact stored.setEvent _
        · split
          · exact stored.handleYield _
          · exact stored
        · exact stored
    · exact stored

theorem StoresBounded.takeNoticeEnd (h : StoresBounded s) (form : NoticeForm) : StoresBounded (s.takeNoticeEnd form) := by
  unfold State.takeNoticeEnd
  split
  · split
    · refine StoresBounded.dispose (h.noGrowth ?_) _
      exact (setRoll_noGrowth s _).trans (setNotice_noGrowth _ _)
    · exact h
  · exact h

/-! ### The roll end (R62, R81, R127, R140, R142, R145) -/

theorem completeSource_noGrowth (s : State) (r : SendRecord) : NoGrowth s (s.completeSource r) := by
  have sent : NoGrowth s ((s.setNotice { s.notice with holdoff := s.port.image.holdoffUs }).setEvent .yieldOut) :=
    (setNotice_noGrowth s _).trans (setEvent_noGrowth _ _)
  unfold State.completeSource
  split
  · exact setNotice_noGrowth s _ 
  · exact setNotice_noGrowth s _ (tx := by exact List.length_tail.trans_le (Nat.sub_le _ _))
  · dsimp only
    split
    · split
      · exact sent.trans (emptySlot_noGrowth _)
      · exact sent
    · exact sent

theorem endSend_noGrowth (s : State) : NoGrowth s s.endSend := by
  have dropped (u : State) : NoGrowth u (u.setNotice { u.notice with send := none }) :=
    setNotice_noGrowth u _ 
  unfold State.endSend
  split
  · dsimp only
    split
    · exact (completeSource_noGrowth s _).trans (dropped _)
    · exact dropped s
  · exact .refl s

theorem endNotices_noGrowth (s : State) : NoGrowth s s.endConflictRun.endSend.endRecv := by
  have run : NoGrowth s s.endConflictRun := by
    unfold State.endConflictRun
    split
    · exact setCont_noGrowth s _ (conflicts := Nat.zero_le _)
    · exact .refl s
  have recv (u : State) : NoGrowth u u.endRecv := by
    unfold State.endRecv
    split
    · exact .refl u
    · exact setNotice_noGrowth u _ 
  exact (run.trans (endSend_noGrowth _)).trans (recv _)

/-- A roll end in JOINING counts to 2 at most, and at 2 the station is ACTIVE (R140, R142). -/
theorem StoresBounded.endJoining (h : StoresBounded s) (joining : s.stn.state = .joining) (valid : Bool) :
    StoresBounded (s.endJoining valid) := by
  obtain ⟨tx, ring, fences, once, slot, loss, conflicts, joins, one, silence⟩ := h
  have count : joinCountAfter valid s.stn.countable s.stn.joinCount ≤ 2 := by
    have before := one joining
    unfold joinCountAfter
    split
    · split <;> omega
    · omega
  unfold State.endJoining
  dsimp only
  split
  · exact ⟨tx, ring, fences, once, fun away => absurd rfl away, Nat.zero_le _, Nat.zero_le _, count, nofun, silence⟩
  · rename_i few
    have below : joinCountAfter valid s.stn.countable s.stn.joinCount < 2 := Nat.not_le.1 few
    exact ⟨tx, ring, fences, once, slot, loss, conflicts, count, fun _ => Nat.le_of_lt_succ below, silence⟩

theorem StoresBounded.endStation (h : StoresBounded s) (valid : Bool) : StoresBounded (s.endStation valid) := by
  have clear {u : State} (k : StoresBounded u) : StoresBounded u.clearMark :=
    k.noGrowth (setStn_noGrowth u _)
  have restarted : StoresBounded (s.restartBusLoss valid) := by
    unfold State.restartBusLoss
    split
    · exact h.noGrowth (setStn_noGrowth s _)
    · exact h
  unfold State.endStation
  split
  · rename_i joining
    exact h.endJoining joining valid
  · refine clear ?_
    unfold State.endActive
    dsimp only
    split
    · exact restarted.actRequest _
    · exact restarted
  all_goals exact clear h

theorem StoresBounded.noticeAtEnd (h : StoresBounded s) (cause : RollEndCause) : StoresBounded (s.noticeAtEnd cause) := by
  cases cause with
  | flag => exact h
  | check => exact h.takeNoticeEnd .complete
  | trailing => exact h
  | stuck => exact h.takeNoticeEnd .stuck

theorem StoresBounded.spareCheck (h : StoresBounded s) : StoresBounded s.spareCheck := h.noGrowth (spareCheck_noGrowth s)

theorem StoresBounded.takeRollEnd (h : StoresBounded s) (cause : RollEndCause) (order : RollEndOrder) :
    StoresBounded (s.takeRollEnd cause order) := by
  unfold State.takeRollEnd
  split
  · dsimp only
    generalize s.endValid cause = valid
    have ended := h.noGrowth (((endNotices_noGrowth s).trans (setRoll_noGrowth _
      (s.endConflictRun.endSend.endRecv.roll.finish s.inFlight cause valid))).trans (setStn_noGrowth _
      { s.endConflictRun.endSend.endRecv.stn with silence := 0 } (silence := Nat.zero_le _)))
    cases order with
    | checkFirst => exact ended.spareCheck.endStation valid
    | requestFirst => exact (ended.endStation valid).spareCheck
    | noticeBetween => exact (ended.spareCheck.noticeAtEnd cause).endStation valid
  · exact h

end

end Sys2Proof.Machine

namespace Sys2Proof.Machine

/-! ### The rows of the line and of a roll -/

section
variable (s : State)

theorem takeSettlingEnd_noGrowth : NoGrowth s s.takeSettlingEnd := by
  unfold State.takeSettlingEnd
  split
  · exact (setRoll_noGrowth s _).trans (setLine_noGrowth _ _)
  · exact .refl s

theorem takeCandidateOpen_noGrowth : NoGrowth s s.takeCandidateOpen := by
  unfold State.takeCandidateOpen
  split
  · exact (setRoll_noGrowth s _).trans (setLine_noGrowth _ _)
  · exact .refl s

theorem takeOpenNoise_noGrowth (run : Nat) : NoGrowth s (s.takeOpenNoise run) := by
  unfold State.takeOpenNoise
  split
  · exact setRoll_noGrowth s _
  · exact .refl s

theorem takeOpenRoll_noGrowth : NoGrowth s s.takeOpenRoll := by
  unfold State.takeOpenRoll
  split
  · exact (setRoll_noGrowth s _).trans (setLine_noGrowth _ _)
  · exact .refl s

/-- Of the bounded counts the roll start writes the silence timer alone, to 0 (R141). -/
theorem takeRollStart_noGrowth : NoGrowth s s.takeRollStart := by
  unfold State.takeRollStart
  split
  · exact ⟨Nat.le_refl _, Nat.le_refl _, .refl _, id, Nat.le_refl _, Nat.le_refl _, rfl, Nat.le_refl _, Nat.zero_le _⟩
  · exact .refl s

theorem takeMalformedOpen_noGrowth : NoGrowth s s.takeMalformedOpen := by
  have fewer : (if s.stn.state = .joining then 0 else s.stn.joinCount) ≤ s.stn.joinCount := by
    split
    · exact Nat.zero_le _
    · exact Nat.le_refl _
  unfold State.takeMalformedOpen
  split
  · exact ((setRoll_noGrowth s _).trans (setLine_noGrowth _ _)).trans (setStn_noGrowth _ _ (joins := fewer))
  · exact .refl s

theorem markSkew_noGrowth (units : List Nat) : NoGrowth s (s.markSkew units) := by
  unfold State.markSkew
  split
  · exact (setTable_noGrowth s _).trans (setEvent_noGrowth _ _)
  · exact .refl s

theorem takeHoldComplete_noGrowth (units : List Nat) : NoGrowth s (s.takeHoldComplete units) := by
  have bid (u : State) : NoGrowth u u.formBid := (setCont_noGrowth u _).trans (setNotice_noGrowth _ _)
  have placed : NoGrowth s (s.toPosition s.numUnits) := setRoll_noGrowth s _
  unfold State.takeHoldComplete
  split
  · dsimp only
    split
    · exact ((placed.trans (markSkew_noGrowth _ units)).trans (setTable_noGrowth _ _)).trans (bid _)
    · exact placed.trans (bid _)
  · exact .refl s

theorem takeArbitrationLost_noGrowth (bit : Nat) : NoGrowth s (s.takeArbitrationLost bit) := by
  unfold State.takeArbitrationLost
  split
  · exact (setCont_noGrowth s _).trans (setLine_noGrowth _ _)
  · exact .refl s

theorem takeByPeer_noGrowth (units : List Nat) : NoGrowth s (s.takeByPeer units) := by
  have read : NoGrowth s (s.peerViews units) := by
    unfold State.peerViews
    dsimp only
    split
    · exact (setEvent_noGrowth s _).trans (setTable_noGrowth _ _)
    · exact setTable_noGrowth s _
  have shed : NoGrowth s (s.peerSheds units) :=
    read.trans (foldl_noGrowth (fun u c => shedChan_noGrowth u c .overlap false) _ _)
  rw [takeByPeer_eq]
  split
  · exact shed.trans (setEvent_noGrowth _ _)
  · exact shed

theorem takeByWinner_noGrowth (units : List Nat) : NoGrowth s (s.takeByWinner units) := by
  unfold State.takeByWinner
  split
  · split
    · exact (setTable_noGrowth s _).trans (takeByPeer_noGrowth _ _)
    · split
      · exact (setTable_noGrowth s _).trans (toStarting_noGrowth _ _)
      · exact setTable_noGrowth s _
  · split
    · exact takeByPeer_noGrowth s units
    · exact .refl s
  · exact takeByPeer_noGrowth s units

theorem takeTakeComplete_noGrowth (units : List Nat) : NoGrowth s (s.takeTakeComplete units) := by
  have placed : NoGrowth s (s.toPosition (2 * s.numUnits + 10)) := setRoll_noGrowth s _
  have marked := placed.trans (markSkew_noGrowth _ units)
  unfold State.takeTakeComplete
  split
  · dsimp only
    split
    · split
      · exact marked.trans (takeByWinner_noGrowth _ units)
      · exact marked.trans (takeByPeer_noGrowth _ units)
    · exact placed
  · exact .refl s

theorem takeFlagReading_noGrowth (level : Level) : NoGrowth s (s.takeFlagReading level) := by
  unfold State.takeFlagReading
  split
  · exact setRoll_noGrowth s _
  · exact .refl s

theorem takeNoticeCharacter_noGrowth (index : Nat) (data : Byte) (framing marker : Bool) :
    NoGrowth s (s.takeNoticeCharacter index data framing marker) := by
  unfold State.takeNoticeCharacter
  split
  · exact (setRoll_noGrowth s _).trans (setNotice_noGrowth _ _)
  · exact .refl s

end

section
variable {s : State}

/-- A loss counts to 255, and every other outcome leaves the loss run or sets it to 0 (R51). -/
theorem lossRunAfter_le {outcome : ClaimOutcome} {n : Nat} (h : n ≤ 255) : lossRunAfter outcome n ≤ 255 := by
  cases outcome with
  | lost bit => exact Nat.min_le_left _ _
  | abandoned => exact h
  | _ => exact Nat.zero_le _

theorem StoresBounded.takeClaimResolved (h : StoresBounded s) (word : BitVec 10) :
    StoresBounded (s.takeClaimResolved word) := by
  have settled : StoresBounded ((s.toPosition (s.numUnits + 10)).settleClaim word) := by
    have placed : StoresBounded (s.toPosition (s.numUnits + 10)) := h.noGrowth (setRoll_noGrowth s _)
    obtain ⟨-, -, -, -, -, loss, conflicts, -⟩ := h
    let u := s.toPosition (s.numUnits + 10)
    have run : (u.settleClaim word).cont.lossRun ≤ 255 := by
      change (if s.isActive then _ else s.cont.lossRun) ≤ 255
      split
      · exact lossRunAfter_le loss
      · exact loss
    exact (placed.setCont (u.settleClaim word).cont run conflicts).noGrowth (setNotice_noGrowth _ _)
  unfold State.takeClaimResolved
  split
  · dsimp only
    split
    · exact settled.faultClash
    · exact settled
  · exact h

theorem StoresBounded.takeDriveReport (h : StoresBounded s) (phase : Phase) (q : Nat) :
    StoresBounded (s.takeDriveReport phase q) := by
  have reported : StoresBounded (s.driveReported phase) := by
    refine h.noGrowth ((setRoll_noGrowth s (s.roll.driveReport phase)).trans ?_)
    unfold State.driveReported State.dropRecv
    split
    · exact .refl _
    · exact setNotice_noGrowth _ _
  unfold State.takeDriveReport
  split
  · exact reported.faultDrive _
  · exact h

/-- A conflict counts to 3 (R62). -/
theorem StoresBounded.takeConflict (h : StoresBounded s) (phase : OwnPhase) : StoresBounded (s.takeConflict phase) := by
  have effects : StoresBounded (s.conflictEffects phase) := by
    obtain ⟨-, -, -, -, -, loss, -⟩ := id h
    let cont := { s.cont with conflictMark := true, conflictRun := min Config.clashRun (s.cont.conflictRun + 1) }
    have counted := h.setCont cont loss (Nat.min_le_left _ _)
    exact counted.noGrowth (.of_blocks ⟨rfl, rfl, rfl⟩ rfl ⟨rfl, rfl⟩ ⟨rfl, rfl, rfl⟩)
  unfold State.takeConflict
  split
  · dsimp only
    split
    · exact effects.faultClash
    · exact effects
  · exact h

theorem StoresBounded.takeStuckLine (h : StoresBounded s) : StoresBounded s.takeStuckLine := by
  have disarmed : StoresBounded s.disarmed := h.noGrowth (setLine_noGrowth s _)
  have uncounted : StoresBounded (s.disarmed.setStn { s.disarmed.stn with joinCount := 0 }) :=
    disarmed.noGrowth (setStn_noGrowth _ _ (joins := Nat.zero_le _))
  have report : StoresBounded s.disarmed.stuckReport := by
    unfold State.stuckReport
    split
    · exact (disarmed.incident _ _ _ _).setEvent _
    · exact uncounted.setEvent _
    · exact uncounted.setEvent _
    · exact disarmed.setEvent _
    · exact disarmed.setEvent _
    · exact disarmed.setEvent _
    · exact disarmed
  unfold State.takeStuckLine
  split
  · exact report.noGrowth (((setLine_noGrowth _ _).trans (setRoll_noGrowth _ _)).trans (setRoll_noGrowth _ _))
  · exact h

/-- The silence timer stands at 512 bit times (R141). -/
theorem StoresBounded.setSilence (h : StoresBounded s) {n : Nat} (few : n ≤ 512) :
    StoresBounded (s.setStn { s.stn with silence := n }) := by
  obtain ⟨-, -, -, -, slot, -, -, joins, joining, -⟩ := id h
  exact h.setStn _ slot joins joining few

theorem StoresBounded.takeSilenceExpiry (h : StoresBounded s) : StoresBounded s.takeSilenceExpiry := by
  unfold State.takeSilenceExpiry
  split
  · exact (h.setSilence (Nat.le_refl 512)).noGrowth (setRoll_noGrowth _ _)
  · exact h

theorem StoresBounded.takeBusLossExpiry (h : StoresBounded s) : StoresBounded s.takeBusLossExpiry := by
  unfold State.takeBusLossExpiry
  split
  · exact (h.incident _ _ _ _).setEvent _
  · exact h

/-! ### The rows of the timers, of KILLN and of reset -/

/-- An offered request fills the slot in ACTIVE alone (R77, R107). -/
theorem StoresBounded.takeWaitExpiry (h : StoresBounded s) (c : Chan) : StoresBounded (s.takeWaitExpiry c) := by
  unfold State.takeWaitExpiry
  split
  · rename_i e n waiting
    split
    · rename_i due
      obtain ⟨active, -⟩ := due
      let u := s.setChState c (.waiting e (some 0))
      change StoresBounded (u.offer c)
      have zero : StoresBounded u := h.noGrowth (setChState_noGrowth s c _)
      unfold State.offer
      split
      · have freed := zero.noGrowth (freeRequester_noGrowth u)
        obtain ⟨tx, ring, -⟩ := id freed
        refine freed.setNotice _ tx ring fun away => absurd ?_ away
        rw [(freeRequester_noGrowth u).state]
        exact (isActive_iff s).1 active
      · exact zero.noGrowth (restartWait_noGrowth u c)
    · exact h
  · exact h

theorem takeMinOnExpiry_noGrowth (s : State) (c : Chan) : NoGrowth s (s.takeMinOnExpiry c) := by
  unfold State.takeMinOnExpiry
  split
  · dsimp only
    split
    · exact (setChState_noGrowth s c _).trans (stopChan_noGrowth _ c)
    · exact setChState_noGrowth s c _
  · exact .refl s

theorem takeMinOffExpiry_noGrowth (s : State) (c : Chan) : NoGrowth s (s.takeMinOffExpiry c) := by
  unfold State.takeMinOffExpiry
  split
  · dsimp only
    split
    · exact (setChan_noGrowth s c _).trans (enterWaiting_noGrowth _ c false)
    · exact setChan_noGrowth s c _
  · exact .refl s

theorem takeFenceExpiry_noGrowth (s : State) (sender : BitVec 6) : NoGrowth s (s.takeFenceExpiry sender) :=
  ⟨Nat.le_refl _, Nat.le_refl _, List.filter_sublist.map _, id, Nat.le_refl _, Nat.le_refl _, rfl, Nat.le_refl _,
    Nat.le_refl _⟩

theorem takeStaggerReached_noGrowth (s : State) : NoGrowth s s.takeStaggerReached := by
  unfold State.takeStaggerReached
  split
  · exact .refl s
  · exact (setSeq_noGrowth s _).trans (checkHead_noGrowth _)

theorem takeLevelChange_noGrowth (s : State) (pins : BitVec 8) : NoGrowth s (s.takeLevelChange pins) := by
  unfold State.takeLevelChange
  split
  · exact foldl_noGrowth (fun u c => writeInputs_noGrowth u c _) _ s
  · exact .refl s

theorem StoresBounded.takeKillnLow (h : StoresBounded s) : StoresBounded s.takeKillnLow := by
  let u := (s.setStn { s.stn with killnLow := true }).holdClear
  have low : StoresBounded u := by
    have clear (v : State) : NoGrowth v v.holdClear := by
      rw [holdClear_seq_only]
      exact setSeq_noGrowth v _
    exact h.noGrowth ((setStn_noGrowth s _).trans (clear _))
  have halted : StoresBounded ((u.writeIncident .kill none).depart .kill .halted) := low.incident _ _ _ _
  unfold State.takeKillnLow
  dsimp only
  split
  · exact halted
  · exact halted
  · exact halted
  · exact halted
  all_goals exact low

theorem StoresBounded.takeKillnHigh (h : StoresBounded s) : StoresBounded s.takeKillnHigh := by
  let u := s.setStn { s.stn with killnLow := false }
  have high : StoresBounded u := h.noGrowth (setStn_noGrowth s _)
  unfold State.takeKillnHigh
  dsimp only
  split
  · rename_i halted
    exact high.enterState (high.empty_slot (by rw [halted]; decide)) .joining
  · exact high

/-- Every store is empty and every count 0 after a reset. -/
theorem StoresBounded.of_reset (notice : s.notice = NoticeUnit.reset) (chans : s.chans = Channels.reset)
    (cont : s.cont = Contention.reset) (joins : s.stn.joinCount = 0) (silence : s.stn.silence = 0) : StoresBounded s := by
  unfold StoresBounded
  rw [notice, chans, cont, joins, silence]
  exact ⟨Nat.zero_le _, Nat.zero_le _, Nat.zero_le _, .nil, fun _ => rfl, Nat.zero_le _, Nat.zero_le _, Nat.zero_le _,
    fun _ => Nat.zero_le _, Nat.zero_le _⟩

/-! ### The local port -/

theorem finishWrite_noGrowth (s : State) (r : Reply) : NoGrowth s (s.finishWrite r) := by
  rw [finishWrite_eq]
  exact setPort_noGrowth s _

/-- A write command keeps the bounds where the effect of an accepted one does. -/
theorem StoresBounded.writeCommand (h : StoresBounded s) (x : Operands) (n : Nat) (v : Reply) (e : State → State)
    (effect : v = .accepted → StoresBounded (e s)) : StoresBounded (s.writeCommand x n v e) := by
  unfold State.writeCommand
  split
  · split
    · exact (effect ‹_›).noGrowth (finishWrite_noGrowth _ _)
    · exact h.noGrowth (finishWrite_noGrowth s _)
  · exact h.noGrowth (finishWrite_noGrowth s _)

theorem readCommand_noGrowth (s : State) (x : Operands) (n : Nat) (v : Reply) (data : List Byte) {e : State → State}
    (effect : NoGrowth s (e s)) : NoGrowth s (s.readCommand x n v data e) := by
  have error : NoGrowth s (s.errorFor v) := by
    unfold State.errorFor
    split
    · exact setEvent_noGrowth s _
    · exact .refl s
  unfold State.readCommand
  split
  · split
    · exact effect.trans (setPort_noGrowth _ _)
    · exact error.trans (setPort_noGrowth _ _)
  · exact finishWrite_noGrowth s _

/-- SEND finds room in the transmit queue (R123). -/
theorem StoresBounded.takeSend (h : StoresBounded s) (x : Operands) : StoresBounded (s.takeSend x) := by
  refine h.writeCommand x _ _ _ fun accepted => ?_
  have room : s.notice.tx.length < 4 := by
    by_contra full
    have full : Config.txPlaces ≤ s.notice.tx.length := Nat.not_lt.1 full
    simp [State.sendVerdict, full] at accepted
    split at accepted
    · cases accepted
    · split at accepted <;> cases accepted
  obtain ⟨-, ring, -, -, slot, -⟩ := id h
  refine StoresBounded.settle (s := s.appendTx _ _) (h.setNotice _ ?_ ring slot)
  rw [List.length_append, List.length_singleton]
  exact room

/-- YIELD fills the slot in ACTIVE alone (R110). -/
theorem StoresBounded.takeYield (h : StoresBounded s) (x : Operands) : StoresBounded (s.takeYield x) := by
  refine h.writeCommand x _ _ _ fun accepted => ?_
  have active : s.stn.state = .active := by
    by_contra away
    simp [State.yieldVerdict, State.isActive, away] at accepted
  obtain ⟨tx, ring, -⟩ := id h
  exact StoresBounded.settle (s := s.setSlot _) (h.setNotice _ tx ring fun away => absurd active away)

theorem StoresBounded.lockBlocks (s : State) : StoresBounded s.lockBlocks :=
  ⟨Nat.zero_le _, Nat.zero_le _, Nat.zero_le _, .nil, fun _ => rfl, Nat.zero_le _, Nat.zero_le _, Nat.zero_le _,
    fun _ => Nat.zero_le _, Nat.zero_le _⟩

theorem StoresBounded.softReset (h : StoresBounded s) : StoresBounded s.softReset := by
  have left := h.depart .reset s.joinOrHalt
  refine (StoresBounded.noGrowth left ?_).settle
  exact ((((setNotice_noGrowth _ _ (tx := Nat.zero_le _)).trans (setStn_noGrowth _ _ (joins := Nat.zero_le _))).trans
    (setCont_noGrowth _ _ (Nat.zero_le _) (Nat.zero_le _))).trans (setSeq_noGrowth _ _)).trans (setPort_noGrowth _ _)

/-- LEAVE and QUIET depart, or they leave a state other than ACTIVE, whose slot is empty (R144, R148). -/
theorem StoresBounded.request (h : StoresBounded s) (q : Request) : StoresBounded (s.request q) := by
  unfold State.request
  split
  · exact h.noGrowth (setStn_noGrowth s _)
  · exact h.actRequest q

theorem StoresBounded.leaveEffect (h : StoresBounded s) : StoresBounded s.leaveEffect := by
  unfold State.leaveEffect
  split
  · exact h.request .leave
  · exact h.depart .leave .left

theorem StoresBounded.quietEffect (h : StoresBounded s) : StoresBounded s.quietEffect := by
  unfold State.quietEffect
  split
  · exact h.request .quiet
  · rename_i away
    exact h.enterState (h.empty_slot fun active => away ((isActive_iff s).2 active)) .quiet

/-- JOIN is taken outside ACTIVE (R148). -/
theorem StoresBounded.takeJoin (h : StoresBounded s) (x : Operands) : StoresBounded (s.takeJoin x) := by
  refine h.writeCommand x _ _ _ fun accepted => ?_
  refine (h.enterState (h.empty_slot fun active => ?_) .joining).settle
  simp [State.joinVerdict, active] at accepted

/-- CLEAR_FAULT is taken outside ACTIVE (R148). -/
theorem StoresBounded.takeClearFault (h : StoresBounded s) (x : Operands) : StoresBounded (s.takeClearFault x) := by
  refine h.writeCommand x _ _ _ fun accepted => ?_
  refine (h.enterState (h.empty_slot fun active => ?_) _).settle
  simp [State.clearFaultVerdict, active] at accepted

theorem storeItem_noGrowth (s : State) (i b : Byte) : NoGrowth s (s.storeItem i b) := by
  unfold State.storeItem
  split
  · exact setPort_noGrowth s _
  · exact .refl s

theorem writeSoft_noGrowth (b : Bool) (s : State) (c : Chan) : NoGrowth s (State.writeSoft b s c) :=
  writeInputs_noGrowth s c _

/-- A command that takes the channels of its mask one after the other, each without growth. -/
theorem StoresBounded.maskCommand (h : StoresBounded s) (x : Operands) {f : State → Chan → State}
    (each : ∀ u c, NoGrowth u (f u c)) :
    StoresBounded (s.writeCommand x 1 s.afterLock fun u => ((chansIn (x.byte 0)).foldl f u).settle) :=
  h.writeCommand x 1 _ (fun u => ((chansIn (x.byte 0)).foldl f u).settle) fun _ =>
    (h.noGrowth (foldl_noGrowth each _ s)).settle

/-- Each command of the local port keeps the bounds. -/
theorem StoresBounded.runCommand (h : StoresBounded s) (k : Command) (x : Operands) : StoresBounded (s.runCommand k x) := by
  have reads (n : Nat) (v : Reply) (data : List Byte) : StoresBounded (s.readCommand x n v data id) :=
    h.noGrowth (readCommand_noGrowth s x n v data (.refl s))
  cases k with
  | cfgWrite => exact h.writeCommand x 2 _ _ fun _ => h.noGrowth (storeItem_noGrowth s _ _)
  | lock => exact h.writeCommand x 0 _ _ fun _ => .lockBlocks s
  | demandSet => exact h.maskCommand x (writeSoft_noGrowth true)
  | demandClear => exact h.maskCommand x (writeSoft_noGrowth false)
  | park => exact h.maskCommand x parkChan_noGrowth
  | unpark => exact h.maskCommand x unparkChan_noGrowth
  | send => exact h.takeSend x
  | yield => exact h.takeYield x
  | clearEvents => exact h.writeCommand x 2 _ _ fun _ => h.noGrowth (setPort_noGrowth s _)
  | setEnables => exact h.writeCommand x 2 _ _ fun _ => h.noGrowth (setPort_noGrowth s _)
  | join => exact h.takeJoin x
  | leave => exact h.writeCommand x 0 _ (fun u => u.leaveEffect.settle) fun _ => h.leaveEffect.settle
  | quiet => exact h.writeCommand x 0 _ (fun u => u.quietEffect.settle) fun _ => h.quietEffect.settle
  | clearFault => exact h.takeClearFault x
  | softReset => exact h.writeCommand x 0 _ _ fun _ => h.softReset
  | pop =>
    change StoresBounded (s.takePop x)
    refine h.noGrowth (readCommand_noGrowth s x 0 s.popVerdict s.popData ?_)
    exact setNotice_noGrowth s _ (ring := by exact List.length_tail.trans_le (Nat.sub_le _ _))
  | readIncident =>
    change StoresBounded (s.takeReadIncident x)
    refine h.noGrowth (readCommand_noGrowth s x 0 .accepted (incidentBytes s.stn.incident) ?_)
    exact setStn_noGrowth s _
  | cfgRead =>
    change StoresBounded (s.takeCfgRead x)
    unfold State.takeCfgRead
    split <;> exact reads _ _ _
  | readUnit =>
    change StoresBounded (s.takeReadUnit x)
    unfold State.takeReadUnit
    split <;> exact reads _ _ _
  | readChannel =>
    change StoresBounded (s.takeReadChannel x)
    unfold State.takeReadChannel
    split <;> exact reads _ _ _
  | readQueue => exact reads _ _ _
  | readStation => exact reads _ _ _
  | readEvents => exact reads _ _ _

theorem StoresBounded.takeUnknown (h : StoresBounded s) (code : Byte) : StoresBounded (s.takeUnknown code) := by
  unfold State.takeUnknown
  split
  · exact h.noGrowth (finishWrite_noGrowth s _)
  · exact h

theorem StoresBounded.takeCsnRise (h : StoresBounded s) : StoresBounded s.takeCsnRise := by
  have closed : StoresBounded s.closeTransaction := by
    unfold State.closeTransaction
    split
    · exact h.takeUnknown _
    · split
      · exact h.noGrowth (finishWrite_noGrowth s _)
      · exact h.runCommand _ _
  unfold State.takeCsnRise
  split
  · exact closed.noGrowth (setPort_noGrowth _ _)
  · exact closed.noGrowth (setPort_noGrowth _ _)
  all_goals exact h.noGrowth (setPort_noGrowth s _)

/-- Every row keeps the bounds. -/
theorem StoresBounded.fire (h : StoresBounded s) (i : Instr) : StoresBounded (s.fire i) := by
  cases i with
  | por => exact .of_reset rfl rfl rfl rfl rfl
  | reset => exact .of_reset rfl rfl rfl rfl rfl
  | killnLow => exact h.takeKillnLow.settle
  | killnHigh => exact h.takeKillnHigh.settle
  | filteredLevelChange pins => exact (h.noGrowth (takeLevelChange_noGrowth s pins)).settle
  | settlingEnd => exact h.noGrowth (takeSettlingEnd_noGrowth s)
  | openRoll => exact h.noGrowth (takeOpenRoll_noGrowth s)
  | rollStart => exact (h.noGrowth (takeRollStart_noGrowth s)).settle
  | malformedOpen => exact h.noGrowth (takeMalformedOpen_noGrowth s)
  | holdComplete units => exact (h.noGrowth (takeHoldComplete_noGrowth s units)).settle
  | arbitrationLost bit => exact h.noGrowth (takeArbitrationLost_noGrowth s bit)
  | claimResolved word => exact (h.takeClaimResolved word).settle
  | takeComplete units => exact (h.noGrowth (takeTakeComplete_noGrowth s units)).settle
  | flagReading level => exact h.noGrowth (takeFlagReading_noGrowth s level)
  | noticeCharacter index data framing marker =>
    exact h.noGrowth (takeNoticeCharacter_noGrowth s index data framing marker)
  | noticeEnd form => exact (h.takeNoticeEnd form).settle
  | rollEnd cause order => exact (h.takeRollEnd cause order).settle
  | driveReport phase position => exact (h.takeDriveReport phase position).settle
  | conflict phase => exact (h.takeConflict phase).settle
  | stuckLine => exact h.takeStuckLine.settle
  | silenceTimerExpiry => exact h.takeSilenceExpiry
  | busLossExpiry => exact h.takeBusLossExpiry.settle
  | lingerExpiry unit => exact (h.noGrowth (setTable_noGrowth s _)).settle
  | waitTimerExpiry c => exact (h.takeWaitExpiry c).settle
  | minOnExpiry c => exact (h.noGrowth (takeMinOnExpiry_noGrowth s c)).settle
  | minOffExpiry c => exact (h.noGrowth (takeMinOffExpiry_noGrowth s c)).settle
  | fenceExpiry sender => exact h.noGrowth (takeFenceExpiry_noGrowth s sender)
  | yieldHoldoffExpiry => exact h.noGrowth (setNotice_noGrowth s _)
  | staggerReached => exact (h.noGrowth (takeStaggerReached_noGrowth s)).settle
  | statusCapture => exact h.noGrowth (setPort_noGrowth s _)
  | unknownCommand code => exact h.takeUnknown code
  | candidateOpen => exact h.noGrowth (takeCandidateOpen_noGrowth s)
  | openNoise run => exact h.noGrowth (takeOpenNoise_noGrowth s run)
  | csnRise => exact h.takeCsnRise
  | cfgWrite x => exact h.runCommand .cfgWrite x
  | cfgRead x => exact h.runCommand .cfgRead x
  | lock x => exact h.runCommand .lock x
  | demandSet x => exact h.runCommand .demandSet x
  | demandClear x => exact h.runCommand .demandClear x
  | park x => exact h.runCommand .park x
  | unpark x => exact h.runCommand .unpark x
  | send x => exact h.runCommand .send x
  | yield x => exact h.runCommand .yield x
  | pop x => exact h.runCommand .pop x
  | readUnit x => exact h.runCommand .readUnit x
  | readChannel x => exact h.runCommand .readChannel x
  | readQueue x => exact h.runCommand .readQueue x
  | readStation x => exact h.runCommand .readStation x
  | readIncident x => exact h.runCommand .readIncident x
  | readEvents x => exact h.runCommand .readEvents x
  | clearEvents x => exact h.runCommand .clearEvents x
  | setEnables x => exact h.runCommand .setEnables x
  | join x => exact h.runCommand .join x
  | leave x => exact h.runCommand .leave x
  | quiet x => exact h.runCommand .quiet x
  | clearFault x => exact h.runCommand .clearFault x
  | softReset x => exact h.runCommand .softReset x

end

end Sys2Proof.Machine

namespace Sys2Proof.Machine

/-! ### The bounds through one CLK period

TickKeeps is no help here: its writes between rows leave the silence timer open, and R141 bounds it. The bit's end is taken
from what TrackerBit says it is made of. -/

section
variable {s t : State}

/-- A row given by its answer. -/
theorem StoresBounded.exec (h : StoresBounded s) {i : Instr} (taken : exec i s = .next t) : StoresBounded t := by
  rw [exec_eq_fire] at taken
  cases taken
  exact h.fire i

/-- The Roll Tracker goes on without a row. -/
theorem StoresBounded.rollSet (h : StoresBounded s) (x : RollTracker) : StoresBounded { s with roll := x } :=
  h.noGrowth (setRoll_noGrowth s x)

theorem StoresBounded.freeSet (h : StoresBounded s) (n : Nat) : StoresBounded { s with free := n } :=
  h.noGrowth (setFree_noGrowth s n)

theorem StoresBounded.rollEnds (h : StoresBounded s) {cause : RollEndCause} (ends : RollEnds s cause t) :
    StoresBounded t := by
  obtain ⟨alone, pending⟩ := ends
  by_cases none : s.stn.request = .none
  · exact h.exec (alone none)
  · obtain ⟨order, taken⟩ := pending none
    exact (h.freeSet _).exec taken

/-! #### The bit's end (R4 to R14) -/

theorem StoresBounded.phaseBit (h : StoresBounded s) {last : Nat} {i : Instr} (bit : PhaseBit s last i t) :
    StoresBounded t := by
  unfold PhaseBit at bit
  split at bit
  · exact h.exec bit
  · exact bit ▸ h.rollSet _

/-- A row while the roll is parsed, or the Roll Tracker alone (R19). -/
theorem StoresBounded.parsed (h : StoresBounded s) {i : Instr} {x : RollTracker}
    (step : if s.roll.parsing = true then Machine.exec i s = .next t else t = { s with roll := x }) : StoresBounded t := by
  split at step
  · exact h.exec step
  · exact step ▸ h.rollSet x

theorem StoresBounded.characterEnds (h : StoresBounded s) {i : Nat} {bits : List Level} (ends : CharacterEnds s i bits t) :
    StoresBounded t := by
  obtain ⟨b, f, -, tracked, more, last⟩ := ends
  have kept : StoresBounded f := h.parsed tracked
  by_cases check : ∃ l, f.roll.header = some (.good l) ∧ i = l + 1
  · obtain ⟨l, header, place⟩ := check
    obtain ⟨unparsed, parsed⟩ := last l header place
    cases parsing : f.roll.parsing with
    | false => exact kept.rollEnds (unparsed parsing)
    | true =>
      obtain ⟨g, notice, roll⟩ | ⟨g, roll, notice⟩ := parsed parsing
      · exact ((kept.freeSet _).exec notice).rollEnds roll
      · exact ((kept.freeSet _).rollEnds roll).exec notice
  · rw [more fun l header place => check ⟨l, header, place⟩]
    exact kept

theorem StoresBounded.noticeBit (h : StoresBounded s) {n : Nat} {v : Level} (bit : NoticeBit s n v t) : StoresBounded t := by
  obtain ⟨start, stop, inside, ends⟩ := bit
  by_cases first : n % 11 = 0
  · cases v with
    | dominant => exact start first rfl ▸ h.rollSet _
    | recessive =>
      obtain ⟨f, ended, trailing⟩ := stop first rfl
      have kept : StoresBounded f := h.parsed (x := s.roll) ended
      exact trailing ▸ kept.rollSet _
  · by_cases last : n % 11 = 10
    · exact h.characterEnds (ends last)
    · exact inside (by omega) (by omega) ▸ h.rollSet _

theorem StoresBounded.rollBit (h : StoresBounded s) {v : Level} (bit : RollBit s v t) : StoresBounded t := by
  obtain ⟨hold, claim, take, flag, notice⟩ := bit
  by_cases inHold : s.roll.position + 1 ≤ s.numUnits
  · exact (h.rollSet _).phaseBit (hold inHold)
  by_cases inClaim : s.roll.position + 1 ≤ s.numUnits + 10
  · exact (h.rollSet _).phaseBit (claim (by omega) inClaim)
  by_cases inTake : s.roll.position + 1 ≤ 2 * s.numUnits + 10
  · exact (h.rollSet _).phaseBit (take (by omega) inTake)
  by_cases atFlag : s.roll.position + 1 = 2 * s.numUnits + 11
  · obtain ⟨f, read, go, ends⟩ := flag atFlag
    have kept : StoresBounded f := h.parsed read
    cases v with
    | dominant => exact go rfl ▸ kept
    | recessive => exact kept.rollEnds (ends rfl)
  · exact h.noticeBit (notice (by omega))

theorem StoresBounded.trackerBit (h : StoresBounded s) (run : Nat) (v : Level) : StoresBounded (s.trackerBit run v) := by
  have bit := trackerBit_steps s run v
  generalize s.trackerBit run v = t at bit
  unfold TrackerBit at bit
  split at bit
  · exact bit ▸ h
  · exact bit ▸ h.rollSet _
  · dsimp only at bit
    split at bit
    · exact bit ▸ h.rollSet _
    · exact (h.rollSet _).exec bit
  · exact bit ▸ h.rollSet _
  · exact bit ▸ h.rollSet _
  · dsimp only at bit
    split at bit
    · exact bit ▸ h.rollSet _
    · exact (h.rollSet _).exec bit
  · exact h.exec bit
  · exact h.rollBit bit
  · exact bit ▸ h.rollSet _
  · dsimp only at bit
    split at bit
    · exact bit ▸ h.rollSet _
    · exact (h.rollSet _).rollEnds bit

/-- The silence timer counts to 512 bit times and no further (R141). -/
theorem StoresBounded.silenceReads (h : StoresBounded s) (v : Level) : StoresBounded (s.silenceReads v) := by
  cases v with
  | dominant => exact h.setSilence (Nat.zero_le _)
  | recessive =>
    unfold State.silenceReads
    dsimp only
    split
    · exact h.fire _
    · exact h.setSilence (Nat.min_le_left _ _)

theorem StoresBounded.closeBit (h : StoresBounded s) (v : Level) : StoresBounded (s.closeBit v) := by
  have counted : StoresBounded ((s.countRun v).silenceReads v) := (h.noGrowth (setLine_noGrowth s _)).silenceReads v
  obtain ⟨w, opened, next⟩ := boundary_next (((s.countRun v).silenceReads v).trackerBit s.line.domRun v)
  have kept : StoresBounded w := ((counted.trackerBit _ v).rollSet _).exec opened
  unfold State.closeBit
  rw [next]
  exact kept.noGrowth (setLine_noGrowth w _)

/-! #### A bit's value (R2, R17, R18) -/

theorem StoresBounded.fireRollEnd (h : StoresBounded s) (cause : RollEndCause) : StoresBounded (s.fireRollEnd cause) :=
  h.rollEnds (fireRollEnd_ends s cause)

theorem StoresBounded.stuckBit (h : StoresBounded s) : StoresBounded s.stuckBit := by
  have notice {u : State} (k : StoresBounded u) : StoresBounded u.stuckNotice := by
    unfold State.stuckNotice
    split
    · exact k.fire _
    · exact k
  unfold State.stuckBit
  split
  · refine inFreeOrder_keeps (fun _ n k => k.freeSet n) _ _ (fun g mem u k => ?_) s h
    simp only [List.mem_cons, List.not_mem_nil, or_false] at mem
    obtain rfl | rfl | rfl := mem
    · exact k.fire _
    · exact notice k
    · exact k.fireRollEnd _
  · exact h.fire _

theorem StoresBounded.readLine (h : StoresBounded s) (v : Level) : StoresBounded (s.readLine v) := by
  have valued : StoresBounded (s.setLine { s.line with value := v }) := h.noGrowth (setLine_noGrowth s _)
  have compared : StoresBounded ((s.setLine { s.line with value := v }).readback v) := by
    unfold State.readback
    split
    · exact valued
    · split
      · exact valued.fire _
      · exact valued
  unfold State.readLine
  dsimp only
  split
  · exact compared.stuckBit
  · exact compared

theorem StoresBounded.takeLine (h : StoresBounded s) (e : LineEvent) : StoresBounded (s.takeLine e) := by
  cases e with
  | quiet => exact h
  | restart => exact h.fire .candidateOpen
  | read v => exact h.readLine v
  | close v unread edge =>
    have closed : StoresBounded ((if unread then s.readLine v else s).closeBit v) := by
      split
      · exact (h.readLine v).closeBit v
      · exact h.closeBit v
    unfold State.takeLine
    dsimp only
    split
    · exact closed.fire _
    · exact closed

/-! #### The port's pins and the time base -/

/-- A bit of a transaction writes the receiver, and may take one row. -/
def PortStep (s t : State) : Prop :=
  t = s ∨ ∃ x : SpiRx, t = s.setPort { s.port with rx := x } ∨
    ∃ i : Instr, t = (s.setPort { s.port with rx := x }).fire i

theorem byteIn_step (s : State) (b : Byte) : PortStep s (s.byteIn b) := by
  unfold State.byteIn State.commandByte State.operandByte
  split
  · exact .inl rfl
  · dsimp only
    split
    · exact .inr ⟨_, .inl rfl⟩
    · split
      · split
        · exact .inr ⟨_, .inr ⟨_, rfl⟩⟩
        · exact .inr ⟨_, .inl rfl⟩
      · exact .inr ⟨_, .inl rfl⟩
  · dsimp only
    split
    · exact .inr ⟨_, .inl rfl⟩
    · split
      · split
        · exact .inr ⟨_, .inr ⟨_, rfl⟩⟩
        · exact .inr ⟨_, .inl rfl⟩
      · exact .inr ⟨_, .inl rfl⟩
  · exact .inr ⟨_, .inl rfl⟩
  · exact .inr ⟨_, .inl rfl⟩

theorem StoresBounded.byteIn (h : StoresBounded s) (b : Byte) : StoresBounded (s.byteIn b) := by
  obtain e | ⟨x, e | ⟨i, e⟩⟩ := byteIn_step s b
  · rw [e]
    exact h
  · rw [e]
    exact h.noGrowth (setPort_noGrowth s _)
  · rw [e]
    exact (h.noGrowth (setPort_noGrowth s _)).fire i

theorem StoresBounded.takePort (h : StoresBounded s) (e : PortEvent) : StoresBounded (s.takePort e) := by
  cases e with
  | none => exact h
  | select => exact h.fire .statusCapture
  | deselect => exact h.fire .csnRise
  | rise =>
    have shifted (x : LocalPort) : StoresBounded (s.setPort x) := h.noGrowth (setPort_noGrowth s x)
    change StoresBounded s.sckRise
    unfold State.sckRise
    dsimp only
    split
    · exact (shifted _).byteIn _
    · exact shifted _
  | fall => exact h.noGrowth (setPort_noGrowth s _)

theorem StoresBounded.takeRow (h : StoresBounded s) (i : Instr) : StoresBounded (s.takeRow i) := by
  by_cases reached : i = .staggerReached
  · subst reached
    have counted : StoresBounded (s.setSeq { s.seq with elapsed := s.seq.elapsed + 1 }) :=
      h.noGrowth (setSeq_noGrowth s _)
    change StoresBounded s.reachStagger
    unfold State.reachStagger
    dsimp only
    split
    · split
      · exact counted.fire _
      · exact counted
    · exact h
  · rw [takeRow_of_ne reached]
    split
    · exact h.fire i
    · exact h

theorem StoresBounded.takeEvents (h : StoresBounded s) (l : List TickEvent) : StoresBounded (s.takeEvents l) := by
  refine takeEvents_keeps (fun _ n k => k.freeSet n) l (fun e _ u k => ?_) s h
  cases e with
  | row i => exact k.takeRow i
  | line x => exact k.takeLine x
  | port x => exact k.takePort x

/-- One count of the timers shortens fences and lengthens no list (R87). -/
theorem StoresBounded.advanceTimers (h : StoresBounded s) : StoresBounded s.advanceTimers := by
  refine h.noGrowth ⟨Nat.le_refl _, Nat.le_refl _, ?_, id, Nat.le_refl _, Nat.le_refl _, rfl, Nat.le_refl _, Nat.le_refl _⟩
  change ((s.chans.fences.map fun f => { f with left := f.left - 1 }).map Fence.sender).Sublist _
  rw [List.map_map]
  exact .refl _

theorem sampleFilters_noGrowth (s : State) : NoGrowth s s.sampleFilters := setChans_noGrowth s _

theorem StoresBounded.timeBase (h : StoresBounded s) : StoresBounded s.timeBase.2 := by
  have clocked {u : State} (k : StoresBounded u) (x : Clock) : StoresBounded (u.setClock x) := k
  unfold State.timeBase
  split
  · unfold State.microsecond
    split
    · have counted := (clocked h { s.clock with sub := 0 }).advanceTimers
      unfold State.lockedMicrosecond
      dsimp only
      refine clocked ?_ _
      split
      · exact counted.noGrowth (sampleFilters_noGrowth _)
      · exact counted
    · exact clocked h _
  · exact clocked h _

theorem StoresBounded.drawPins (h : StoresBounded s) : StoresBounded s.drawPins := by
  unfold State.drawPins
  split
  · exact h
  · exact h

theorem StoresBounded.advanceBit (h : StoresBounded s) (e : LineEvent) : StoresBounded (s.advanceBit e) := by
  unfold State.advanceBit
  dsimp only
  split
  · split
    · exact h
    · exact h.noGrowth (setLine_noGrowth s _)
  · split
    · exact h
    · exact h.noGrowth (setLine_noGrowth s _)
  · exact h.noGrowth (setLine_noGrowth s _)
  · exact h.noGrowth (setLine_noGrowth s _)

/-- A whole CLK period keeps the bounds. -/
theorem StoresBounded.tick (h : StoresBounded s) : StoresBounded s.tick := by
  unfold State.tick
  dsimp only
  split
  · exact (h.drawPins.advanceBit _).timeBase.takeEvents _
  · exact h.drawPins.fire _

end

/-- Settles O57: a command keeps the bounds as its row does, an empty queue as a CLK period does. -/
theorem storesStayBounded : Obligations.StoresStayBounded := by
  unfold Obligations.StoresStayBounded
  intro s t h taken
  cases queue : s.pending with
  | nil =>
    rw [step_empty queue] at taken
    cases taken
    exact h.tick
  | cons c rest =>
    have popped : StoresBounded (s.setPending rest) := h
    unfold step at taken
    rw [queue] at taken
    exact popped.exec taken

end Sys2Proof.Machine

namespace Sys2Proof.Machine

/-! ### What a departure leaves of the elapsed timer and of a send record driven whole (R95, R112, R129) -/

section
variable (s : State) (cause : ShedCause) (x : StationState)

/-- A shed of a station that is leaving turns nothing on, so the elapsed timer stays (R95). -/
theorem shedChan_leaving_elapsed (c : Chan) (park : cause ≠ .park) :
    (s.shedChan cause true c).seq.elapsed = s.seq.elapsed := by
  have next (u : State) : (u.shedNext c true).seq = u.seq := by
    obtain e | e := shedNext_leaving_cases u c
    all_goals rw [e]
    rfl
  have starting : (s.shedStarting cause c).seq.elapsed = s.seq.elapsed := by
    unfold State.shedStarting
    rw [removeStart_leaving]
    rfl
  obtain ⟨-, e | e⟩ | ⟨-, e⟩ | ⟨-, e⟩ := shedChan_leaving_cases s c cause park
  all_goals rw [e]
  · rfl
  · rw [next]
    rfl
  · rw [next, starting]

theorem stationShed_elapsed (park : cause ≠ .park) : (s.stationShed cause).seq.elapsed = s.seq.elapsed := by
  have shed (l : List Chan) (u : State) :
      (l.foldl (fun u c => u.shedChan cause true c) u).seq.elapsed = u.seq.elapsed := by
    induction l generalizing u with
    | nil => rfl
    | cons c l ih => exact (ih _).trans (shedChan_leaving_elapsed u cause c park)
  obtain e | e := stationShed_cases s cause
  all_goals rw [e]
  · exact shed allChans s
  · rw [setEvent_seq]
    exact shed allChans s

theorem departing_elapsed (park : cause ≠ .park) : (s.departing cause).seq.elapsed = s.seq.elapsed := by
  have notice (u : State) : u.departNotice.seq = u.seq := by
    unfold State.departNotice State.emptySlot
    dsimp only
    rw [freeRequester_chans_only, abandonSend_notice_only]
    rfl
  change (State.departNotice _).seq.elapsed = _
  rw [notice, abandonClaim_cont_only]
  exact stationShed_elapsed s cause park

/-- Entering a state touches no output and no sample of KILLN. -/
theorem enterState_seq : (s.enterState x).seq = s.seq := by cases x <;> rfl

theorem enterState_killnLow : (s.enterState x).stn.killnLow = s.stn.killnLow := by cases x <;> rfl

theorem depart_elapsed (park : cause ≠ .park) : (s.depart cause x).seq.elapsed = s.seq.elapsed := by
  rw [depart_eq, enterState_seq, departing_elapsed s cause park]

/-- A departure takes from the Notice Unit the slot, presence and a send record that is not whole (R105, R124, R129). -/
theorem depart_notice (park : cause ≠ .park) :
    (s.depart cause x).notice = { s.abandonSend.notice with slot := none, presence := false } := by
  have before : (s.stationShed cause).dropPicture.abandonClaim.notice = s.notice := by
    rw [abandonClaim_cont_only]
    exact (stationShed_frame s cause park).notice
  have abandoned {u v : State} (e : u.notice = v.notice) : u.abandonSend.notice = v.abandonSend.notice := by
    unfold State.abandonSend
    rw [e]
    split
    · split
      · exact e
      · rfl
    · exact e
  rw [(depart_frame s cause x).notice, departing_notice, abandoned before]

/-- The transmit queue stays at a departure (R124). -/
theorem abandonSend_tx : s.abandonSend.notice.tx = s.notice.tx := by
  unfold State.abandonSend
  split
  · split <;> rfl
  · rfl

theorem abandonSend_recv : s.abandonSend.notice.recv = s.notice.recv := by
  unfold State.abandonSend
  split
  · split <;> rfl
  · rfl

theorem abandonSend_whole {r : SendRecord} (sent : s.notice.send = some r) (whole : r.driven = r.payload.length + 2) :
    s.abandonSend = s := by
  unfold State.abandonSend
  rw [sent]
  exact if_pos (decide_eq_true whole)

/-- A send record driven whole is left for its roll end (R112, R129). -/
theorem depart_keeps_whole {r : SendRecord} (park : cause ≠ .park) (sent : s.notice.send = some r)
    (whole : r.driven = r.payload.length + 2) : (s.depart cause x).notice.send = some r := by
  rw [depart_notice s cause x park, abandonSend_whole s sent whole]
  exact sent

/-- A departure leaves KILLN's sample (R143). -/
theorem depart_killnLow : (s.depart cause x).stn.killnLow = s.stn.killnLow := by
  rw [depart_eq, enterState_killnLow, departing_stn]

end

/-! ### KILLN's edges by station state (R99, R100, R149, R150) -/

section
variable (s : State)

/-- KILLN reads low: the sample is taken and the outputs are held clear, before the station does anything (R99, R100). -/
def State.killnSampled (s : State) : State := (s.setStn { s.stn with killnLow := true }).holdClear

theorem killnSampled_eq : s.killnSampled = (s.setStn { s.stn with killnLow := true }).setSeq { s.seq with latch := 0 } := by
  have low : ((s.setStn { s.stn with killnLow := true }).isActive && !true) = false := Bool.and_false _
  unfold State.killnSampled State.holdClear
  change (if ((s.setStn { s.stn with killnLow := true }).isActive && !true) = true then _ else _) = _
  rw [low]
  rfl

theorem takeKillnLow_eq : s.takeKillnLow = match s.stn.state with
    | .joining | .active | .quiet | .left => (s.killnSampled.writeIncident .kill none).depart .kill .halted
    | .config | .halted | .faulted => s.killnSampled := by
  have state : s.killnSampled.stn.state = s.stn.state := by
    rw [killnSampled_eq]
    rfl
  rw [← state]
  rfl

theorem takeKillnLow_halts (live : s.stn.state ∈ [.joining, .active, .quiet, .left]) :
    s.takeKillnLow = (s.killnSampled.writeIncident .kill none).depart .kill .halted := by
  rw [takeKillnLow_eq]
  simp only [List.mem_cons, List.not_mem_nil, or_false] at live
  obtain e | e | e | e := live <;> rw [e]

theorem takeKillnLow_stays (out : s.stn.state ∈ [.config, .halted, .faulted]) : s.takeKillnLow = s.killnSampled := by
  rw [takeKillnLow_eq]
  simp only [List.mem_cons, List.not_mem_nil, or_false] at out
  obtain e | e | e := out <;> rw [e]

/-- The high edge takes HALTED to JOINING, and is the sample alone in every other state (R150). -/
theorem takeKillnHigh_eq : s.takeKillnHigh =
    if s.stn.state = .halted then (s.setStn { s.stn with killnLow := false }).enterState .joining
    else s.setStn { s.stn with killnLow := false } := by
  unfold State.takeKillnHigh
  dsimp only
  split
  · rename_i halted
    exact (if_pos halted).symm
  · rename_i other
    exact (if_neg other).symm

/-- What the high edge leaves alone in every state. -/
theorem takeKillnHigh_blocks : s.takeKillnHigh.table = s.table ∧ s.takeKillnHigh.chans = s.chans ∧
    s.takeKillnHigh.notice = s.notice ∧ s.takeKillnHigh.port = s.port ∧ s.takeKillnHigh.cont = s.cont ∧
    s.takeKillnHigh.stn.killnLow = false ∧ s.takeKillnHigh.stn.incident = s.stn.incident := by
  have frame := enterState_frame (s.setStn { s.stn with killnLow := false }) .joining
  rw [takeKillnHigh_eq]
  split
  · exact ⟨frame.table, frame.chans, frame.notice, frame.port, frame.cont, rfl, rfl⟩
  · exact ⟨rfl, rfl, rfl, rfl, rfl, rfl, rfl⟩

/-- The low edge of KILLN is an incident and a KILL departure to HALTED (R100, R143, R158). -/
theorem killnLow_departs (live : s.stn.state ∈ [.joining, .active, .quiet, .left]) :
    Departed s s.takeKillnLow.settle .kill .halted ∧
      s.takeKillnLow.settle.stn.incident = some { cause := .kill, state := s.stn.state, channel := none } ∧
      s.takeKillnLow.settle.port.events = shedFlag s .kill ∧ RunsKept s s.takeKillnLow.settle := by
  rw [takeKillnLow_halts s live]
  have left := departed_settle (s.killnSampled.writeIncident .kill none) .kill .halted
    (u := (s.killnSampled.writeIncident .kill none).depart .kill .halted) (by decide) (by decide) rfl rfl rfl rfl
    (by rw [depart_line]) (depart_stn_state _ _ _) (depart_stn_request _ _ _)
  rw [killnSampled_eq] at left ⊢
  refine ⟨left.congr _ _ rfl rfl rfl rfl rfl, ?_, ?_, ?_⟩
  · rw [settle_stn]
    exact depart_incident _ .kill .halted
  · rw [settle_port, depart_events]
    rfl
  · unfold RunsKept
    rw [settle_cont]
    exact depart_runs _ .kill .halted

end

/-- Settles O4: the low edge is an incident with a KILL departure, or a sample and the hold-clear alone; the high edge an
entry to JOINING out of HALTED. -/
theorem killnEdgesByState : Obligations.KillnEdgesByState := by
  unfold Obligations.KillnEdgesByState
  intro s
  refine ⟨fun live => ⟨s.takeKillnLow.settle, rfl, ?_⟩, fun out => ⟨s.takeKillnLow.settle, rfl, ?_⟩,
    s.takeKillnHigh.settle, rfl, ?_⟩
  · obtain ⟨departed, incident, events, runs⟩ := killnLow_departs s live
    refine ⟨departed, ?_, incident, events, ?_, ?_, runs, fun r sent whole => ?_⟩
    all_goals rw [takeKillnLow_halts s live, killnSampled_eq]
    · rw [settle_stn]
      exact depart_killnLow _ .kill .halted
    · rw [settle_elapsed, depart_elapsed _ _ _ (by decide)]
      rfl
    · rw [settle_port]
      exact (depart_keep _ .kill .halted).image
    · rw [settle_notice]
      exact depart_keeps_whole _ _ _ (by decide) sent whole
  · rw [takeKillnLow_stays s out]
    have latch : s.killnSampled.settle.seq.latch = 0 := settle_latch _ (.inr (by rw [killnSampled_eq]; rfl))
    refine ⟨?_, ?_, ?_, latch, ?_⟩
    all_goals rw [killnSampled_eq]
    · rw [settle_state]; rfl
    · rw [settle_stn]; rfl
    · rw [settle_stn]; rfl
    · rw [settle_table, settle_chans, settle_notice, settle_port, settle_cont]
      exact ⟨rfl, rfl, rfl, rfl, rfl⟩
  · obtain ⟨table, chans, notice, port, cont, sample, incident⟩ := takeKillnHigh_blocks s
    rw [settle_table, settle_chans, settle_notice, settle_port, settle_cont, settle_state]
    refine ⟨by rw [settle_stn]; exact sample, by rw [settle_stn]; exact incident, table, chans, notice, port, cont,
      fun other => ?_, fun halted => ?_⟩
    · rw [takeKillnHigh_eq, if_neg other]
      rfl
    · rw [takeKillnHigh_eq, if_pos halted]
      refine ⟨rfl, by rw [settle_stn]; rfl, by rw [settle_stn]; rfl, settle_latch _ (.inl rfl), ?_⟩
      rw [settle_roll]
      exact decide_eq_true_iff

end Sys2Proof.Machine

namespace Sys2Proof.Machine

/-! ### Claim resolved (R45, R51, R53, R54, R125, R130) -/

section
variable {s : State} {word : BitVec 10}

theorem listens_iff (s : State) : s.listens = true ↔ s.stn.state ∈ [.joining, .active, .quiet] := by
  unfold State.listens
  cases s.stn.state <;> decide

/-- The winning word is taken, before the clash check. -/
def State.claimed (s : State) (word : BitVec 10) : State := (s.toPosition (s.numUnits + 10)).settleClaim word

/-- The outcome that the word settles (R53). -/
abbrev State.resolved (s : State) (word : BitVec 10) : ClaimOutcome := resolveOutcome s.cont.bid s.cont.outcome word

theorem claimed_cont (s : State) (word : BitVec 10) : (s.claimed word).cont = { s.cont with
    outcome := s.resolved word
    last := { outcome := s.resolved word, word := word }
    lossRun := if s.isActive then lossRunAfter (s.resolved word) s.cont.lossRun else s.cont.lossRun } := rfl

theorem claimed_notice (s : State) (word : BitVec 10) : (s.claimed word).notice = { s.notice with
    send := if s.resolved word = .won then s.notice.send else none
    recv := s.notice.recv.map fun r => { r with sender := some (word.setWidth 6) } } := rfl

theorem takeClaimResolved_eq (due : InPhase s (s.numUnits + 10)) : s.takeClaimResolved word =
    if (s.claimed word).seesTwin word then (s.claimed word).faultClash else s.claimed word :=
  if_pos ((phaseDue_iff s _).2 due)

theorem seesTwin_iff (s : State) (word : BitVec 10) : (s.claimed word).seesTwin word = true ↔
    s.stn.state ∈ [.joining, .active, .quiet] ∧ word.setWidth 6 = s.ownId ∧ s.resolved word ≠ .won := by
  have listens : (s.claimed word).listens = s.listens := rfl
  have own : (s.claimed word).ownId = s.ownId := rfl
  unfold State.seesTwin
  rw [listens, own, claimed_cont, Bool.and_eq_true, Bool.and_eq_true, listens_iff, decide_eq_true_iff, Bool.not_eq_true',
    decide_eq_false_iff_not, and_assoc]
  rfl

/-- A bidder that reads its own word has won (R53). -/
theorem resolved_won (bidding : s.cont.outcome = .bidding) (own : s.cont.bid.word = some word) : s.resolved word = .won := by
  unfold State.resolved resolveOutcome
  rw [bidding, own]
  exact if_pos rfl

/-- No one else wins (R53). -/
theorem resolved_ne_won (out : s.cont.outcome ≠ .bidding) : s.resolved word ≠ .won := by
  unfold State.resolved resolveOutcome
  cases outcome : s.cont.outcome with
  | bidding => exact absurd outcome out
  | lost j => exact nofun
  | abandoned => exact nofun
  | noBid | won | noWinner =>
    dsimp only
    split <;> exact nofun

/-- Without a twin the winning word settles the claim and nothing else (R53, R130). -/
theorem claimResolved_settles (due : InPhase s (s.numUnits + 10)) (alone : (s.claimed word).seesTwin word ≠ true) :
    ∃ t, exec (.claimResolved word) s = .next t ∧ t.cont = (s.claimed word).cont ∧ t.notice = (s.claimed word).notice ∧
      t.stn.state = s.stn.state ∧ t.stn.incident = s.stn.incident ∧ t.port = s.port ∧ t.table = s.table ∧
      t.chans = s.chans := by
  refine ⟨(s.takeClaimResolved word).settle, rfl, ?_⟩
  rw [takeClaimResolved_eq due, if_neg alone, settle_cont, settle_notice, settle_state, settle_port, settle_table,
    settle_chans]
  exact ⟨rfl, rfl, rfl, by rw [settle_stn]; rfl, rfl, rfl, rfl⟩

/-- A twin faults the station with CLASH, the claim settled as it is (R54, R152). -/
theorem claimResolved_clashes (due : InPhase s (s.numUnits + 10)) (twin : (s.claimed word).seesTwin word = true) :
    ∃ t, exec (.claimResolved word) s = .next t ∧ IncidentTaken (s.claimed word) t .clash none .clash .faulted .fault ∧
      t.notice.recv = (s.claimed word).notice.recv := by
  refine ⟨(s.takeClaimResolved word).settle, rfl, ?_⟩
  rw [takeClaimResolved_eq due, if_pos twin]
  refine ⟨incident_departs_settled (s.claimed word) _ _ _ _ _ (by decide) (by decide), ?_⟩
  rw [settle_notice]
  change (((s.claimed word).writeIncident .clash none).depart .clash .faulted).notice.recv = _
  rw [depart_notice _ _ _ (by decide)]
  exact abandonSend_recv _

end

/-- Settles O16: the check sees a twin exactly under its three conditions. -/
theorem claimWithOwnIdFaultsClash : Obligations.ClaimWithOwnIdFaultsClash := by
  unfold Obligations.ClaimWithOwnIdFaultsClash
  intro s word due
  refine ⟨fun listens own out => ?_, fun apart => ?_⟩
  · obtain ⟨t, e, clash, -⟩ := claimResolved_clashes due ((seesTwin_iff s word).2 ⟨listens, own, resolved_ne_won out⟩)
    obtain ⟨rolling, parsing, -⟩ := due
    have roll := clash.roll
    refine ⟨t, e, clash.departed.congr _ _ rfl rfl rfl rfl rfl, clash.incident, clash.events, ?_, ?_, ?_⟩
    · rw [roll]
      exact rolling
    · rw [roll]
      exact parsing
    · rw [roll]
      rfl
  · have alone : (s.claimed word).seesTwin word ≠ true := by
      rw [Ne, seesTwin_iff]
      rintro ⟨listens, own, lost⟩
      obtain other | deaf | ⟨-, bidding, sent⟩ := apart
      · exact other own
      · exact deaf listens
      · exact lost (resolved_won bidding sent)
    obtain ⟨t, e, -, -, state, incident, port, -, -⟩ := claimResolved_settles due alone
    exact ⟨t, e, state, incident, port⟩

section
variable {s : State} {word : BitVec 10}

/-- A lost or abandoned claim stays what it is, and without a bid only the void ID changes the outcome (R53). -/
theorem resolved_lost {j : Nat} (lost : s.cont.outcome = .lost j) : s.resolved word = .lost j := by
  unfold State.resolved resolveOutcome
  rw [lost]

theorem resolved_abandoned (out : s.cont.outcome = .abandoned) : s.resolved word = .abandoned := by
  unfold State.resolved resolveOutcome
  rw [out]

theorem resolved_noBid (noBid : s.cont.outcome = .noBid) :
    s.resolved word = if word.setWidth 6 = (63 : BitVec 6) then .noWinner else .noBid := by
  unfold State.resolved resolveOutcome
  rw [noBid]
  rfl

theorem lossRunAfter_unwon (n : Nat) (void : Prop) [Decidable void] :
    lossRunAfter (if void then .noWinner else .noBid) n = 0 := by
  split <;> rfl

/-- A claim of no effect on the loss run: outside ACTIVE, or abandoned (R51, R63). -/
theorem claimed_lossRun (out : s.stn.state ≠ .active ∨ s.cont.outcome = .abandoned) :
    (s.claimed word).cont.lossRun = s.cont.lossRun := by
  rw [claimed_cont]
  obtain inactive | abandoned := out
  · exact if_neg fun active => inactive ((isActive_iff s).1 active)
  · rw [resolved_abandoned abandoned]
    exact ite_self _

/-- Only the winner keeps its send record (R125). -/
theorem claimed_send (unwon : s.resolved word ≠ .won) : (s.claimed word).notice.send = none := by
  rw [claimed_notice]
  exact if_neg unwon

end

/-- Settles O15: the claim is settled as the outcome found says; a clash, where there is one, comes after and keeps loss
run, last claim and sender. -/
theorem claimResolvedSettlesClaim : Obligations.ClaimResolvedSettlesClaim := by
  unfold Obligations.ClaimResolvedSettlesClaim
  intro s word r due recv
  have sender : (s.claimed word).notice.recv = some { r with sender := some (word.setWidth 6) } := by
    rw [claimed_notice, recv]
    rfl
  have wins (active : s.stn.state = .active) (bidding : s.cont.outcome = .bidding) (own : s.cont.bid.word = some word) :
      ∃ t, exec (.claimResolved word) s = .next t ∧ t.cont.outcome = .won ∧ t.cont.lossRun = 0 ∧
        t.cont.last = { outcome := .won, word := word } ∧ t.cont.bid = s.cont.bid ∧
        t.notice.send = s.notice.send ∧ t.notice.recv = some { r with sender := some (word.setWidth 6) } ∧
        t.stn.state = .active ∧ t.table = s.table ∧ t.chans = s.chans := by
    have won := resolved_won bidding own
    obtain ⟨t, e, cont, notice, state, -, -, table, chans⟩ :=
      claimResolved_settles due fun twin => ((seesTwin_iff s word).1 twin).2.2 won
    rw [← notice] at sender
    refine ⟨t, e, ?_, ?_, ?_, ?_, ?_, sender, state.trans active, table, chans⟩
    · rw [cont, claimed_cont, won]
    · rw [cont, claimed_cont, won, (isActive_iff s).2 active]
      rfl
    · rw [cont, claimed_cont, won]
    · rw [cont, claimed_cont]
    · rw [notice, claimed_notice, won]
      rfl
  have apart (other : word.setWidth 6 ≠ s.ownId) : (s.claimed word).seesTwin word ≠ true :=
    fun twin => other ((seesTwin_iff s word).1 twin).2.1
  refine ⟨fun c chosen a p active bid bidding => wins active bidding (by rw [bid]; rfl),
    fun n p active bid bidding => wins active bidding (by rw [bid]; rfl), fun j active lost other => ?_,
    fun active noBid other => ?_, fun out => ?_⟩
  · obtain ⟨t, e, cont, notice, state, -, -, table, chans⟩ := claimResolved_settles due (apart other)
    have still := resolved_lost (word := word) lost
    rw [← notice] at sender
    refine ⟨t, e, ?_, ?_, ?_, ?_, sender, state.trans active, table, chans⟩
    · rw [cont, claimed_cont, still]
    · rw [cont, claimed_cont, still, (isActive_iff s).2 active]
      rfl
    · rw [cont, claimed_cont, still]
    · rw [notice]
      exact claimed_send (by rw [still]; exact nofun)
  · obtain ⟨t, e, cont, notice, state, -, -, table, chans⟩ := claimResolved_settles due (apart other)
    have still := resolved_noBid (word := word) noBid
    rw [← notice] at sender
    refine ⟨t, e, ?_, ?_, ?_, sender, ?_, state.trans active, table, chans⟩
    · rw [cont, claimed_cont, still, (isActive_iff s).2 active]
      exact lossRunAfter_unwon _ _
    · rw [cont, claimed_cont, still]
    · rw [cont, claimed_cont]
    · rw [notice]
      exact claimed_send (resolved_ne_won (by rw [noBid]; exact nofun))
  · by_cases twin : (s.claimed word).seesTwin word = true
    · obtain ⟨t, e, clash, kept⟩ := claimResolved_clashes due twin
      obtain ⟨lossRun, -, last⟩ := clash.runs
      refine ⟨t, e, lossRun.trans (claimed_lossRun out), kept.trans sender, fun abandoned => ?_⟩
      rw [last, claimed_cont, resolved_abandoned abandoned]
    · obtain ⟨t, e, cont, notice, -⟩ := claimResolved_settles due twin
      rw [← notice] at sender
      refine ⟨t, e, ?_, sender, fun abandoned => ?_⟩
      · rw [cont]
        exact claimed_lossRun out
      · rw [cont, claimed_cont, resolved_abandoned abandoned]

end Sys2Proof.Machine

namespace Sys2Proof.Machine

/-! ### A conflict (R20, R59 to R62, R128) -/

section
variable (s : State) (cause : ShedCause) (x : StationState)

/-- A departure leaves the conflict mark of the roll (R20). -/
theorem depart_conflictMark : (s.depart cause x).cont.conflictMark = s.cont.conflictMark := by
  have abandoned (u : State) : u.abandonClaim.cont.conflictMark = u.cont.conflictMark := by
    unfold State.abandonClaim
    split <;> rfl
  rw [(depart_frame s cause x).cont, departing_cont, abandoned, (dropped_marks s cause).cont]

end

section
variable {s : State} (phase : OwnPhase)

theorem takeConflict_eq (rolling : s.roll.state = .inRoll) (parsing : s.roll.parsing = true)
    (active : s.stn.state = .active) (won : s.cont.outcome = .won) (unmarked : s.cont.conflictMark = false) :
    s.takeConflict phase = if (s.conflictEffects phase).cont.conflictRun = Config.clashRun then
      (s.conflictEffects phase).faultClash else s.conflictEffects phase := by
  obtain ⟨part, -⟩ := (drives_iff (s := s)).2 ⟨active, unmarked, parsing, rolling⟩
  exact if_pos ⟨rolling, part, won⟩

theorem conflictEffects_run :
    (s.conflictEffects phase).cont.conflictRun = min Config.clashRun (s.cont.conflictRun + 1) := rfl

/-- Only a NOTICE conflict leaves the roll valid (R61, R128). -/
theorem conflictEffects_valid :
    (s.conflictEffects phase).roll.valid = (s.roll.valid && decide (phase = .notice)) := by
  change (if phase = .notice then s.roll.valid else false) = _
  split <;> simp [*]

theorem conflictEffects_bit : (s.conflictEffects phase).port.events.getLsbD 3 = true :=
  setEvent_bit s .conflict

end

/-- Settles O21: the third conflict in a row goes on to CLASH, an earlier one stops at its effects. -/
theorem conflictStopsWinner : Obligations.ConflictStopsWinner := by
  unfold Obligations.ConflictStopsWinner
  intro s phase rolling parsing active won unmarked
  have taken := takeConflict_eq phase rolling parsing active won unmarked
  have valid := conflictEffects_valid (s := s) phase
  refine ⟨fun few => ⟨(s.takeConflict phase).settle, rfl, ?_⟩,
    fun two => ⟨(s.takeConflict phase).settle, rfl, ?_⟩⟩
  · have run : (s.conflictEffects phase).cont.conflictRun = s.cont.conflictRun + 1 :=
      Nat.min_eq_right (by change _ ≤ 3; omega)
    have short : (s.conflictEffects phase).cont.conflictRun ≠ Config.clashRun := by
      rw [run]
      change _ ≠ 3
      omega
    rw [taken, if_neg short, settle_cont, settle_port, settle_line, settle_state, settle_notice, settle_table,
      settle_chans, settle_roll, ← run]
    exact ⟨rfl, rfl, rfl, active, valid, rfl, rfl, rfl, rfl, rfl, rfl⟩
  · have run : (s.conflictEffects phase).cont.conflictRun = Config.clashRun := by
      rw [conflictEffects_run, two]
      rfl
    have clash : IncidentTaken (s.conflictEffects phase) (s.takeConflict phase).settle .clash none .clash .faulted
        .fault := by
      rw [taken, if_pos run]
      exact incident_departs_settled _ _ _ _ _ _ (by decide) (by decide)
    obtain ⟨-, conflictRun, -⟩ := clash.runs
    refine ⟨clash.departed.congr _ _ rfl rfl rfl rfl rfl, ?_, conflictRun.trans run, ?_, ?_, ?_, ?_, ?_⟩
    · rw [clash.incident, ← active]
      rfl
    · rw [taken, if_pos run, settle_cont]
      exact depart_conflictMark ((s.conflictEffects phase).writeIncident .clash none) .clash .faulted
    · rw [clash.roll]
      exact valid
    · rw [taken, if_pos run, settle_notice]
      change (((s.conflictEffects phase).writeIncident .clash none).depart .clash .faulted).notice.tx = _
      rw [depart_notice _ _ _ (by decide)]
      exact abandonSend_tx _
    · rw [clash.events, BitVec.getLsbD_or, shedFlag_keeps _ _ 3 (conflictEffects_bit phase)]
      rfl
    · have fault : Event.fault.word.getLsbD 4 = true := rfl
      rw [clash.events, BitVec.getLsbD_or, fault, Bool.or_true]

end Sys2Proof.Machine

namespace Sys2Proof.Machine

/-! ### The claim word and a notice's bytes as numbers (R50, R120, R121) -/

/-- Fields put side by side are digits of a number. -/
theorem toNat_append_digit {m n : Nat} (high : BitVec m) (low : BitVec n) :
    (high ++ low).toNat = high.toNat * 2 ^ n + low.toNat := by
  rw [BitVec.toNat_append, ← Nat.shiftLeft_add_eq_or_of_lt low.isLt, Nat.shiftLeft_eq]

theorem toNat_ofNat_fits {n k : Nat} (fits : k < 2 ^ n) : (BitVec.ofNat n k).toNat = k := by
  rw [BitVec.toNat_ofNat, Nat.mod_eq_of_lt fits]

theorem claimWord_toNat {id : Nat} (priority lossRun : Nat) (fits : id ≤ 62) :
    (claimWord priority lossRun (BitVec.ofNat 6 id)).toNat = wordNumber priority lossRun id := by
  unfold claimWord
  rw [toNat_append_digit, toNat_append_digit, toNat_ofNat_fits (n := 2) (by omega), toNat_ofNat_fits (n := 2) (by omega),
    toNat_ofNat_fits (n := 6) (by omega)]
  change _ = (3 - priority) * 256 + (3 - ageClass lossRun) * 64 + id
  omega

theorem headerByte_eq {kind priority length : Nat} (kindFits : kind ≤ 7) (levelFits : priority ≤ 3)
    (lengthFits : length ≤ 7) : headerByte kind priority length = BitVec.ofNat 8 (32 * kind + 8 * priority + length) := by
  refine BitVec.eq_of_toNat_eq ?_
  unfold headerByte
  rw [toNat_append_digit, toNat_append_digit, toNat_ofNat_fits (n := 3) (by omega), toNat_ofNat_fits (n := 2) (by omega),
    toNat_ofNat_fits (n := 3) (by omega), toNat_ofNat_fits (n := 8) (by omega)]
  omega

theorem yieldByte_eq {q : YieldReq} (fits : q.wanted ≤ 8) :
    yieldByte q = BitVec.ofNat 8 (16 * (q.wanted - 1) + q.mask.toNat) := by
  have mask := q.mask.isLt
  refine BitVec.eq_of_toNat_eq ?_
  unfold yieldByte
  rw [toNat_append_digit, toNat_ofNat_fits (n := 4) (by omega), toNat_ofNat_fits (n := 8) (by omega)]
  omega

theorem windowSum_eq (m : Image) :
    m.windowSum = BitVec.ofNat 8 ((allWins.map fun w => m.winFirst w + m.winLast w + m.reserve w).sum) := by
  have sums (l : List Win) (f : Win → Nat) (a : Nat) :
      (l.map fun w => BitVec.ofNat 8 (f w)).foldl (· + ·) (BitVec.ofNat 8 a) = BitVec.ofNat 8 (a + (l.map f).sum) := by
    induction l generalizing a with
    | nil => rfl
    | cons w l ih =>
      rw [List.map_cons, List.foldl_cons, ← BitVec.ofNat_add, ih, List.map_cons, List.sum_cons, Nat.add_assoc]
  exact (sums allWins _ 0).trans (by rw [Nat.zero_add])

theorem reserveByte_eq {m : Image} (fits : ∀ w, m.reserve w ≤ 3) :
    m.reserveByte = BitVec.ofNat 8 (m.reserve 0 + 4 * m.reserve 1 + 16 * m.reserve 2 + 64 * m.reserve 3) := by
  have level (w : Win) : (BitVec.ofNat 2 (m.reserve w)).toNat = m.reserve w :=
    toNat_ofNat_fits (Nat.lt_succ_of_le (fits w))
  have fits0 := fits 0
  have fits1 := fits 1
  have fits2 := fits 2
  have fits3 := fits 3
  refine BitVec.eq_of_toNat_eq ?_
  unfold Image.reserveByte
  rw [toNat_append_digit, toNat_append_digit, toNat_append_digit, level, level, level, level,
    toNat_ofNat_fits (n := 8) (by omega)]
  omega

/-- The check completes the sum of header and payload to FFh (R120). -/
theorem checkByte_completes (header : Byte) (payload : List Byte) :
    ((header :: payload) ++ [checkByte header payload]).foldl (· + ·) 0 = 0xFF := by
  rw [List.foldl_append]
  change byteSum (header :: payload) + (0xFF - byteSum (header :: payload)) = 0xFF
  rw [BitVec.add_comm, BitVec.sub_add_cancel]

end Sys2Proof.Machine

namespace Sys2Proof.Machine

/-! ### What a bid is formed from (R25, R31, R46 to R49, R88) -/

section
variable {s u : State} {c : Chan}

theorem fenced_iff (s : State) (c : Chan) : s.fenced c = true ↔ Fenced s c := by
  simp [State.fenced, Fenced]

theorem mem_freeUsable {k : Nat} : k ∈ s.freeUsable c ↔ Usable s c k ∧ k ∈ s.table.freeSet := by
  unfold State.freeUsable Usable
  rw [List.mem_filter, Option.any_eq_true, and_comm]
  refine and_congr_left fun _ => exists_congr fun r => ?_
  unfold State.unitUsable Image.winUsable
  cases r.window <;> simp

/-- HOLD complete lists the free set in unit order (R31). -/
theorem holdViews_freeSet_sorted (s : State) (units : List Nat) :
    (s.holdViews units).table.freeSet.Pairwise (· < ·) :=
  List.pairwise_lt_range.filter _

/-- The walk of R47 stops at the first channel that may bid. -/
theorem bidChannel_first {front back : List Chan} (queue : s.chans.queue = front ++ c :: back)
    (passed : ∀ d ∈ front, Fenced s d ∨ (s.freeUsable d).length < s.port.image.weight d)
    (unfenced : ¬ Fenced s c) (covered : s.port.image.weight c ≤ (s.freeUsable c).length) : s.bidChannel = some c := by
  unfold State.bidChannel
  rw [queue, List.find?_eq_some_iff_append]
  refine ⟨?_, front, back, rfl, fun d mem => ?_⟩
  · rw [← fenced_iff, Bool.not_eq_true] at unfenced
    rw [unfenced, decide_eq_true covered]
    rfl
  · obtain fence | few := passed d mem
    · rw [(fenced_iff s d).2 fence]
      rfl
    · rw [decide_eq_false (Nat.not_le_of_lt few), Bool.and_false]
      rfl

theorem bidChannel_none
    (passed : ∀ d ∈ s.chans.queue, Fenced s d ∨ (s.freeUsable d).length < s.port.image.weight d) :
    s.bidChannel = none := by
  refine List.find?_eq_none.2 fun d mem fits => ?_
  rw [Bool.and_eq_true, Bool.not_eq_true', decide_eq_true_eq, ← Bool.not_eq_true, fenced_iff] at fits
  obtain fence | few := passed d mem
  · exact fits.1 fence
  · exact Nat.not_le_of_lt few fits.2

theorem mayBid_iff (s : State) :
    s.mayBid = true ↔ s.stn.state = .active ∧ s.stn.request = none ∧ s.stn.killnLow = false := by
  unfold State.mayBid
  rw [Bool.and_eq_true, Bool.and_eq_true, isActive_iff, Option.isNone_iff_eq_none, Bool.not_eq_true', and_assoc]

/-- The bid's parts other than the free set are the same in u as in s. -/
structure SameBidder (s u : State) : Prop where
  chans : u.chans = s.chans
  notice : u.notice = s.notice
  cont : u.cont = s.cont
  image : u.port.image = s.port.image
  stn : u.stn = s.stn

theorem SameBidder.fenced (h : SameBidder s u) (c : Chan) : Fenced u c ↔ Fenced s c := by
  unfold Fenced
  rw [h.chans, h.image]

theorem SameBidder.pendingNotice (h : SameBidder s u) : u.pendingNotice = s.pendingNotice := by
  unfold State.pendingNotice
  rw [h.notice]

theorem SameBidder.noticePriority (h : SameBidder s u) : u.noticePriority = s.noticePriority := by
  funext n
  cases n
  all_goals
    unfold State.noticePriority
    rw [h.notice]

theorem SameBidder.fixNotice (h : SameBidder s u) : u.fixNotice = s.fixNotice := by
  funext n
  cases n
  all_goals
    unfold State.fixNotice
    rw [h.notice, h.image]

theorem SameBidder.mayBid (h : SameBidder s u) : u.mayBid = s.mayBid := by
  unfold State.mayBid State.isActive
  rw [h.stn]

/-- The state in which HOLD complete forms the bid: views and free set renewed where the station listens (R28, R30). -/
def State.holdTaken (s : State) (units : List Nat) : State :=
  if s.listens then (s.toPosition s.numUnits).holdViews units else s.toPosition s.numUnits

theorem takeHoldComplete_bids (due : InPhase s s.numUnits) (units : List Nat) :
    s.takeHoldComplete units = (s.holdTaken units).formBid :=
  (takeHoldComplete_eq due units).trans (apply_ite State.formBid (s.listens = true) _ _).symm

theorem holdTaken_bidder (s : State) (units : List Nat) : SameBidder s (s.holdTaken units) := by
  unfold State.holdTaken
  split
  · obtain ⟨-, -, chans, -, notice⟩ := markSkew_blocks (s.toPosition s.numUnits) units
    have frame := markSkew_marks (s.toPosition s.numUnits) units
    exact ⟨chans, notice, frame.cont, frame.image, frame.stn⟩
  · exact ⟨rfl, rfl, rfl, rfl, rfl⟩

theorem holdTaken_freeSet_sorted (active : s.stn.state = .active) (units : List Nat) :
    (s.holdTaken units).table.freeSet.Pairwise (· < ·) := by
  unfold State.holdTaken
  rw [if_pos (active_listens active)]
  exact holdViews_freeSet_sorted _ units

/-- Forming the bid leaves what the free set offers. -/
theorem formBid_freeUsable (u : State) (c : Chan) : u.formBid.settle.freeUsable c = u.freeUsable c := by
  unfold State.freeUsable State.unitUsable
  rw [settle_table, settle_port]
  rfl

/-- A bid is formed: the outcome is bidding, and the pending notice is fixed (R46, R125). -/
theorem formBid_bids (may : u.mayBid = true) (fresh : u.cont.outcome = .noBid) (bid : u.nextBid ≠ .nothing) :
    u.formBid.cont = { u.cont with bid := u.nextBid, outcome := .bidding } ∧
      u.formBid.notice = { u.notice with send := u.pendingNotice.bind u.fixNotice } := by
  unfold State.formBid
  simp [may, fresh, bid]

/-- No bid is formed (R46, R48). -/
theorem formBid_idle (fresh : u.cont.outcome = .noBid) (idle : u.mayBid = true → u.nextBid = .nothing) :
    u.formBid.cont = { u.cont with bid := .nothing } ∧ u.formBid.notice = { u.notice with send := none } := by
  have bid : (if u.mayBid = true then u.nextBid else .nothing) = Bid.nothing := by
    split
    next may => exact idle may
    next => rfl
  unfold State.formBid
  rw [bid, ← fresh]
  simp [fresh]

end

/-! ### The pending notice (R48, R120, R121, R125) -/

section
variable {s : State} {n : NoticeSource} {p : Nat} {header : Byte} {payload : List Byte} {request : Option YieldReq}

/-- What is pending is named, with its priority and its characters. -/
theorem pendingIs_fixes (pending : PendingIs s n p header payload request) :
    s.pendingNotice = some n ∧ s.noticePriority n = p ∧
      s.fixNotice n = some { source := n, header := header, payload := payload, check := checkByte header payload
                             driven := 0, request := request } := by
  cases n with
  | presence =>
    obtain ⟨presence, rfl, rfl, rfl, levels, rfl⟩ := pending
    have head : headerByte 0 0 3 = 0x03 := by decide
    refine ⟨if_pos presence, rfl, ?_⟩
    rw [← windowSum_eq, ← reserveByte_eq levels, ← head]
    rfl
  | yieldSlot =>
    obtain ⟨absent, q, slot, rfl, rfl, level, -, few, rfl, rfl⟩ := pending
    have head : headerByte 1 q.priority 1 = BitVec.ofNat 8 (0x21 + 8 * q.priority) := by
      rw [headerByte_eq (by omega) level (by omega)]
      congr 1
      omega
    refine ⟨by simp [State.pendingNotice, absent, slot], by simp [State.noticePriority, slot], ?_⟩
    rw [← head, ← yieldByte_eq few]
    simp [State.fixNotice, slot, mkSend]
  | txHead =>
    obtain ⟨absent, empty, rfl, u, rest, tx, rfl, level, short, rfl, rfl⟩ := pending
    have head : headerByte 2 u.priority u.payload.length = BitVec.ofNat 8 (0x40 + 8 * u.priority + u.payload.length) :=
      headerByte_eq (by omega) level (by omega)
    refine ⟨by simp [State.pendingNotice, absent, empty, tx], by simp [State.noticePriority, tx], ?_⟩
    rw [← head]
    simp [State.fixNotice, tx, mkSend]

theorem pendingNotice_none (presence : s.notice.presence = false) (slot : s.notice.slot = none)
    (tx : s.notice.tx = []) : s.pendingNotice = none := by
  simp [State.pendingNotice, presence, slot, tx]

end

/-- Settles O12: the walk meets the first channel that may bid, in the free set this HOLD has left. -/
theorem holdCompleteFormsChannelBid : Obligations.HoldCompleteFormsChannelBid := by
  unfold Obligations.HoldCompleteFormsChannelBid
  intro s t units front back c due active calm high fresh level id run queue passed unfenced covered
  have same := holdTaken_bidder s units
  have sorted := holdTaken_freeSet_sorted active units
  have next : t = (s.holdTaken units).formBid.settle := by
    cases run
    rw [← takeHoldComplete_bids due]
  subst next
  generalize s.holdTaken units = u at *
  have usable := formBid_freeUsable u
  simp only [usable] at passed covered ⊢
  rw [← same.chans] at queue
  have chosen : u.bidChannel = some c := by
    refine bidChannel_first queue (fun d mem => ?_) ?_ ?_
    · rw [same.fenced, same.image]
      exact passed d mem
    · rwa [same.fenced]
    · rwa [same.image]
  have bid : u.nextBid = .channel c ((u.freeUsable c).take (s.port.image.weight c)) s.pendingNotice
      (s.port.image.priority c) (claimWord (s.port.image.priority c) s.cont.lossRun s.ownId) := by
    unfold State.nextBid State.ownId
    rw [chosen, same.pendingNotice, same.image, same.cont]
  have may : u.mayBid = true := by
    rw [same.mayBid, mayBid_iff]
    exact ⟨active, calm, high⟩
  obtain ⟨cont, notice⟩ := formBid_bids may (by rw [same.cont]; exact fresh) (by rw [bid]; exact nofun)
  rw [settle_cont, settle_notice, cont, notice, bid, same.pendingNotice, same.fixNotice]
  refine ⟨rfl, sorted.filter _, fun k => ?_, _, rfl, claimWord_toNat _ _ id, rfl⟩
  rw [← usable]
  exact mem_freeUsable

/-- Settles O13: no channel can bid, so the pending notice is the bid; without one, or without leave, there is none. -/
theorem holdCompleteFormsNoticeBid : Obligations.HoldCompleteFormsNoticeBid := by
  unfold Obligations.HoldCompleteFormsNoticeBid
  intro s units due fresh
  refine ⟨(s.takeHoldComplete units).settle, rfl, ?_⟩
  rw [takeHoldComplete_bids due]
  have same := holdTaken_bidder s units
  generalize s.holdTaken units = u at *
  have unbid (out : NoneCovered s u.formBid.settle) : u.bidChannel = none := by
    refine bidChannel_none fun d mem => ?_
    rw [same.chans] at mem
    rw [same.fenced, same.image, ← formBid_freeUsable]
    exact out d mem
  have fresh : u.cont.outcome = .noBid := by
    rw [same.cont]
    exact fresh
  rw [settle_cont, settle_notice]
  refine ⟨fun n p header payload request active calm high id out pending => ?_, fun idle => ?_⟩
  · obtain ⟨source, priority, fixed⟩ := pendingIs_fixes pending
    have bid : u.nextBid = .notice n p (claimWord p s.cont.lossRun s.ownId) := by
      unfold State.nextBid State.ownId
      rw [unbid out, same.pendingNotice, source, same.noticePriority, same.cont, same.image]
      dsimp only
      rw [priority]
    have may : u.mayBid = true := by
      rw [same.mayBid, mayBid_iff]
      exact ⟨active, calm, high⟩
    obtain ⟨cont, notice⟩ := formBid_bids may fresh (by rw [bid]; exact nofun)
    rw [cont, notice, bid, same.pendingNotice, source, same.fixNotice, same.cont, same.notice]
    exact ⟨rfl, rfl, ⟨_, rfl, claimWord_toNat _ _ id⟩, _, checkByte_completes header payload, by rw [← fixed]; rfl⟩
  · rw [← same.cont, ← same.notice]
    refine formBid_idle fresh fun may => ?_
    obtain ⟨active, calm, high⟩ := (mayBid_iff s).1 (same.mayBid ▸ may)
    obtain inactive | busy | low | ⟨out, presence, slot, tx⟩ := idle
    · exact absurd active inactive
    · exact absurd calm busy
    · rw [high] at low
      exact nomatch low
    · unfold State.nextBid
      rw [unbid out, same.pendingNotice, pendingNotice_none presence slot tx]

end Sys2Proof.Machine

namespace Sys2Proof.Machine

/-! ### Moves of one channel among queue, start list and outputs (R70, R72, R74, R80, R91, R98) -/

/-- A channel state without what its timers and its stop-pending mark hold: the lists and the outputs are told by it. -/
def ChState.place : ChState → ChState
  | .waiting e _ => .waiting e none
  | .on _ _ => .on false 0
  | x => x

/-- OFF, COOLDOWN or PARKED: the channel stands in no list and holds no units. -/
def ChState.idle : ChState → Bool
  | .off | .cooldown | .parked => true
  | _ => false

section
variable (x : ChState)

@[simp] theorem place_isWaiting : x.place.isWaiting = x.isWaiting := by cases x <;> rfl
@[simp] theorem place_isOn : x.place.isOn = x.isOn := by cases x <;> rfl
@[simp] theorem place_holdsUnits : x.place.holdsUnits = x.holdsUnits := by cases x <;> rfl
theorem place_starting : x.place = .starting ↔ x = .starting := by cases x <;> simp [ChState.place]
theorem place_disabled : x.place = .disabled ↔ x = .disabled := by cases x <;> simp [ChState.place]

variable {x} in
theorem idle_tests (h : x.idle = true) : x.isWaiting = false ∧ x.isOn = false ∧ x.holdsUnits = false ∧
    x ≠ .starting ∧ x ≠ .disabled := by
  cases x <;> simp_all [ChState.idle, ChState.isWaiting, ChState.isOn, ChState.holdsUnits]

variable {x} in
theorem waiting_tests (h : x.isWaiting = true) : x.isOn = false ∧ x.holdsUnits = false ∧ x ≠ .starting ∧
    x ≠ .disabled := by
  cases x <;> simp_all [ChState.isWaiting, ChState.isOn, ChState.holdsUnits]

end

/-- No stored notice leaves the receive ring. -/
def RingGrows (s t : State) : Prop := ∃ added, t.notice.ring = s.notice.ring ++ added

/-- What lists and outputs are judged by stays: the lists themselves, the latch, each channel's place, the image, the
station state and KILLN's sample. The lock flag stays too, and the receive ring loses nothing. -/
structure ListsStill (s t : State) : Prop where
  queue : t.chans.queue = s.chans.queue
  entries : t.chans.entries = s.chans.entries
  list : t.seq.startList = s.seq.startList
  latch : t.seq.latch = s.seq.latch
  place : ∀ c, (t.chan c).state.place = (s.chan c).state.place
  image : t.port.image = s.port.image
  state : t.stn.state = s.stn.state
  killn : t.stn.killnLow = s.stn.killnLow
  locked : t.port.locked = s.port.locked
  ring : RingGrows s t

/-- A channel takes another state; the others keep theirs, and only the blocks that hold loads are written. -/
structure Moves (c : Chan) (s t : State) : Prop where
  frame : LoadFrame s t
  others : ∀ d, d ≠ c → (t.chan d).state = (s.chan d).state
  entries : t.chans.entries = s.chans.entries
  ring : t.notice.ring = s.notice.ring

/-- The states that the station may enter, but for ACTIVE and CONFIG: FAULTED; JOINING or HALTED by KILLN; and JOINING,
QUIET or LEFT from a state in which KILLN is high (R139, R143 to R157). -/
def State.mayEnter (s : State) (x : StationState) : Prop :=
  x = .faulted ∨ x = s.joinOrHalt ∨
    s.stn.state ∈ [.joining, .active, .quiet, .left] ∧ x ∈ [.joining, .quiet, .left]

/-- A predicate about lists, outputs, station state, image and receive ring that the elementary moves keep: a channel
goes on to WAITING, leaves it, starts, is turned on, gives up its start or its output, or changes between the idle states;
the outputs are held clear; the station enters another state; CFG_WRITE writes the image. -/
structure LoadKeeps (P : State → Prop) : Prop where
  still {s t : State} : P s → ListsStill s t → P t
  join {s : State} {c : Chan} : P s → (s.chan c).state.idle = true → P (s.joinQueue c)
  leave {s t : State} {c : Chan} : P s → (s.chan c).state.isWaiting = true → Moves c s t →
    t.chans.queue = s.chans.queue.filter (· ≠ c) → t.seq = s.seq → (t.chan c).state.idle = true → P t
  start {s : State} {c : Chan} : P s → s.stn.state = .active →
    (s.chan c).state.isWaiting = true ∨ c ∈ s.chans.queue → P (s.appended c)
  turnOn {s : State} {c : Chan} {rest : List Chan} : P s → s.seq.startList = c :: rest → s.stn.state = .active →
    s.stn.killnLow = false → P (s.turnOn c)
  turnOff {s t : State} {c : Chan} : P s → (s.chan c).state.isOn = true → Moves c s t →
    t.chans.queue = s.chans.queue → t.seq = (s.clearOutput c).seq → (t.chan c).state.idle = true → P t
  unstart {s t : State} {c : Chan} : P s → (s.chan c).state = .starting → Moves c s t →
    t.chans.queue = s.chans.queue → t.seq = { s.seq with startList := s.seq.startList.filter (· ≠ c) } →
    (t.chan c).state.idle = true → P t
  rest {s t : State} {c : Chan} : P s → (s.chan c).state.idle = true → Moves c s t →
    t.chans.queue = s.chans.queue → t.seq = s.seq → (t.chan c).state.idle = true → P t
  clear {s : State} : P s → P s.holdClear
  enter {s : State} {x : StationState} : P s → (s.stn.state = .active → ∀ c, (s.chan c).state.holdsUnits = false) →
    s.mayEnter x → P (s.enterState x)
  activate {s : State} : P s → s.stn.state = .joining → P s.enterActive
  reconfigure {s : State} (x : LocalPort) : P s → s.stn.state = .config → P (s.setPort x)

/-- A predicate that also a reset, LOCK and POP keep. -/
structure RowKeeps (P : State → Prop) : Prop extends LoadKeeps P where
  reset {t : State} : t.chans = Channels.reset → t.seq = Sequencer.reset → t.stn.state = .config → P t
  lock (s : State) : P s.lockBlocks
  pop {s : State} : P s → P (s.setNotice { s.notice with ring := s.notice.ring.tail })

section
variable {s t u : State} {c d : Chan}

theorem RingGrows.of_eq (ring : t.notice.ring = s.notice.ring) : RingGrows s t := ⟨[], by rw [ring, List.append_nil]⟩

theorem RingGrows.trans (h : RingGrows s t) (k : RingGrows t u) : RingGrows s u := by
  obtain ⟨first, h⟩ := h
  obtain ⟨second, k⟩ := k
  exact ⟨first ++ second, by rw [k, h, List.append_assoc]⟩

theorem ListsStill.trans (h : ListsStill s t) (k : ListsStill t u) : ListsStill s u :=
  ⟨k.queue.trans h.queue, k.entries.trans h.entries, k.list.trans h.list, k.latch.trans h.latch,
    fun c => (k.place c).trans (h.place c), k.image.trans h.image, k.state.trans h.state, k.killn.trans h.killn,
    k.locked.trans h.locked, h.ring.trans k.ring⟩

/-- The Channel Controller is not written, and the Start Sequencer's lists neither. -/
theorem ListsStill.of_blocks (chans : t.chans = s.chans)
    (seq : t.seq.startList = s.seq.startList ∧ t.seq.latch = s.seq.latch) (image : t.port.image = s.port.image)
    (stn : t.stn.state = s.stn.state ∧ t.stn.killnLow = s.stn.killnLow)
    (locked : t.port.locked = s.port.locked := by exact rfl)
    (ring : t.notice.ring = s.notice.ring := by exact rfl) : ListsStill s t := by
  obtain ⟨list, latch⟩ := seq
  obtain ⟨state, killn⟩ := stn
  refine ⟨by rw [chans], by rw [chans], list, latch, fun c => ?_, image, state, killn, locked, .of_eq ring⟩
  rw [State.chan, State.chan, chans]

/-- One channel's record is written, with a state of the same place. -/
theorem setChan_listsStill (r : ChannelRec) (place : r.state.place = (s.chan c).state.place) :
    ListsStill s (s.setChan c r) := by
  refine ⟨rfl, rfl, rfl, rfl, fun d => ?_, rfl, rfl, rfl, rfl, .of_eq rfl⟩
  by_cases e : d = c
  · rw [e, chan_setChan_self]
    exact place
  · rw [chan_setChan_other _ _ _ _ e]

theorem Moves.of_setChan (r : ChannelRec) : Moves c s (s.setChan c r) :=
  ⟨setChan_load s c r, fun d e => by rw [chan_setChan_other _ _ _ _ e], rfl, rfl⟩

theorem Moves.trans (h : Moves c s t) (k : Moves c t u) : Moves c s u :=
  ⟨h.frame.trans k.frame, fun d e => (k.others d e).trans (h.others d e), k.entries.trans h.entries,
    k.ring.trans h.ring⟩

/-- The units and the Start Sequencer may change beside the channels. -/
theorem Moves.of_chans (frame : LoadFrame s t) (chans : t.chans = s.chans)
    (ring : t.notice.ring = s.notice.ring := by exact rfl) : Moves c s t :=
  ⟨frame, fun d _ => by rw [State.chan, State.chan, chans], by rw [chans], ring⟩

theorem leaveQueue_moves (s : State) (c : Chan) : Moves c s (s.leaveQueue c) := by
  refine ⟨leaveQueue_load s c, fun d _ => by rw [leaveQueue_chan], ?_, ?_⟩
  all_goals
    rw [leaveQueue_eq]
    rfl

/-- What an ON channel's shed does before it takes another state (R82). -/
theorem shedOn_moves (s : State) (cause : ShedCause) (c : Chan) (x : ChState) :
    Moves c s ((s.shedOn cause c).setChState c x) :=
  have off : Moves c s (s.shedOn cause c) := (((Moves.of_chans (clearOutput_load s c) rfl).trans
    (.of_chans (releaseUnits_load _ c) rfl)).trans (.of_setChan _)).trans (.of_setChan _)
  off.trans (.of_setChan _)

end

theorem foldl_keeps {P : State → Prop} {s : State} {f : State → Chan → State} (each : ∀ s c, P s → P (f s c))
    (l : List Chan) (h : P s) : P (l.foldl f s) := by
  induction l generalizing s with
  | nil => exact h
  | cons c l ih => exact ih (each s c h)

theorem mayEnter_of_active {s : State} {x : StationState} (active : s.stn.state = .active)
    (x_mem : x ∈ [.joining, .quiet, .left]) : s.mayEnter x := .inr (.inr ⟨by rw [active]; decide, x_mem⟩)

/-! ### The operations that the blocks share -/

section
variable {P : State → Prop} {s t : State} {c : Chan} (keeps : LoadKeeps P)
include keeps

theorem LoadKeeps.checkHead (h : P s) : P s.checkHead := by
  cases head : s.seq.startList with
  | nil =>
    unfold State.checkHead
    rw [head]
    exact h
  | cons c rest =>
    rw [checkHead_cons head]
    split
    · rename_i ready
      obtain ⟨-, active, high⟩ := (headReady_iff s c).1 ready
      exact keeps.turnOn h head active high
    · exact h

theorem LoadKeeps.toStarting (h : P s) (active : s.stn.state = .active)
    (waiting : (s.chan c).state.isWaiting = true ∨ c ∈ s.chans.queue) : P (s.toStarting c) := by
  rw [toStarting_checkHead]
  exact keeps.checkHead (keeps.start h active waiting)

theorem LoadKeeps.setTable (h : P s) (x : UnitTable) : P (s.setTable x) :=
  keeps.still h (.of_blocks rfl ⟨rfl, rfl⟩ rfl ⟨rfl, rfl⟩)

theorem LoadKeeps.setNotice (h : P s) (x : NoticeUnit) (ring : x.ring = s.notice.ring := by exact rfl) :
    P (s.setNotice x) :=
  keeps.still h (.of_blocks rfl ⟨rfl, rfl⟩ rfl ⟨rfl, rfl⟩ rfl ring)

theorem LoadKeeps.setEvent (h : P s) (e : Event) : P (s.setEvent e) :=
  keeps.still h (.of_blocks rfl ⟨rfl, rfl⟩ rfl ⟨rfl, rfl⟩)

theorem LoadKeeps.bindUnits (h : P s) (active : s.stn.state = .active)
    (waiting : (s.chan c).state.isWaiting = true ∨ c ∈ s.chans.queue) (l : List Nat) :
    P ((s.bindUnits c l).toStarting c) :=
  keeps.toStarting (keeps.setTable h _) active waiting

theorem LoadKeeps.spareCheck (h : P s) : P s.spareCheck := by
  have bound (u : State) (c : Chan) (k : P u ∧ u.stn.state = .active) (fits : u.spareCandidate = some c) :
      P (u.bindSpares c) ∧ (u.bindSpares c).stn.state = .active := by
    obtain ⟨k, active⟩ := k
    exact ⟨keeps.bindUnits k active (.inr (spareCandidate_fits fits).1) _,
      (congrArg (·.state) (bindSpares_load u c).stn).trans active⟩
  by_cases active : s.stn.state = .active
  · exact (spareCheck_keeps (P := fun u => P u ∧ u.stn.state = .active) bound ⟨h, active⟩).1
  · unfold State.spareCheck
    rw [if_neg (mt (isActive_iff s).1 active)]
    exact h

theorem LoadKeeps.enterWaiting (h : P s) (idle : (s.chan c).state.idle = true) (leaving : Bool) :
    P (s.enterWaiting c leaving) := by
  unfold State.enterWaiting
  split
  · exact keeps.join h idle
  · exact keeps.spareCheck (keeps.join h idle)

theorem LoadKeeps.shedNext (h : P s) (off : (s.chan c).state = .off) (leaving : Bool) : P (s.shedNext c leaving) := by
  unfold State.shedNext
  split
  · exact keeps.enterWaiting h (by rw [off]; rfl) leaving
  · exact h

/-- A STARTING channel leaves the start list, and the new head may be checked (R74, R82, R95). -/
theorem LoadKeeps.removeStart (h : P s) (starting : (s.chan c).state = .starting) (moves : Moves c s t)
    (queue : t.chans.queue = s.chans.queue) (seq : t.seq = s.seq) (idle : (t.chan c).state.idle = true)
    (leaving : Bool) : P (t.removeStart c leaving) ∧ (t.removeStart c leaving).chan c = t.chan c := by
  have removed : P (t.removeStart c true) := by
    rw [removeStart_leaving]
    exact keeps.unstart h starting (moves.trans (.of_chans (setSeq_load t _) rfl)) queue
      (by rw [State.setSeq_seq, seq]) idle
  have chan : (t.removeStart c true).chan c = t.chan c := by
    rw [removeStart_leaving]
    rfl
  have gone : c ∉ (t.removeStart c true).seq.startList := by
    rw [removeStart_leaving]
    simp
  obtain e | e := removeStart_cases t c leaving
  all_goals rw [e]
  · exact ⟨removed, chan⟩
  · exact ⟨keeps.checkHead removed, (checkHead_chan gone).trans chan⟩

theorem LoadKeeps.shedChan (h : P s) (cause : ShedCause) (leaving : Bool) (c : Chan) :
    P (s.shedChan cause leaving c) := by
  unfold State.shedChan
  split
  · rename_i m n on
    have off (x : ChState) (idle : x.idle = true) : P ((s.shedOn cause c).setChState c x) :=
      keeps.turnOff h (by rw [on]; rfl) (shedOn_moves s cause c x) rfl rfl (by rw [chan_setChState_self]; exact idle)
    dsimp only
    rw [← shedOn_eq]
    split
    · exact off _ rfl
    · split
      · exact off _ rfl
      · exact keeps.shedNext (off _ rfl) (by rw [chan_setChState_self]) leaving
  · rename_i starting
    have left (x : ChState) (idle : x.idle = true) :=
      keeps.removeStart (t := ((s.releaseUnits c).writeCause c cause).setChState c x) h starting
        (((Moves.of_chans (releaseUnits_load s c) rfl).trans (.of_setChan _)).trans (.of_setChan _)) rfl rfl
        (by rw [chan_setChState_self]; exact idle) leaving
    dsimp only
    split
    · exact (left .parked rfl).1
    · obtain ⟨kept, chan⟩ := left .off rfl
      exact keeps.shedNext kept (by rw [chan, chan_setChState_self]) leaving
  · rename_i e w waiting
    split
    · refine keeps.leave (c := c) h (by rw [waiting]; rfl)
        (((leaveQueue_moves s c).trans (.of_setChan _)).trans (.of_setChan _)) (leaveQueue_queue s c)
        (leaveQueue_seq s c) ?_
      rw [chan_setChState_self]
      rfl
    · exact h
  · exact h

theorem LoadKeeps.stopChan (h : P s) (c : Chan) : P (s.stopChan c) := by
  unfold State.stopChan
  split
  · rename_i m n on
    refine keeps.turnOff (c := c) h (by rw [on]; rfl) ((((Moves.of_chans (clearOutput_load s c) rfl).trans
      (.of_chans (returnUnits_load _ c) rfl)).trans (.of_setChan _)).trans (.of_setChan _)) rfl rfl ?_
    rw [chan_setChState_self]
    dsimp only
    split <;> rfl
  · rename_i starting
    refine (keeps.removeStart (t := (s.returnUnits c).setChState c .off) h starting
      ((Moves.of_chans (returnUnits_load s c) rfl).trans (.of_setChan _)) rfl rfl ?_ false).1
    rw [chan_setChState_self]
    rfl
  · exact h

theorem LoadKeeps.demandAppears (h : P s) (c : Chan) : P (s.demandAppears c) := by
  unfold State.demandAppears
  split
  · rename_i off
    exact keeps.enterWaiting h (by rw [off]; rfl) false
  · rename_i n on
    exact keeps.still h (setChan_listsStill _ (by rw [on]; rfl))
  · exact h

theorem LoadKeeps.demandDisappears (h : P s) (c : Chan) : P (s.demandDisappears c) := by
  unfold State.demandDisappears
  split
  · rename_i e w waiting
    refine keeps.leave (c := c) h (by rw [waiting]; rfl) ((leaveQueue_moves s c).trans (.of_setChan _))
      (leaveQueue_queue s c) (leaveQueue_seq s c) ?_
    rw [chan_setChState_self]
    rfl
  · exact keeps.stopChan h c
  · rename_i m n on
    split
    · exact keeps.stopChan h c
    · exact keeps.still h (setChan_listsStill _ (by rw [on]; rfl))
  · exact h

theorem LoadKeeps.writeInputs (h : P s) (c : Chan) {r : ChannelRec} (state : r.state = (s.chan c).state) :
    P (s.writeInputs c r) := by
  have written : P (s.setChan c r) := keeps.still h (setChan_listsStill r (by rw [state]))
  unfold State.writeInputs
  dsimp only
  split
  · exact written
  · split
    · exact keeps.demandAppears written c
    · exact keeps.demandDisappears written c

/-- A channel in an idle state takes another one. -/
theorem LoadKeeps.setIdle (h : P s) (idle : (s.chan c).state.idle = true) {r : ChannelRec}
    (rests : r.state.idle = true) : P (s.setChan c r) :=
  keeps.rest h idle (.of_setChan r) rfl rfl (by rw [chan_setChan_self]; exact rests)

theorem LoadKeeps.parkChan (h : P s) (c : Chan) : P (s.parkChan c) := by
  have bit : P (s.setChan c { s.chan c with park := true }) := keeps.still h (setChan_listsStill _ rfl)
  have parked (idle : (s.chan c).state.idle = true) :
      P ((s.setChan c { s.chan c with park := true }).setChState c .parked) :=
    keeps.setIdle bit (by rw [chan_setChan_self]; exact idle) rfl
  unfold State.parkChan
  dsimp only
  split
  · rename_i off
    exact parked (by rw [off]; rfl)
  · rename_i cooldown
    exact parked (by rw [cooldown]; rfl)
  · exact keeps.shedChan bit .park false c
  · exact keeps.shedChan bit .park false c
  · exact keeps.shedChan bit .park false c
  · exact bit
  · exact bit

theorem LoadKeeps.unparkChan (h : P s) (c : Chan) : P (s.unparkChan c) := by
  have bit : P (s.setChan c { s.chan c with park := false }) := keeps.still h (setChan_listsStill _ rfl)
  unfold State.unparkChan
  dsimp only
  split
  · rename_i parked
    have freed (x : ChState) (idle : x.idle = true) :
        P ((s.setChan c { s.chan c with park := false }).setChState c x) :=
      keeps.setIdle bit (by rw [chan_setChan_self, parked]; rfl) idle
    split
    · split
      · exact keeps.enterWaiting (freed .off rfl) (by rw [chan_setChState_self]; rfl) false
      · exact freed .off rfl
    · exact freed .cooldown rfl
  · exact bit

theorem LoadKeeps.settle (h : P s) : P s.settle :=
  keeps.still (keeps.clear h) (.of_blocks rfl ⟨rfl, rfl⟩ rfl ⟨rfl, rfl⟩)

end

/-! ### Slot, timers and departures -/

section
variable {P : State → Prop} {s t : State} {c : Chan} (keeps : LoadKeeps P)
include keeps

theorem LoadKeeps.restartWait (h : P s) (c : Chan) : P (s.restartWait c) := by
  unfold State.restartWait
  split
  · rename_i e w waiting
    exact keeps.still h (setChan_listsStill _ (by rw [waiting]; rfl))
  · exact h

theorem LoadKeeps.freeRequester (h : P s) : P s.freeRequester := by
  unfold State.freeRequester
  split
  · split
    · exact keeps.restartWait h _
    · exact h
  · exact h

theorem LoadKeeps.emptySlot (h : P s) : P s.emptySlot := keeps.setNotice (keeps.freeRequester h) _

theorem LoadKeeps.takeWaitExpiry (h : P s) (c : Chan) : P (s.takeWaitExpiry c) := by
  unfold State.takeWaitExpiry
  split
  · rename_i e w waiting
    split
    · have ended : P (s.setChState c (.waiting e (some 0))) :=
        keeps.still h (setChan_listsStill _ (by rw [waiting]; rfl))
      unfold State.offer
      split
      · exact keeps.setNotice (keeps.freeRequester ended) _
      · exact keeps.restartWait ended c
    · exact h
  · exact h

theorem LoadKeeps.takeMinOnExpiry (h : P s) (c : Chan) : P (s.takeMinOnExpiry c) := by
  unfold State.takeMinOnExpiry
  split
  · rename_i m n on
    have reached (k : Nat) : P (s.setChState c (.on m k)) :=
      keeps.still h (setChan_listsStill _ (by rw [on]; rfl))
    dsimp only
    split
    · exact keeps.stopChan (reached _) c
    · exact reached _
  · exact h

theorem LoadKeeps.takeMinOffExpiry (h : P s) (c : Chan) : P (s.takeMinOffExpiry c) := by
  unfold State.takeMinOffExpiry
  split
  · rename_i cooldown
    have off (since : Option Nat) : P (s.setChan c { s.chan c with state := .off, offSince := since }) :=
      keeps.setIdle h (by rw [cooldown]; rfl) rfl
    dsimp only
    split
    · exact keeps.enterWaiting (off _) (by rw [chan_setChan_self]; rfl) false
    · exact off _
  · exact h

theorem LoadKeeps.takeStaggerReached (h : P s) : P s.takeStaggerReached := by
  unfold State.takeStaggerReached
  split
  · exact h
  · exact keeps.checkHead (keeps.still h (.of_blocks rfl ⟨rfl, rfl⟩ rfl ⟨rfl, rfl⟩))

theorem LoadKeeps.takeLevelChange (h : P s) (pins : BitVec 8) : P (s.takeLevelChange pins) := by
  unfold State.takeLevelChange
  split
  · exact foldl_keeps (P := P) (f := State.toggleLevel) (fun u c k => keeps.writeInputs k c rfl) _ h
  · exact h

theorem LoadKeeps.stationShed (h : P s) (cause : ShedCause) : P (s.stationShed cause) := by
  have shed := foldl_keeps (P := P) (f := fun u c => u.shedChan cause true c)
    (fun u c k => keeps.shedChan k cause true c) allChans h
  obtain e | e := stationShed_cases s cause
  all_goals rw [e]
  · exact shed
  · exact keeps.setEvent shed _

theorem LoadKeeps.departing (h : P s) (cause : ShedCause) : P (s.departing cause) := by
  have claimed : P (s.stationShed cause).dropPicture.abandonClaim := by
    rw [abandonClaim_cont_only]
    have dropped : P (s.stationShed cause).dropPicture := keeps.setTable (keeps.stationShed h cause) _
    exact keeps.still dropped (.of_blocks rfl ⟨rfl, rfl⟩ rfl ⟨rfl, rfl⟩)
  have sent : P (s.stationShed cause).dropPicture.abandonClaim.abandonSend := by
    rw [abandonSend_notice_only]
    exact keeps.setNotice claimed _ (abandonSend_ring _)
  have left : P (s.stationShed cause).dropPicture.abandonClaim.departNotice := keeps.setNotice (keeps.emptySlot sent) _
  exact keeps.still left ⟨rfl, rfl, rfl, rfl, fun _ => rfl, rfl, rfl, rfl, rfl, .of_eq rfl⟩

/-- A departure sheds every channel before the station enters its new state (R84, R143). -/
theorem LoadKeeps.depart (h : P s) {cause : ShedCause} (park : cause ≠ .park) {x : StationState} (may : s.mayEnter x) :
    P (s.depart cause x) := by
  have entered : (s.departing cause).mayEnter x := by
    unfold State.mayEnter State.joinOrHalt
    rw [departing_stn]
    exact may
  exact keeps.enter (keeps.departing h cause) (fun _ c => (departing_chan s c cause park).load) entered

/-- An incident record, a departure and an event (R158). -/
theorem LoadKeeps.incident (h : P s) (i : IncidentCause) (c : Option Chan) {cause : ShedCause} (park : cause ≠ .park)
    {x : StationState} (may : s.mayEnter x) (e : Event) : P (((s.writeIncident i c).depart cause x).setEvent e) :=
  keeps.setEvent (keeps.depart (s := s.writeIncident i c) (keeps.still h (.of_blocks rfl ⟨rfl, rfl⟩ rfl ⟨rfl, rfl⟩))
    park may) e

theorem LoadKeeps.faultClash (h : P s) : P s.faultClash :=
  keeps.incident h .clash none (cause := .clash) nofun (.inl rfl) .fault

theorem LoadKeeps.faultDrive (h : P s) (c : Option Chan) : P (s.faultDrive c) :=
  keeps.incident h .drive c (cause := .drive) nofun (.inl rfl) .fault

theorem LoadKeeps.actRequest (h : P s) (active : s.stn.state = .active) (q : Request) : P (s.actRequest q) := by
  cases q with
  | leave => exact keeps.depart h (cause := .leave) nofun (mayEnter_of_active active (by decide))
  | quiet => exact keeps.depart h (cause := .quiet) nofun (mayEnter_of_active active (by decide))

end

end Sys2Proof.Machine

namespace Sys2Proof.Machine

/-! ### Notices, roll ends and the phases of a roll -/

section
variable {P : State → Prop} {s t : State} {c : Chan} (keeps : LoadKeeps P)
include keeps

/-- Lists, latch and station stay where Channel Controller and Start Sequencer are not written. -/
theorem LoadKeeps.blocks (h : P s) (chans : t.chans = s.chans) (seq : t.seq = s.seq)
    (image : t.port.image = s.port.image) (state : t.stn.state = s.stn.state) (killn : t.stn.killnLow = s.stn.killnLow)
    (locked : t.port.locked = s.port.locked := by exact rfl)
    (ring : t.notice.ring = s.notice.ring := by exact rfl) : P t :=
  keeps.still h (.of_blocks chans (by rw [seq]; exact ⟨rfl, rfl⟩) image ⟨state, killn⟩ locked ring)

theorem LoadKeeps.yieldSheds (h : P s) (y : YieldIn) (n count : Nat) : P (yieldSheds y n count s) := by
  induction n generalizing count s with
  | zero => exact h
  | succ n ih =>
    unfold Machine.yieldSheds
    split
    · exact h
    · split
      · exact h
      · exact ih (keeps.setEvent (keeps.shedChan h .yield false _) .shed) _

theorem LoadKeeps.handleYield (h : P s) (y : YieldIn) : P (s.handleYield y) := by
  unfold State.handleYield
  split
  · exact keeps.setEvent h _
  · have fenced : P (s.fenceFor y) := keeps.still h ⟨rfl, rfl, rfl, rfl, fun _ => rfl, rfl, rfl, rfl, rfl, .of_eq rfl⟩
    exact keeps.yieldSheds (keeps.setTable (keeps.setEvent fenced .yieldIn) _) y 8 _

theorem LoadKeeps.dispose (h : P s) (n : StoredNotice) : P (s.dispose n) := by
  have stored : P (s.ringAppend n) := by
    unfold State.ringAppend
    have appended : P (s.setNotice { s.notice with ring := s.notice.ring ++ [n] }) :=
      keeps.still h ⟨rfl, rfl, rfl, rfl, fun _ => rfl, rfl, rfl, rfl, rfl, [n], rfl⟩
    dsimp only
    split
    · split
      · exact keeps.setEvent appended _
      · exact appended
    · exact keeps.setEvent h _
  have compared (l : List Byte) : P ((s.ringAppend n).comparePresence l) := by
    unfold State.comparePresence
    split
    · exact stored
    · exact keeps.setEvent stored _
  unfold State.dispose
  split
  · exact h
  · unfold State.handOff
    split
    · split
      · exact stored
      · split
        · exact compared _
        · split
          · exact keeps.handleYield stored _
          · exact stored
        · exact stored
    · exact stored

theorem LoadKeeps.takeNoticeEnd (h : P s) (form : NoticeForm) : P (s.takeNoticeEnd form) := by
  unfold State.takeNoticeEnd
  split
  · split
    · refine keeps.dispose ?_ _
      exact keeps.blocks h rfl rfl rfl rfl rfl
    · exact h
  · exact h

theorem LoadKeeps.endSend (h : P s) : P s.endSend := by
  have completed (r : SendRecord) : P (s.completeSource r) := by
    have sent : P ((s.setNotice { s.notice with holdoff := s.port.image.holdoffUs }).setEvent .yieldOut) :=
      keeps.setEvent (keeps.setNotice h _) _
    unfold State.completeSource
    split
    · exact keeps.setNotice h _
    · exact keeps.setNotice h _
    · dsimp only
      split
      · split
        · exact keeps.emptySlot sent
        · exact sent
      · exact sent
  unfold State.endSend
  split
  · dsimp only
    split
    · exact keeps.setNotice (completed _) _
    · exact keeps.setNotice h _
  · exact h

theorem LoadKeeps.endNotices (h : P s) : P s.endConflictRun.endSend.endRecv := by
  have run : P s.endConflictRun := by
    unfold State.endConflictRun
    split
    · exact keeps.blocks h rfl rfl rfl rfl rfl
    · exact h
  have sent := keeps.endSend run
  unfold State.endRecv
  split
  · exact sent
  · exact keeps.setNotice sent _

theorem LoadKeeps.endStation (h : P s) (valid : Bool) : P (s.endStation valid) := by
  have timed : P (s.restartBusLoss valid) := by
    unfold State.restartBusLoss
    split
    · exact keeps.blocks h rfl rfl rfl rfl rfl
    · exact h
  have state : (s.restartBusLoss valid).stn.state = s.stn.state := by
    unfold State.restartBusLoss
    split <;> rfl
  have cleared {u : State} (k : P u) : P u.clearMark := keeps.blocks k rfl rfl rfl rfl rfl
  unfold State.endStation
  split
  · rename_i joining
    have counted (n : Nat) : P (s.setStn { s.stn with joinCount := n, countable := false }) :=
      keeps.blocks h rfl rfl rfl rfl rfl
    unfold State.endJoining
    dsimp only
    split
    · exact keeps.activate (counted _) joining
    · exact counted _
  · rename_i active
    refine cleared ?_
    unfold State.endActive
    dsimp only
    split
    · exact keeps.actRequest timed (state.trans active) _
    · exact timed
  all_goals exact cleared h

theorem LoadKeeps.noticeAtEnd (h : P s) (cause : RollEndCause) : P (s.noticeAtEnd cause) := by
  cases cause with
  | check => exact keeps.takeNoticeEnd h _
  | stuck => exact keeps.takeNoticeEnd h _
  | flag => exact h
  | trailing => exact h

theorem LoadKeeps.takeRollEnd (h : P s) (cause : RollEndCause) (order : RollEndOrder) :
    P (s.takeRollEnd cause order) := by
  unfold State.takeRollEnd
  split
  · have ended : P ((s.endConflictRun.endSend.endRecv.setRoll
        (s.endConflictRun.endSend.endRecv.roll.finish s.inFlight cause (s.endValid cause))).setStn
          { s.endConflictRun.endSend.endRecv.stn with silence := 0 }) :=
      keeps.blocks (keeps.endNotices h) rfl rfl rfl rfl rfl
    cases order with
    | checkFirst => exact keeps.endStation (keeps.spareCheck ended) _
    | requestFirst => exact keeps.spareCheck (keeps.endStation ended _)
    | noticeBetween => exact keeps.endStation (keeps.noticeAtEnd (keeps.spareCheck ended) cause) _
  · exact h

theorem LoadKeeps.markSkew (h : P s) (units : List Nat) : P (s.markSkew units) := by
  obtain ⟨-, -, chans, seq, notice⟩ := markSkew_blocks s units
  have frame := markSkew_marks s units
  have locked : (s.markSkew units).port.locked = s.port.locked := by
    unfold State.markSkew
    split <;> rfl
  exact keeps.blocks h chans seq frame.image (by rw [frame.stn]) (by rw [frame.stn]) locked (by rw [notice])

theorem LoadKeeps.takeHoldComplete (h : P s) (units : List Nat) : P (s.takeHoldComplete units) := by
  unfold State.takeHoldComplete
  split
  · have placed : P (s.toPosition s.numUnits) := keeps.blocks h rfl rfl rfl rfl rfl
    have bid {u : State} (k : P u) : P u.formBid := keeps.blocks k rfl rfl rfl rfl rfl
    dsimp only
    split
    · exact bid (keeps.setTable (keeps.markSkew placed units) _)
    · exact bid placed
  · exact h

theorem LoadKeeps.takeClaimResolved (h : P s) (word : BitVec 10) : P (s.takeClaimResolved word) := by
  unfold State.takeClaimResolved
  split
  · have settled : P ((s.toPosition (s.numUnits + 10)).settleClaim word) := keeps.blocks h rfl rfl rfl rfl rfl
    dsimp only
    split
    · exact keeps.faultClash settled
    · exact settled
  · exact h

theorem LoadKeeps.takeByPeer (h : P s) (units : List Nat) : P (s.takeByPeer units) := by
  have marked : P (if s.overlaps units then s.setEvent .overlap else s) := by
    split
    · exact keeps.setEvent h _
    · exact h
  have shed := foldl_keeps (P := P) (f := fun u c => u.shedChan .overlap false c)
    (fun u c k => keeps.shedChan k .overlap false c) (s.overlapped units) (keeps.setTable marked
      ((if s.overlaps units then s.setEvent .overlap else s).table.mapViews (takeView units)))
  unfold State.takeByPeer
  dsimp only
  split
  · exact keeps.setEvent shed _
  · exact shed

theorem LoadKeeps.takeByWinner (h : P s) (active : s.stn.state = .active) (units : List Nat) :
    P (s.takeByWinner units) := by
  have chosen (l : List Nat) (v : View) : P (s.chosenTo l v) := keeps.setTable h _
  unfold State.takeByWinner
  split
  · split
    · exact keeps.takeByPeer (chosen _ _) _
    · split
      · rename_i waiting
        exact keeps.bindUnits h active (.inl waiting) _
      · exact chosen _ _
  · split
    · exact keeps.takeByPeer h units
    · exact h
  · exact keeps.takeByPeer h units

theorem LoadKeeps.takeTakeComplete (h : P s) (units : List Nat) : P (s.takeTakeComplete units) := by
  unfold State.takeTakeComplete
  split
  · have placed : P (s.toPosition (2 * s.numUnits + 10)) := keeps.blocks h rfl rfl rfl rfl rfl
    have marked := keeps.markSkew placed units
    dsimp only
    split
    · split
      · rename_i won
        exact keeps.takeByWinner marked ((isActive_iff _).1 (Bool.and_eq_true_iff.1 won).1) units
      · exact keeps.takeByPeer marked units
    · exact placed
  · exact h

theorem LoadKeeps.takeDriveReport (h : P s) (phase : Phase) (q : Nat) : P (s.takeDriveReport phase q) := by
  have reported : P (s.driveReported phase) := by
    unfold State.driveReported State.dropRecv
    split
    · exact keeps.blocks h rfl rfl rfl rfl rfl
    · exact keeps.blocks h rfl rfl rfl rfl rfl
  unfold State.takeDriveReport
  split
  · exact keeps.faultDrive reported _
  · exact h

theorem LoadKeeps.takeConflict (h : P s) (phase : OwnPhase) : P (s.takeConflict phase) := by
  have effects : P (s.conflictEffects phase) := keeps.blocks h rfl rfl rfl rfl rfl
  unfold State.takeConflict
  split
  · dsimp only
    split
    · exact keeps.faultClash effects
    · exact effects
  · exact h

theorem LoadKeeps.takeStuckLine (h : P s) : P s.takeStuckLine := by
  have disarmed : P s.disarmed := keeps.blocks h rfl rfl rfl rfl rfl
  have report : P s.disarmed.stuckReport := by
    have uncounted : P (s.disarmed.setStn { s.disarmed.stn with joinCount := 0 }) :=
      keeps.blocks disarmed rfl rfl rfl rfl rfl
    unfold State.stuckReport
    split
    · rename_i active
      exact keeps.incident disarmed .stuck none (cause := .stuck) nofun (mayEnter_of_active active (by decide)) .stuck
    · exact keeps.setEvent uncounted _
    · exact keeps.setEvent uncounted _
    · exact keeps.setEvent disarmed _
    · exact keeps.setEvent disarmed _
    · exact keeps.setEvent disarmed _
    · exact disarmed
  unfold State.takeStuckLine
  split
  · exact keeps.blocks report rfl rfl rfl rfl rfl
  · exact h

theorem LoadKeeps.takeBusLossExpiry (h : P s) : P s.takeBusLossExpiry := by
  unfold State.takeBusLossExpiry
  split
  · rename_i runs
    exact keeps.incident h .busLoss none (cause := .busLoss) nofun
      (mayEnter_of_active ((isActive_iff s).1 runs.1) (by decide)) .busLoss
  · exact h

end

/-! ### The rows that write no list, no channel and no output -/

/-- Channel Controller, Start Sequencer, image, lock flag, receive ring, station state and KILLN's sample are as they
were. -/
structure ChannelsStill (s t : State) : Prop where
  chans : t.chans = s.chans
  seq : t.seq = s.seq
  image : t.port.image = s.port.image
  state : t.stn.state = s.stn.state
  killn : t.stn.killnLow = s.stn.killnLow
  locked : t.port.locked = s.port.locked
  ring : t.notice.ring = s.notice.ring

section
variable (s : State)

theorem ChannelsStill.refl : ChannelsStill s s := ⟨rfl, rfl, rfl, rfl, rfl, rfl, rfl⟩

theorem takeSettlingEnd_channels : ChannelsStill s s.takeSettlingEnd := by
  unfold State.takeSettlingEnd
  split <;> exact ⟨rfl, rfl, rfl, rfl, rfl, rfl, rfl⟩

theorem takeCandidateOpen_channels : ChannelsStill s s.takeCandidateOpen := by
  unfold State.takeCandidateOpen
  split <;> exact ⟨rfl, rfl, rfl, rfl, rfl, rfl, rfl⟩

theorem takeOpenNoise_channels (run : Nat) : ChannelsStill s (s.takeOpenNoise run) := by
  unfold State.takeOpenNoise
  split <;> exact ⟨rfl, rfl, rfl, rfl, rfl, rfl, rfl⟩

theorem takeOpenRoll_channels : ChannelsStill s s.takeOpenRoll := by
  unfold State.takeOpenRoll
  split <;> exact ⟨rfl, rfl, rfl, rfl, rfl, rfl, rfl⟩

theorem takeRollStart_channels : ChannelsStill s s.takeRollStart := by
  unfold State.takeRollStart
  split <;> exact ⟨rfl, rfl, rfl, rfl, rfl, rfl, rfl⟩

theorem takeMalformedOpen_channels : ChannelsStill s s.takeMalformedOpen := by
  unfold State.takeMalformedOpen
  split <;> exact ⟨rfl, rfl, rfl, rfl, rfl, rfl, rfl⟩

theorem takeSilenceExpiry_channels : ChannelsStill s s.takeSilenceExpiry := by
  unfold State.takeSilenceExpiry
  split <;> exact ⟨rfl, rfl, rfl, rfl, rfl, rfl, rfl⟩

theorem takeArbitrationLost_channels (bit : Nat) : ChannelsStill s (s.takeArbitrationLost bit) := by
  unfold State.takeArbitrationLost
  split <;> exact ⟨rfl, rfl, rfl, rfl, rfl, rfl, rfl⟩

theorem takeFlagReading_channels (level : Level) : ChannelsStill s (s.takeFlagReading level) := by
  unfold State.takeFlagReading
  split <;> exact ⟨rfl, rfl, rfl, rfl, rfl, rfl, rfl⟩

theorem takeNoticeCharacter_channels (index : Nat) (data : Byte) (framing marker : Bool) :
    ChannelsStill s (s.takeNoticeCharacter index data framing marker) := by
  unfold State.takeNoticeCharacter
  split <;> exact ⟨rfl, rfl, rfl, rfl, rfl, rfl, rfl⟩

theorem finishWrite_channels (r : Reply) : ChannelsStill s (s.finishWrite r) := by
  rw [finishWrite_eq]
  exact ⟨rfl, rfl, rfl, rfl, rfl, rfl, rfl⟩

theorem takeUnknown_channels (code : Byte) : ChannelsStill s (s.takeUnknown code) := by
  unfold State.takeUnknown
  split
  · exact finishWrite_channels s _
  · exact .refl s

/-- LOCK's code is the only one for it (R162). -/
theorem code_of_lock {b : Byte} (h : Command.ofCode b = some .lock) : b = 0x12 := by
  unfold Command.ofCode at h
  split at h
  case h_3 e => exact BitVec.eq_of_toNat_eq e
  all_goals cases h

end

end Sys2Proof.Machine

namespace Sys2Proof.Machine

/-! ### Every row and every CLK period -/

section
variable {P : State → Prop} {s t : State} {c : Chan} (keeps : LoadKeeps P)
include keeps

theorem LoadKeeps.channels (h : P s) (k : ChannelsStill s t) : P t :=
  keeps.blocks h k.chans k.seq k.image k.state k.killn k.locked k.ring

theorem LoadKeeps.writeCommand (h : P s) (x : Operands) (n : Nat) (v : Reply) (e : State → State)
    (effect : v = .accepted → P (e s)) : P (s.writeCommand x n v e) := by
  unfold State.writeCommand
  split
  · split
    · exact keeps.channels (effect ‹_›) (finishWrite_channels _ _)
    · exact keeps.channels h (finishWrite_channels s _)
  · exact keeps.channels h (finishWrite_channels s _)

/-- A read command stages bytes or answers; it writes no more than its effect does. -/
theorem LoadKeeps.readCommand (h : P s) (x : Operands) (n : Nat) (v : Reply) (data : List Byte) (e : State → State)
    (effect : P (e s)) : P (s.readCommand x n v data e) := by
  have staged {u : State} (k : P u) (w : Reply) (bytes : List Byte) : P (u.stageData w bytes) :=
    keeps.blocks k rfl rfl rfl rfl rfl
  unfold State.readCommand
  split
  · split
    · exact staged effect _ _
    · refine staged ?_ _ _
      unfold State.errorFor
      split
      · exact keeps.setEvent h _
      · exact h
  · exact keeps.channels h (finishWrite_channels s _)

/-- A command that takes the channels of its mask one after the other. -/
theorem LoadKeeps.maskCommand (h : P s) (x : Operands) {f : State → Chan → State} (each : ∀ u c, P u → P (f u c)) :
    P (s.writeCommand x 1 s.afterLock fun u => ((chansIn (x.byte 0)).foldl f u).settle) :=
  keeps.writeCommand h x 1 _ (fun u => ((chansIn (x.byte 0)).foldl f u).settle) fun _ =>
    keeps.settle (foldl_keeps each _ h)

theorem LoadKeeps.takeCfgWrite (h : P s) (x : Operands) : P (s.takeCfgWrite x) := by
  refine keeps.writeCommand h x _ _ _ fun accepted => ?_
  have config := inConfig_of_cfgWrite accepted
  unfold State.storeItem
  split
  · exact keeps.reconfigure _ h config
  · exact h

theorem LoadKeeps.request (h : P s) (active : s.stn.state = .active) (q : Request) : P (s.request q) := by
  unfold State.request
  split
  · exact keeps.blocks h rfl rfl rfl rfl rfl
  · exact keeps.actRequest h active q

theorem LoadKeeps.takeLeave (h : P s) (x : Operands) : P (s.takeLeave x) := by
  refine keeps.writeCommand h x _ _ _ fun accepted => keeps.settle ?_
  unfold State.leaveEffect
  split
  · rename_i active
    exact keeps.request h ((isActive_iff s).1 active) .leave
  · refine keeps.depart h (cause := .leave) nofun (.inr (.inr ⟨?_, by decide⟩))
    unfold State.leaveVerdict at accepted
    cases state : s.stn.state <;> simp [state] at accepted ⊢

theorem LoadKeeps.takeQuiet (h : P s) (x : Operands) : P (s.takeQuiet x) := by
  refine keeps.writeCommand h x _ _ _ fun accepted => keeps.settle ?_
  unfold State.quietEffect
  split
  · rename_i active
    exact keeps.request h ((isActive_iff s).1 active) .quiet
  · rename_i away
    refine keeps.enter h (fun active => absurd ((isActive_iff s).2 active) away) (.inr (.inr ⟨?_, by decide⟩))
    unfold State.quietVerdict at accepted
    cases state : s.stn.state <;> simp [state] at accepted ⊢

theorem LoadKeeps.takeJoin (h : P s) (x : Operands) : P (s.takeJoin x) := by
  refine keeps.writeCommand h x _ _ _ fun accepted => keeps.settle (keeps.enter h (fun active => ?_)
    (.inr (.inr ⟨?_, by decide⟩)))
  all_goals unfold State.joinVerdict at accepted
  · simp [active] at accepted
  · cases state : s.stn.state <;> simp [state] at accepted ⊢

theorem LoadKeeps.takeClearFault (h : P s) (x : Operands) : P (s.takeClearFault x) := by
  refine keeps.writeCommand h x _ _ _ fun accepted => keeps.settle (keeps.enter h (fun active => ?_) (.inr (.inl rfl)))
  unfold State.clearFaultVerdict at accepted
  simp [active] at accepted

theorem LoadKeeps.softReset (h : P s) : P s.softReset := by
  have left : P (s.depart .reset s.joinOrHalt) := keeps.depart h (cause := .reset) nofun (.inr (.inl rfl))
  exact keeps.settle (keeps.still left (.of_blocks rfl ⟨rfl, rfl⟩ rfl ⟨rfl, rfl⟩))

/-- Each command of the local port; what LOCK and POP do is given. -/
theorem LoadKeeps.runCommand (h : P s) (k : Command) (x : Operands)
    (lock : k = .lock → s.lockVerdict = .accepted → P s.lockBlocks)
    (pop : k = .pop → P (s.setNotice { s.notice with ring := s.notice.ring.tail })) : P (s.runCommand k x) := by
  have reads (n : Nat) (v : Reply) (data : List Byte) : P (s.readCommand x n v data id) :=
    keeps.readCommand h x n v data id h
  cases k with
  | cfgWrite => exact keeps.takeCfgWrite h x
  | lock => exact keeps.writeCommand h x 0 s.lockVerdict State.lockBlocks (lock rfl)
  | demandSet => exact keeps.maskCommand h x (f := State.writeSoft true) fun u c k => keeps.writeInputs k c rfl
  | demandClear => exact keeps.maskCommand h x (f := State.writeSoft false) fun u c k => keeps.writeInputs k c rfl
  | park => exact keeps.maskCommand h x fun u c k => keeps.parkChan k c
  | unpark => exact keeps.maskCommand h x fun u c k => keeps.unparkChan k c
  | send =>
    exact keeps.writeCommand h x _ _ (fun u => (u.appendTx (x.byte 0) (x.bytes.drop 2)).settle) fun _ =>
      keeps.settle (keeps.setNotice h _)
  | yield =>
    exact keeps.writeCommand h x _ _ (fun u => (u.setSlot (some (portRequest (x.byte 0) (x.byte 1) (x.byte 2)))).settle)
      fun _ => keeps.settle (keeps.setNotice h _)
  | clearEvents =>
    refine keeps.writeCommand h x 2 .accepted (fun u => u.setPort { u.port with events := _ }) fun _ => ?_
    exact keeps.blocks h rfl rfl rfl rfl rfl
  | setEnables =>
    refine keeps.writeCommand h x 2 .accepted (fun u => u.setPort { u.port with enables := _ }) fun _ => ?_
    exact keeps.blocks h rfl rfl rfl rfl rfl
  | join => exact keeps.takeJoin h x
  | leave => exact keeps.takeLeave h x
  | quiet => exact keeps.takeQuiet h x
  | clearFault => exact keeps.takeClearFault h x
  | softReset => exact keeps.writeCommand h x 0 s.afterLock State.softReset fun _ => keeps.softReset h
  | pop =>
    exact keeps.readCommand h x 0 s.popVerdict s.popData
      (fun u => u.setNotice { u.notice with ring := u.notice.ring.tail }) (pop rfl)
  | readIncident =>
    exact keeps.readCommand h x 0 .accepted (incidentBytes s.stn.incident)
      (fun u => u.setStn { u.stn with incident := none }) (keeps.blocks h rfl rfl rfl rfl rfl)
  | cfgRead =>
    change P (s.takeCfgRead x)
    unfold State.takeCfgRead
    split <;> exact reads _ _ _
  | readUnit =>
    change P (s.takeReadUnit x)
    unfold State.takeReadUnit
    split <;> exact reads _ _ _
  | readChannel =>
    change P (s.takeReadChannel x)
    unfold State.takeReadChannel
    split <;> exact reads _ _ _
  | readQueue => exact reads 0 .accepted s.queueBytes
  | readStation => exact reads 0 .accepted s.stationBytes
  | readEvents => exact reads 0 .accepted [(s.port.events >>> 8).setWidth 8, s.port.events.setWidth 8]

/-- The rise of CSN ends a write command, never POP; where it is LOCK, what that does is given. -/
theorem LoadKeeps.takeCsnRise (h : P s)
    (lock : s.port.rx.code = 0x12 → s.lockVerdict = .accepted → P s.lockBlocks) : P s.takeCsnRise := by
  have idle {u : State} (k : P u) : P u.rxIdle := keeps.blocks k rfl rfl rfl rfl rfl
  have closed : P s.closeTransaction := by
    unfold State.closeTransaction
    split
    · exact keeps.channels h (takeUnknown_channels s _)
    · rename_i k named
      split
      · exact keeps.channels h (finishWrite_channels s _)
      · rename_i written
        refine keeps.runCommand h k _ (fun e => lock (code_of_lock (e ▸ named))) fun e => ?_
        rw [e] at written
        exact absurd rfl written
  unfold State.takeCsnRise
  split
  · exact idle closed
  · exact idle closed
  all_goals exact idle h

/-- The low edge of KILLN is a sample, and a departure to HALTED where the station is in a state that ends with it
(R149). -/
theorem LoadKeeps.killnLow (sampled : P s.killnSampled) : P s.takeKillnLow.settle := by
  have low : s.killnSampled.stn.killnLow = true := by
    rw [killnSampled_eq]
    rfl
  refine keeps.settle ?_
  by_cases live : s.stn.state ∈ [.joining, .active, .quiet, .left]
  · have halts : (s.killnSampled.writeIncident .kill none).joinOrHalt = .halted := if_pos low
    have written : P (s.killnSampled.writeIncident .kill none) := keeps.blocks sampled rfl rfl rfl rfl rfl
    rw [takeKillnLow_halts s live]
    exact keeps.depart written (cause := .kill) nofun (.inr (.inl halts.symm))
  · have out : s.stn.state ∈ [.config, .halted, .faulted] := by
      cases e : s.stn.state <;> simp [e] at live ⊢
    rw [takeKillnLow_stays s out]
    exact sampled

/-- The high edge is a sample, and an entry to JOINING out of HALTED (R150). -/
theorem LoadKeeps.killnHigh (sampled : P (s.setStn { s.stn with killnLow := false })) : P s.takeKillnHigh.settle := by
  refine keeps.settle ?_
  rw [takeKillnHigh_eq]
  split
  · rename_i halted
    exact keeps.enter sampled (fun active => absurd (halted.symm.trans active) nofun) (.inr (.inl rfl))
  · exact sampled

/-- Every row, where those of KILLN, POR, RESET, LOCK and POP are given. -/
theorem LoadKeeps.fire (low : ∀ s, P s → P s.takeKillnLow.settle) (high : ∀ s, P s → P s.takeKillnHigh.settle) (h : P s)
    (i : Instr) (reset : i = .por ∨ i = .reset → P (s.fire i))
    (lock : (∃ x, i = .lock x) ∨ i = .csnRise ∧ s.port.rx.code = 0x12 → s.lockVerdict = .accepted → P s.lockBlocks)
    (pop : (∃ x, i = .pop x) → P (s.setNotice { s.notice with ring := s.notice.ring.tail })) : P (s.fire i) := by
  cases i with
  | por => exact reset (.inl rfl)
  | reset => exact reset (.inr rfl)
  | killnLow => exact low s h
  | killnHigh => exact high s h
  | filteredLevelChange pins => exact keeps.settle (keeps.takeLevelChange h pins)
  | settlingEnd => exact keeps.channels h (takeSettlingEnd_channels s)
  | openRoll => exact keeps.channels h (takeOpenRoll_channels s)
  | rollStart => exact keeps.settle (keeps.channels h (takeRollStart_channels s))
  | malformedOpen => exact keeps.channels h (takeMalformedOpen_channels s)
  | holdComplete units => exact keeps.settle (keeps.takeHoldComplete h units)
  | arbitrationLost bit => exact keeps.channels h (takeArbitrationLost_channels s bit)
  | claimResolved word => exact keeps.settle (keeps.takeClaimResolved h word)
  | takeComplete units => exact keeps.settle (keeps.takeTakeComplete h units)
  | flagReading level => exact keeps.channels h (takeFlagReading_channels s level)
  | noticeCharacter index data framing marker =>
    exact keeps.channels h (takeNoticeCharacter_channels s index data framing marker)
  | noticeEnd form => exact keeps.settle (keeps.takeNoticeEnd h form)
  | rollEnd cause order => exact keeps.settle (keeps.takeRollEnd h cause order)
  | driveReport phase position => exact keeps.settle (keeps.takeDriveReport h phase position)
  | conflict phase => exact keeps.settle (keeps.takeConflict h phase)
  | stuckLine => exact keeps.settle (keeps.takeStuckLine h)
  | silenceTimerExpiry => exact keeps.channels h (takeSilenceExpiry_channels s)
  | busLossExpiry => exact keeps.settle (keeps.takeBusLossExpiry h)
  | lingerExpiry unit => exact keeps.settle (keeps.setTable h _)
  | waitTimerExpiry c => exact keeps.settle (keeps.takeWaitExpiry h c)
  | minOnExpiry c => exact keeps.settle (keeps.takeMinOnExpiry h c)
  | minOffExpiry c => exact keeps.settle (keeps.takeMinOffExpiry h c)
  | fenceExpiry sender => exact keeps.still h ⟨rfl, rfl, rfl, rfl, fun _ => rfl, rfl, rfl, rfl, rfl, .of_eq rfl⟩
  | yieldHoldoffExpiry => exact keeps.setNotice h _
  | staggerReached => exact keeps.settle (keeps.takeStaggerReached h)
  | statusCapture => exact keeps.blocks h rfl rfl rfl rfl rfl
  | unknownCommand code => exact keeps.channels h (takeUnknown_channels s code)
  | candidateOpen => exact keeps.channels h (takeCandidateOpen_channels s)
  | openNoise run => exact keeps.channels h (takeOpenNoise_channels s run)
  | csnRise => exact keeps.takeCsnRise h fun code => lock (.inr ⟨rfl, code⟩)
  | cfgWrite x => exact keeps.runCommand h .cfgWrite x nofun nofun
  | cfgRead x => exact keeps.runCommand h .cfgRead x nofun nofun
  | lock x => exact keeps.runCommand h .lock x (fun _ => lock (.inl ⟨x, rfl⟩)) nofun
  | demandSet x => exact keeps.runCommand h .demandSet x nofun nofun
  | demandClear x => exact keeps.runCommand h .demandClear x nofun nofun
  | park x => exact keeps.runCommand h .park x nofun nofun
  | unpark x => exact keeps.runCommand h .unpark x nofun nofun
  | send x => exact keeps.runCommand h .send x nofun nofun
  | yield x => exact keeps.runCommand h .yield x nofun nofun
  | pop x => exact keeps.runCommand h .pop x nofun fun _ => pop ⟨x, rfl⟩
  | readUnit x => exact keeps.runCommand h .readUnit x nofun nofun
  | readChannel x => exact keeps.runCommand h .readChannel x nofun nofun
  | readQueue x => exact keeps.runCommand h .readQueue x nofun nofun
  | readStation x => exact keeps.runCommand h .readStation x nofun nofun
  | readIncident x => exact keeps.runCommand h .readIncident x nofun nofun
  | readEvents x => exact keeps.runCommand h .readEvents x nofun nofun
  | clearEvents x => exact keeps.runCommand h .clearEvents x nofun nofun
  | setEnables x => exact keeps.runCommand h .setEnables x nofun nofun
  | join x => exact keeps.runCommand h .join x nofun nofun
  | leave x => exact keeps.runCommand h .leave x nofun nofun
  | quiet x => exact keeps.runCommand h .quiet x nofun nofun
  | clearFault x => exact keeps.runCommand h .clearFault x nofun nofun
  | softReset x => exact keeps.runCommand h .softReset x nofun nofun

end

theorem advanceChan_place (s : State) (c : Chan) : (s.advanceChan c).state.place = (s.chan c).state.place := by
  unfold State.advanceChan
  cases h : (s.chan c).state <;> simp only [h] <;> rfl

section
variable {P : State → Prop} {s t : State} {c : Chan} (keeps : RowKeeps P)
include keeps

theorem RowKeeps.fire (low : ∀ s, P s → P s.takeKillnLow.settle) (high : ∀ s, P s → P s.takeKillnHigh.settle) (h : P s)
    (i : Instr) : P (s.fire i) := by
  refine keeps.toLoadKeeps.fire low high h i (fun e => ?_) (fun _ _ => keeps.lock s) fun _ => keeps.pop h
  obtain rfl | rfl := e
  all_goals exact keeps.reset rfl rfl rfl

/-- Between its rows a CLK period writes no list, no place of a channel and no output. -/
theorem RowKeeps.tickKeeps (low : ∀ s, P s → P s.takeKillnLow.settle) (high : ∀ s, P s → P s.takeKillnHigh.settle) :
    TickKeeps P where
  fire i h := keeps.fire low high h i
  write h k := keeps.still h (.of_blocks k.chans (by rw [k.seq]; exact ⟨rfl, rfl⟩) (by rw [k.port])
    (by rw [k.stn]; exact ⟨rfl, rfl⟩) (by rw [k.port]) (by rw [k.notice]))
  advanceTimers {s} h := keeps.still h ⟨rfl, rfl, rfl, rfl,
    fun c => (congrArg (fun r => r.state.place) (chan_ofFn s s.advanceChan s.advanceTimers.chans rfl c)).trans
      (advanceChan_place s c), rfl, rfl, rfl, rfl, .of_eq rfl⟩
  sampleFilters {s} h := keeps.still h ⟨rfl, rfl, rfl, rfl,
    fun c => congrArg (fun r => r.state.place) (chan_ofFn s s.sampleFilter s.sampleFilters.chans rfl c), rfl, rfl, rfl,
    rfl, .of_eq rfl⟩

/-- What the elementary moves keep, every step keeps. -/
theorem RowKeeps.step (low : ∀ s, P s → P s.takeKillnLow.settle) (high : ∀ s, P s → P s.takeKillnHigh.settle) (h : P s)
    (taken : Machine.step s = .next t) : P t := by
  unfold Machine.step at taken
  split at taken
  · cases taken
    exact (keeps.tickKeeps low high).tick h
  · rename_i rest _
    rw [exec_eq_fire] at taken
    cases taken
    have popped : P (s.setPending rest) := keeps.blocks h rfl rfl rfl rfl rfl
    exact keeps.fire low high popped _

end

end Sys2Proof.Machine

namespace Sys2Proof.Machine

/-! ### Demand queue and start list match the channels' states (R70, R80, R91) -/

/-- The order of two queued channels: by priority, and within one by entry time (R80). -/
def QueuedBefore (s : State) (c d : Chan) : Prop :=
  s.port.image.priority d ≤ s.port.image.priority c ∧
    (s.port.image.priority d = s.port.image.priority c → entryStamp s c < entryStamp s d)

/-- A WAITING channel's entry time. -/
def ChState.stamp : ChState → Nat
  | .waiting e _ => e
  | _ => 0

theorem entryStamp_eq (s : State) (c : Chan) : entryStamp s c = (s.chan c).state.stamp := rfl

theorem place_stamp (x : ChState) : x.place.stamp = x.stamp := by cases x <;> rfl

/-- The parts of QueuesMatchStates by name. -/
structure QueuesMatch (s : State) : Prop where
  nodup : s.chans.queue.Nodup
  queued : ∀ c, c ∈ s.chans.queue ↔ (s.chan c).state.isWaiting = true
  order : s.chans.queue.Pairwise (QueuedBefore s)
  stamps : ∀ c ∈ s.chans.queue, entryStamp s c < s.chans.entries
  startNodup : s.seq.startList.Nodup
  starting : ∀ c, c ∈ s.seq.startList ↔ (s.chan c).state = .starting
  config : s.stn.state = .config → ∀ c, (s.chan c).state = .disabled

theorem queuesMatch_iff (s : State) : QueuesMatchStates s ↔ QueuesMatch s :=
  ⟨fun ⟨a, b, c, d, e, f, g⟩ => ⟨a, b, c, d, e, f, g⟩, fun ⟨a, b, c, d, e, f, g⟩ => ⟨a, b, c, d, e, f, g⟩⟩

section
variable {q : Chan → Nat} {c d : Chan} {l : List Chan}

/-- A new entry stands behind every one of no lower priority that leads the queue. -/
theorem insertQueue_eq (q : Chan → Nat) (c : Chan) (l : List Chan) : insertQueue q c l =
    l.takeWhile (fun d => decide (q c ≤ q d)) ++ c :: l.dropWhile fun d => decide (q c ≤ q d) := by
  induction l with
  | nil => rfl
  | cons d l ih =>
    unfold insertQueue
    split
    · rename_i le
      simp [le, ih]
    · rename_i lt
      simp [lt]

theorem higher_of_mem_takeWhile (ahead : d ∈ l.takeWhile fun d => decide (q c ≤ q d)) : q c ≤ q d := by
  simpa using List.mem_takeWhile_imp ahead

/-- In a queue in order of priority everything behind the new entry is of lower priority. -/
theorem lower_of_mem_dropWhile (order : l.Pairwise fun a b => q b ≤ q a)
    (behind : d ∈ l.dropWhile fun d => decide (q c ≤ q d)) : q d < q c := by
  induction l with
  | nil => simp at behind
  | cons a l ih =>
    obtain ⟨first, rest⟩ := List.pairwise_cons.1 order
    by_cases le : q c ≤ q a
    · simp only [List.dropWhile_cons, le, decide_true, if_true] at behind
      exact ih rest behind
    · simp only [List.dropWhile_cons, le, decide_false, Bool.false_eq_true, if_false] at behind
      obtain rfl | later := List.mem_cons.1 behind
      · exact not_le.1 le
      · exact (first d later).trans_lt (not_le.1 le)

end

section
variable {s t : State} {c d : Chan}

theorem entryStamp_of_place (h : (t.chan c).state.place = (s.chan c).state.place) : entryStamp t c = entryStamp s c :=
  calc entryStamp t c = (t.chan c).state.place.stamp := (place_stamp _).symm
    _ = (s.chan c).state.place.stamp := by rw [h]
    _ = entryStamp s c := place_stamp _

theorem QueuedBefore.congr {a b : Chan} (h : QueuedBefore s a b) (image : t.port.image = s.port.image)
    (first : entryStamp t a = entryStamp s a) (second : entryStamp t b = entryStamp s b) : QueuedBefore t a b := by
  unfold QueuedBefore
  rw [image, first, second]
  exact h

theorem QueuesMatch.still (h : QueuesMatch s) (k : ListsStill s t) : QueuesMatch t := by
  have stamp (d : Chan) : entryStamp t d = entryStamp s d := entryStamp_of_place (k.place d)
  refine ⟨by rw [k.queue]; exact h.nodup, fun d => ?_, ?_, fun d queued => ?_, by rw [k.list]; exact h.startNodup,
    fun d => ?_, fun config d => ?_⟩
  · rw [k.queue, h.queued, ← place_isWaiting, ← k.place, place_isWaiting]
  · rw [k.queue]
    exact h.order.imp fun before => before.congr k.image (stamp _) (stamp _)
  · rw [stamp, k.entries]
    exact h.stamps d (k.queue ▸ queued)
  · rw [k.list, h.starting, ← place_starting, ← k.place, place_starting]
  · rw [← place_disabled, k.place, place_disabled]
    exact h.config (k.state ▸ config) d

/-- Another state of the station, or another sample of KILLN. -/
theorem QueuesMatch.restated (h : QueuesMatch s) (chans : t.chans = s.chans)
    (list : t.seq.startList = s.seq.startList) (image : t.port.image = s.port.image)
    (config : t.stn.state = .config → s.stn.state = .config) : QueuesMatch t := by
  have chan (d : Chan) : t.chan d = s.chan d := by rw [State.chan, State.chan, chans]
  have stamp (d : Chan) : entryStamp t d = entryStamp s d := entryStamp_of_place (by rw [chan])
  refine ⟨by rw [chans]; exact h.nodup, fun d => ?_, ?_, fun d queued => ?_, by rw [list]; exact h.startNodup,
    fun d => ?_, fun now d => ?_⟩
  · rw [chans, chan]
    exact h.queued d
  · rw [chans]
    exact h.order.imp fun before => before.congr image (stamp _) (stamp _)
  · rw [stamp, chans]
    exact h.stamps d (chans ▸ queued)
  · rw [list, chan]
    exact h.starting d
  · rw [chan]
    exact h.config (config now) d

/-- Neither list holds a channel that is neither WAITING nor STARTING. -/
theorem QueuesMatch.unlisted (h : QueuesMatch s) (queue : s.chans.queue = []) (list : s.seq.startList = []) (c : Chan) :
    (s.chan c).state.isWaiting = false ∧ (s.chan c).state ≠ .starting := by
  have queued := h.queued c
  have starting := h.starting c
  rw [queue] at queued
  rw [list] at starting
  simpa using And.intro queued starting

theorem QueuesMatch.of_unlisted (queue : s.chans.queue = []) (list : s.seq.startList = [])
    (states : ∀ c, (s.chan c).state.isWaiting = false ∧ (s.chan c).state ≠ .starting)
    (config : s.stn.state = .config → ∀ c, (s.chan c).state = .disabled) : QueuesMatch s := by
  refine ⟨?_, fun c => ?_, ?_, ?_, ?_, fun c => ?_, config⟩
  all_goals simp [queue, list, states]

theorem QueuesMatch.not_config (h : QueuesMatch s) (enabled : (s.chan c).state ≠ .disabled) : s.stn.state ≠ .config :=
  fun config => enabled (h.config config c)

/-- A channel that is not WAITING leaves the queue as it is when it is taken out of it. -/
theorem QueuesMatch.filter_queue (h : QueuesMatch s) (waiting : (s.chan c).state.isWaiting = false) :
    s.chans.queue.filter (· ≠ c) = s.chans.queue := by
  refine List.filter_eq_self.2 fun d queued => decide_eq_true fun e => ?_
  have waits := (h.queued d).1 queued
  rw [e, waiting] at waits
  cases waits

/-- The list parts for a channel that takes a state other than WAITING and leaves the queue. -/
theorem QueuesMatch.moved (h : QueuesMatch s) (enabled : (s.chan c).state ≠ .disabled)
    (others : ∀ d, d ≠ c → (t.chan d).state = (s.chan d).state) (entries : t.chans.entries = s.chans.entries)
    (image : t.port.image = s.port.image) (state : t.stn.state = s.stn.state)
    (queue : t.chans.queue = s.chans.queue.filter (· ≠ c)) (leaves : (t.chan c).state.isWaiting = false)
    (nodup : t.seq.startList.Nodup) (list : ∀ d, d ≠ c → (d ∈ t.seq.startList ↔ d ∈ s.seq.startList))
    (starts : c ∈ t.seq.startList ↔ (t.chan c).state = .starting) : QueuesMatch t := by
  have stamp (d : Chan) (e : d ≠ c) : entryStamp t d = entryStamp s d := entryStamp_of_place (by rw [others d e])
  have kept (d : Chan) (queued : d ∈ s.chans.queue.filter (· ≠ c)) : d ∈ s.chans.queue ∧ d ≠ c := by
    simpa using queued
  refine ⟨by rw [queue]; exact h.nodup.filter _, fun d => ?_, ?_, fun d queued => ?_, nodup, fun d => ?_,
    fun config => absurd (state ▸ config) (h.not_config enabled)⟩
  · rw [queue]
    by_cases e : d = c
    · simp [e, leaves]
    · simp [e, others d e, h.queued]
  · rw [queue]
    refine (h.order.filter _).imp_of_mem fun {a b} first second before => ?_
    exact before.congr image (stamp a (kept a first).2) (stamp b (kept b second).2)
  · obtain ⟨queued, e⟩ := kept d (queue ▸ queued)
    rw [stamp d e, entries]
    exact h.stamps d queued
  · by_cases e : d = c
    · rw [e]
      exact starts
    · rw [list d e, others d e]
      exact h.starting d

/-- A new entry comes behind those of its priority and before those of a lower one (R72, R80). -/
theorem QueuesMatch.joined (h : QueuesMatch s) (idle : (s.chan c).state.idle = true) : QueuesMatch (s.joinQueue c) := by
  obtain ⟨waiting, -, -, starting, enabled⟩ := idle_tests idle
  have queue : (s.joinQueue c).chans.queue = insertQueue s.port.image.priority c s.chans.queue := rfl
  have absent : c ∉ s.chans.queue := fun queued => by simp [(h.queued c).1 queued] at waiting
  have self : ((s.joinQueue c).chan c).state = .waiting s.chans.entries (s.fullWait c) := by rw [joinQueue_chan_self]
  have other (d : Chan) (e : d ≠ c) : (s.joinQueue c).chan d = s.chan d := joinQueue_chan_other s c d e
  have stamp (d : Chan) (queued : d ∈ s.chans.queue) : entryStamp (s.joinQueue c) d = entryStamp s d :=
    entryStamp_of_place (by rw [other d fun e => absent (e ▸ queued)])
  have newest : entryStamp (s.joinQueue c) c = s.chans.entries := by rw [entryStamp_eq, self]; rfl
  refine ⟨?_, fun d => ?_, ?_, fun d queued => ?_, h.startNodup, fun d => ?_, fun config => absurd config
    (h.not_config enabled)⟩
  · rw [queue, insertQueue_eq, List.nodup_middle, List.takeWhile_append_dropWhile]
    exact List.nodup_cons.2 ⟨absent, h.nodup⟩
  · rw [queue, mem_insertQueue]
    by_cases e : d = c
    · rw [e, self]
      simp [ChState.isWaiting]
    · rw [other d e]
      simp [e, h.queued]
  · have sorted : s.chans.queue.Pairwise (QueuedBefore (s.joinQueue c)) :=
      h.order.imp_of_mem fun first second before => before.congr rfl (stamp _ first) (stamp _ second)
    rw [queue, insertQueue_eq]
    refine List.pairwise_append.2 ⟨sorted.sublist (List.takeWhile_sublist _), List.pairwise_cons.2
      ⟨fun d behind => ?_, sorted.sublist (List.dropWhile_sublist _)⟩, fun a ahead b behind => ?_⟩
    · have lower := lower_of_mem_dropWhile (h.order.imp And.left) behind
      exact ⟨lower.le, fun e => absurd e (Nat.ne_of_lt lower)⟩
    · obtain rfl | behind := List.mem_cons.1 behind
      · have queued := (List.takeWhile_sublist _).subset ahead
        refine ⟨higher_of_mem_takeWhile ahead, fun _ => ?_⟩
        rw [stamp a queued, newest]
        exact h.stamps a queued
      · have lower := lower_of_mem_dropWhile (h.order.imp And.left) behind
        have higher := higher_of_mem_takeWhile ahead
        exact ⟨(lower.trans_le higher).le, fun e => absurd e (Nat.ne_of_lt (lower.trans_le higher))⟩
  · obtain rfl | queued := (mem_insertQueue _ _ _ _).1 (queue ▸ queued)
    · rw [newest]
      exact Nat.lt_succ_self _
    · rw [stamp d queued]
      exact (h.stamps d queued).trans (Nat.lt_succ_self _)
  · refine (h.starting d).trans ?_
    by_cases e : d = c
    · rw [e, self]
      simp [starting]
    · rw [other d e]

theorem mayEnter_ne_config {x : StationState} (may : s.mayEnter x) : x ≠ .config := by
  obtain rfl | rfl | ⟨-, may⟩ := may
  · nofun
  · exact joinOrHalt_ne_config s
  · rintro rfl
    simp at may

/-- Demand queue and start list match the states through every elementary move. -/
theorem queuesMatch_keeps : RowKeeps QueuesMatchStates := by
  refine { toLoadKeeps := ⟨?still, ?join, ?leave, ?start, ?turnOn, ?turnOff, ?unstart, ?rest, ?clear, ?enter, ?activate,
    ?reconfigure⟩, reset := ?reset, lock := ?lock, pop := ?pop }
  all_goals simp only [queuesMatch_iff]
  case still => exact QueuesMatch.still
  case join => exact QueuesMatch.joined
  case leave =>
    intro s t c h waiting moves queue seq idle
    obtain ⟨-, -, starting, enabled⟩ := waiting_tests waiting
    obtain ⟨out, -, -, unstarted, -⟩ := idle_tests idle
    refine h.moved enabled moves.others moves.entries (by rw [moves.frame.port]) (by rw [moves.frame.stn]) queue out
      (by rw [seq]; exact h.startNodup) (fun d _ => by rw [seq]) ?_
    rw [seq, h.starting]
    simp [starting, unstarted]
  case start =>
    intro s c h _ waits
    have waiting := waits.elim id (h.queued c).1
    obtain ⟨-, -, starting, enabled⟩ := waiting_tests waiting
    have absent : c ∉ s.seq.startList := fun started => starting ((h.starting c).1 started)
    obtain ⟨-, -, stn, port, -, queue⟩ := appended_blocks s c
    have list : (s.appended c).seq.startList = s.seq.startList ++ [c] := rfl
    refine h.moved enabled (fun d e => by rw [appended_chan_other e]) ?_ (by rw [port]) (by rw [stn]) queue
      (by rw [appended_chan_self]; rfl) ?_ (fun d e => by rw [list]; simp [e]) (by rw [list]; simp)
    · unfold State.appended
      rw [leaveQueue_eq]
      rfl
    · rw [list]
      exact List.nodup_append.2 ⟨h.startNodup, List.nodup_singleton c, fun a started b e => by
        rintro rfl
        exact absent (List.mem_singleton.1 e ▸ started)⟩
  case turnOn =>
    intro s c rest h list _ _
    have starting := (h.starting c).1 (by rw [list]; exact List.mem_cons_self)
    have nodup := h.startNodup
    rw [list, List.nodup_cons] at nodup
    have tail : (s.turnOn c).seq.startList = rest := by rw [turnOn_seq, list]; rfl
    have on : ((s.turnOn c).chan c).state = .on false 0 := by rw [turnOn_chan_self]
    refine h.moved (by rw [starting]; nofun) (fun d e => by rw [turnOn_chan_other e]) rfl rfl rfl
      (h.filter_queue (by rw [starting]; rfl)).symm (by rw [on]; rfl) (by rw [tail]; exact nodup.2)
      (fun d e => by rw [tail, list]; simp [e]) ?_
    rw [tail, on]
    simp [nodup.1]
  case turnOff =>
    intro s t c h on moves queue seq idle
    obtain ⟨out, -, -, unstarted, -⟩ := idle_tests idle
    have waiting : (s.chan c).state.isWaiting = false ∧ (s.chan c).state ≠ .starting ∧
        (s.chan c).state ≠ .disabled := by
      cases e : (s.chan c).state <;> simp_all [ChState.isOn, ChState.isWaiting]
    obtain ⟨waiting, starting, enabled⟩ := waiting
    have list : t.seq.startList = s.seq.startList := by rw [seq]; rfl
    refine h.moved enabled moves.others moves.entries (by rw [moves.frame.port]) (by rw [moves.frame.stn])
      (queue.trans (h.filter_queue waiting).symm) out (by rw [list]; exact h.startNodup) (fun d _ => by rw [list]) ?_
    rw [list, h.starting]
    simp [starting, unstarted]
  case unstart =>
    intro s t c h starting moves queue seq idle
    obtain ⟨out, -, -, unstarted, -⟩ := idle_tests idle
    have list : t.seq.startList = s.seq.startList.filter (· ≠ c) := by rw [seq]
    refine h.moved (by rw [starting]; nofun) moves.others moves.entries (by rw [moves.frame.port])
      (by rw [moves.frame.stn]) (queue.trans (h.filter_queue (by rw [starting]; rfl)).symm) out
      (by rw [list]; exact h.startNodup.filter _) (fun d e => by rw [list]; simp [e]) ?_
    rw [list]
    simp [unstarted]
  case rest =>
    intro s t c h idle moves queue seq rests
    obtain ⟨waiting, -, -, starting, enabled⟩ := idle_tests idle
    obtain ⟨out, -, -, unstarted, -⟩ := idle_tests rests
    refine h.moved enabled moves.others moves.entries (by rw [moves.frame.port]) (by rw [moves.frame.stn])
      (queue.trans (h.filter_queue waiting).symm) out (by rw [seq]; exact h.startNodup) (fun d _ => by rw [seq]) ?_
    rw [seq, h.starting]
    simp [starting, unstarted]
  case clear =>
    intro s h
    unfold State.holdClear
    split
    · exact h
    · exact h.restated rfl rfl rfl id
  case enter =>
    intro s x h _ may
    have frame := enterState_frame s x
    refine h.restated frame.chans (by cases x <;> rfl) (by rw [frame.port]) fun config => ?_
    rw [(enterState_stn s x).1] at config
    exact absurd config (mayEnter_ne_config may)
  case activate => exact fun h _ => h.restated rfl rfl rfl nofun
  case pop => exact fun h => h.restated rfl rfl rfl id
  case reset =>
    intro t chans seq state
    have chan (c : Chan) : (t.chan c).state = .disabled := by
      rw [State.chan, chans]
      fin_cases c <;> rfl
    exact .of_unlisted (by rw [chans]; rfl) (by rw [seq]; rfl) (fun c => by rw [chan]; exact ⟨rfl, nofun⟩)
      fun _ => chan
  case lock =>
    intro s
    refine .of_unlisted rfl rfl (fun c => ?_) fun config => ?_
    · rw [lockBlocks_chan]
      dsimp only
      split <;> exact ⟨rfl, nofun⟩
    · exact absurd config (joinOrHalt_ne_config s)
  case reconfigure =>
    intro s x h config
    have queue : s.chans.queue = [] := List.eq_nil_iff_forall_not_mem.2 fun c queued => by
      have waits := (h.queued c).1 queued
      rw [h.config config c] at waits
      cases waits
    have list : s.seq.startList = [] := List.eq_nil_iff_forall_not_mem.2 fun c started => by
      have starts := (h.starting c).1 started
      rw [h.config config c] at starts
      cases starts
    exact .of_unlisted queue list (h.unlisted queue list) h.config

/-- KILLN's sample is no matter of the lists. -/
theorem queuesMatch_killnSample (h : QueuesMatchStates s) (low : Bool) :
    QueuesMatchStates (s.setStn { s.stn with killnLow := low }) := by
  rw [queuesMatch_iff] at h ⊢
  exact h.restated rfl rfl rfl id

theorem queuesMatch_killnLow (h : QueuesMatchStates s) : QueuesMatchStates s.takeKillnLow.settle :=
  queuesMatch_keeps.killnLow (queuesMatch_keeps.clear (queuesMatch_killnSample h true))

theorem queuesMatch_killnHigh (h : QueuesMatchStates s) : QueuesMatchStates s.takeKillnHigh.settle :=
  queuesMatch_keeps.killnHigh (queuesMatch_killnSample h false)

end

/-- Settles O58: each elementary move of a channel keeps the two lists in step with the states; a new entry goes where
its priority and its stamp, later than every other, put it. -/
theorem queuesMatchChannelStates : Obligations.QueuesMatchChannelStates := by
  unfold Obligations.QueuesMatchChannelStates
  exact fun s t h taken =>
    queuesMatch_keeps.step (fun _ => queuesMatch_killnLow) (fun _ => queuesMatch_killnHigh) h taken

end Sys2Proof.Machine

namespace Sys2Proof.Machine

/-! ### The loads follow the station (R89, R98, R99, R149, R150) -/

/-- QueuesMatchStates with the parts of LoadsMatch by name. -/
structure LoadsFollow (s : State) : Prop where
  lists : QueuesMatchStates s
  live : s.stn.state ∈ [.joining, .active, .quiet, .left] → s.stn.killnLow = false
  halted : s.stn.state = .halted → s.stn.killnLow = true
  loads : ∀ c, (s.chan c).state.holdsUnits = true → s.stn.state = .active
  output : ∀ c, s.outHigh c = true ↔ (s.chan c).state.isOn = true

theorem loadsFollow_iff (s : State) : LoadsFollow s ↔ QueuesMatchStates s ∧ LoadsMatch s :=
  ⟨fun ⟨a, b, c, d, e⟩ => ⟨a, b, c, d, e⟩, fun ⟨a, b, c, d, e⟩ => ⟨a, b, c, d, e⟩⟩

section
variable {s t : State} {c d : Chan}

theorem holdsUnits_of_isOn {x : ChState} (on : x.isOn = true) : x.holdsUnits = true := by
  cases x <;> simp_all [ChState.isOn, ChState.holdsUnits]

theorem outHigh_set (latch : t.seq.latch = s.seq.latch ||| BitVec.twoPow 8 c.val) :
    t.outHigh d = true ↔ s.outHigh d = true ∨ d = c := by
  unfold State.outHigh
  rw [latch, BitVec.getLsbD_or, BitVec.getLsbD_twoPow, Fin.ext_iff, Bool.or_eq_true, Bool.and_eq_true,
    decide_eq_true_iff, decide_eq_true_iff, eq_comm (a := c.val)]
  exact or_congr_right (and_iff_right c.isLt)

theorem outHigh_clear (latch : t.seq.latch = s.seq.latch &&& ~~~ BitVec.twoPow 8 c.val) :
    t.outHigh d = true ↔ s.outHigh d = true ∧ d ≠ c := by
  unfold State.outHigh
  have bit : (~~~ BitVec.twoPow 8 c.val).getLsbD d.val = true ↔ d ≠ c := by
    rw [BitVec.getLsbD_not, BitVec.getLsbD_twoPow, ne_eq, Fin.ext_iff, eq_comm (a := d.val)]
    simp [c.isLt, d.isLt]
  rw [latch, BitVec.getLsbD_and, Bool.and_eq_true, bit]

/-- With every output off and no channel ON, outputs and channels agree. -/
theorem output_of_dark (latch : s.seq.latch = 0) (off : ∀ c, (s.chan c).state.isOn = false) (c : Chan) :
    s.outHigh c = true ↔ (s.chan c).state.isOn = true := by
  unfold State.outHigh
  rw [latch, off]
  simp

/-- The load parts for a channel that takes another state, in ACTIVE where it then holds units. -/
theorem LoadsFollow.moved (h : LoadsFollow s) (lists : QueuesMatchStates t)
    (others : ∀ d, d ≠ c → (t.chan d).state = (s.chan d).state) (stn : t.stn = s.stn)
    (loads : (t.chan c).state.holdsUnits = true → s.stn.state = .active)
    (output : ∀ d, d ≠ c → (t.outHigh d = true ↔ s.outHigh d = true))
    (self : t.outHigh c = true ↔ (t.chan c).state.isOn = true) : LoadsFollow t := by
  refine ⟨lists, by rw [stn]; exact h.live, by rw [stn]; exact h.halted, fun d => ?_, fun d => ?_⟩
  all_goals by_cases e : d = c
  · rw [e, stn]
    exact loads
  · rw [others d e, stn]
    exact h.loads d
  · rw [e]
    exact self
  · rw [output d e, others d e]
    exact h.output d

/-- A channel that was not ON and is not ON now, with the outputs as they were. -/
theorem LoadsFollow.dark (h : LoadsFollow s) (lists : QueuesMatchStates t)
    (others : ∀ d, d ≠ c → (t.chan d).state = (s.chan d).state) (stn : t.stn = s.stn)
    (loads : (t.chan c).state.holdsUnits = true → s.stn.state = .active) (latch : t.seq.latch = s.seq.latch)
    (off : (s.chan c).state.isOn = false) (still : (t.chan c).state.isOn = false) : LoadsFollow t := by
  have output (d : Chan) : t.outHigh d = true ↔ s.outHigh d = true := by
    unfold State.outHigh
    rw [latch]
  refine h.moved lists others stn loads (fun d _ => output d) ?_
  rw [output, h.output, off, still]

theorem LoadsFollow.still (h : LoadsFollow s) (k : ListsStill s t) : LoadsFollow t := by
  refine ⟨queuesMatch_keeps.still h.lists k, by rw [k.state, k.killn]; exact h.live,
    by rw [k.state, k.killn]; exact h.halted, fun c => ?_, fun c => ?_⟩
  · rw [← place_holdsUnits, k.place, place_holdsUnits, k.state]
    exact h.loads c
  · rw [← place_isOn, k.place, place_isOn, ← h.output, State.outHigh, State.outHigh, k.latch]

/-- Channels and outputs as they were, the station in another state that KILLN allows, with no load outside ACTIVE. -/
theorem LoadsFollow.restated (h : LoadsFollow s) (lists : QueuesMatchStates t) (chans : t.chans = s.chans)
    (latch : t.seq.latch = s.seq.latch)
    (live : t.stn.state ∈ [.joining, .active, .quiet, .left] → t.stn.killnLow = false)
    (halted : t.stn.state = .halted → t.stn.killnLow = true)
    (loads : ∀ c, (s.chan c).state.holdsUnits = true → t.stn.state = .active) : LoadsFollow t := by
  have chan (c : Chan) : t.chan c = s.chan c := by rw [State.chan, State.chan, chans]
  refine ⟨lists, live, halted, fun c => by rw [chan]; exact loads c, fun c => ?_⟩
  rw [chan, ← h.output, State.outHigh, State.outHigh, latch]

/-- With KILLN low or outside ACTIVE no channel is ON, so that the hold-clear drops no output. -/
theorem LoadsFollow.clear (h : LoadsFollow s) : LoadsFollow s.holdClear := by
  have lists := queuesMatch_keeps.clear h.lists
  unfold State.holdClear at lists ⊢
  split
  · exact h
  · rename_i dark
    have off (c : Chan) : (s.chan c).state.isOn = false := by
      by_contra on
      have active := h.loads c (holdsUnits_of_isOn (by simpa using on))
      have high := h.live (by rw [active]; decide)
      simp [State.isActive, active, high] at dark
    rw [if_neg dark] at lists
    exact ⟨lists, h.live, h.halted, h.loads, output_of_dark rfl off⟩

theorem mayEnter_killn {x : StationState} (h : LoadsFollow s) (may : s.mayEnter x) :
    (x ∈ [.joining, .active, .quiet, .left] → s.stn.killnLow = false) ∧ (x = .halted → s.stn.killnLow = true) := by
  obtain rfl | rfl | ⟨live, may⟩ := may
  · simp
  · unfold State.joinOrHalt
    split <;> simp_all
  · exact ⟨fun _ => h.live live, by rintro rfl; simp at may⟩

/-- The loads follow the station through every elementary move. -/
theorem loadsFollow_keeps : RowKeeps LoadsFollow where
  still := LoadsFollow.still
  join {s c} h idle := by
    obtain ⟨-, off, -⟩ := idle_tests idle
    refine h.dark (queuesMatch_keeps.join h.lists idle) (fun d e => by rw [joinQueue_chan_other s c d e]) rfl ?_ rfl
      off ?_
    all_goals rw [joinQueue_chan_self]
    · nofun
    · rfl
  leave {s t c} h waiting moves queue seq idle := by
    obtain ⟨off, -⟩ := waiting_tests waiting
    obtain ⟨-, out, unloaded, -⟩ := idle_tests idle
    exact h.dark (queuesMatch_keeps.leave h.lists waiting moves queue seq idle) moves.others moves.frame.stn
      (by rw [unloaded]; nofun) (by rw [seq]) off out
  start {s c} h active waits := by
    have waiting := waits.elim id (((queuesMatch_iff s).1 h.lists).queued c).1
    obtain ⟨off, -⟩ := waiting_tests waiting
    obtain ⟨-, -, stn, -⟩ := appended_blocks s c
    exact h.dark (queuesMatch_keeps.start h.lists active waits) (fun d e => by rw [appended_chan_other e]) stn
      (fun _ => active) rfl off (by rw [appended_chan_self]; rfl)
  turnOn {s c rest} h list active high := by
    have set (d : Chan) : (s.turnOn c).outHigh d = true ↔ s.outHigh d = true ∨ d = c := outHigh_set (by rw [turnOn_seq])
    refine h.moved (queuesMatch_keeps.turnOn h.lists list active high) (fun d e => by rw [turnOn_chan_other e]) rfl
      (fun _ => active) (fun d e => by simp [set, e]) ?_
    rw [set, turnOn_chan_self]
    simp [ChState.isOn]
  turnOff {s t c} h on moves queue seq idle := by
    obtain ⟨-, out, unloaded, -⟩ := idle_tests idle
    have cleared (d : Chan) : t.outHigh d = true ↔ s.outHigh d = true ∧ d ≠ c := outHigh_clear (by rw [seq]; rfl)
    refine h.moved (queuesMatch_keeps.turnOff h.lists on moves queue seq idle) moves.others moves.frame.stn
      (by rw [unloaded]; nofun) (fun d e => by simp [cleared, e]) ?_
    rw [cleared, out]
    simp
  unstart {s t c} h starting moves queue seq idle := by
    obtain ⟨-, out, unloaded, -⟩ := idle_tests idle
    exact h.dark (queuesMatch_keeps.unstart h.lists starting moves queue seq idle) moves.others moves.frame.stn
      (by rw [unloaded]; nofun) (by rw [seq]) (by rw [starting]; rfl) out
  rest {s t c} h idle moves queue seq rests := by
    obtain ⟨-, off, -⟩ := idle_tests idle
    obtain ⟨-, out, unloaded, -⟩ := idle_tests rests
    exact h.dark (queuesMatch_keeps.rest h.lists idle moves queue seq rests) moves.others moves.frame.stn
      (by rw [unloaded]; nofun) (by rw [seq]) off out
  clear := LoadsFollow.clear
  enter {s x} h unloaded may := by
    have frame := enterState_frame s x
    have killn := enterState_killnLow s x
    obtain ⟨live, halted⟩ := mayEnter_killn h may
    have none (c : Chan) : (s.chan c).state.holdsUnits = false := by
      by_contra loaded
      exact loaded (unloaded (h.loads c (by simpa using loaded)) c)
    refine h.restated (queuesMatch_keeps.enter h.lists unloaded may) frame.chans (by cases x <;> rfl) ?_ ?_
      fun c loaded => absurd (none c) (by rw [loaded]; nofun)
    all_goals rw [(enterState_stn s x).1, killn]
    · exact live
    · exact halted
  activate {s} h joining := by
    refine h.restated (queuesMatch_keeps.activate h.lists joining) rfl rfl (fun _ => h.live ?_) nofun fun _ _ => rfl
    rw [joining]
    decide
  pop h := ⟨queuesMatch_keeps.pop h.lists, h.live, h.halted, h.loads, h.output⟩
  reset {t} chans seq state := by
    have chan (c : Chan) : (t.chan c).state = .disabled := by
      rw [State.chan, chans]
      fin_cases c <;> rfl
    refine ⟨queuesMatch_keeps.reset chans seq state, by rw [state]; simp, by rw [state]; nofun, fun c => ?_,
      output_of_dark (by rw [seq]; rfl) fun c => by rw [chan]; rfl⟩
    rw [chan]
    nofun
  lock s := by
    have out (c : Chan) : (s.lockBlocks.chan c).state.holdsUnits = false ∧
        (s.lockBlocks.chan c).state.isOn = false := by
      rw [lockBlocks_chan]
      dsimp only
      split <;> exact ⟨rfl, rfl⟩
    have state : s.lockBlocks.stn.state = s.joinOrHalt ∧ s.lockBlocks.stn.killnLow = s.stn.killnLow := ⟨rfl, rfl⟩
    refine ⟨queuesMatch_keeps.lock s, ?_, ?_, fun c => by rw [(out c).1]; nofun, output_of_dark rfl fun c => (out c).2⟩
    all_goals
      rw [state.1, state.2]
      unfold State.joinOrHalt
      split <;> simp_all
  reconfigure {s} x h config := ⟨queuesMatch_keeps.reconfigure x h.lists config, h.live, h.halted, h.loads, h.output⟩

/-- No channel holds units and no output is on: every station state that KILLN's sample allows is a legal one. -/
theorem LoadsFollow.unloaded (lists : QueuesMatchStates s) (latch : s.seq.latch = 0)
    (loads : ∀ c, (s.chan c).state.holdsUnits = false)
    (live : s.stn.state ∈ [.joining, .active, .quiet, .left] → s.stn.killnLow = false)
    (halted : s.stn.state = .halted → s.stn.killnLow = true) : LoadsFollow s := by
  refine ⟨lists, live, halted, fun c => by rw [loads]; nofun, output_of_dark latch fun c => ?_⟩
  by_contra on
  exact absurd (holdsUnits_of_isOn (by simpa using on)) (by rw [loads]; nofun)

theorem LoadsFollow.none_outside (h : LoadsFollow s) (outside : s.stn.state ≠ .active) (c : Chan) :
    (s.chan c).state.holdsUnits = false := by
  by_contra loaded
  exact outside (h.loads c (by simpa using loaded))

/-- The low edge leaves no load and no output, and takes the station out of every state that wants KILLN high (R149). -/
theorem loadsFollow_killnLow (h : LoadsFollow s) : LoadsFollow s.takeKillnLow.settle := by
  have lists := queuesMatch_killnLow h.lists
  have sampled : s.killnSampled.stn.killnLow = true := by
    rw [killnSampled_eq]
    rfl
  by_cases live : s.stn.state ∈ [.joining, .active, .quiet, .left]
  · obtain ⟨left, -⟩ := killnLow_departs s live
    refine .unloaded lists left.latch left.loads ?_ fun _ => ?_
    · rw [left.state]
      simp
    · rw [takeKillnLow_halts s live, settle_stn]
      exact (depart_killnLow _ .kill .halted).trans sampled
  · have out : s.stn.state ∈ [.config, .halted, .faulted] := by
      cases e : s.stn.state <;> simp [e] at live ⊢
    have state : s.killnSampled.settle.stn.state = s.stn.state := by
      rw [killnSampled_eq, settle_state]
      rfl
    rw [takeKillnLow_stays s out] at lists ⊢
    refine .unloaded lists (settle_latch _ (.inr sampled)) (fun c => ?_) (fun live' => absurd (state ▸ live') live)
      fun _ => by rw [settle_stn]; exact sampled
    rw [settle_chan, killnSampled_eq]
    exact h.none_outside (fun active => live (by rw [active]; decide)) c

/-- The high edge leaves HALTED, where no channel holds units (R150). -/
theorem loadsFollow_killnHigh (h : LoadsFollow s) : LoadsFollow s.takeKillnHigh.settle := by
  have sampled := queuesMatch_killnSample h.lists false
  refine loadsFollow_keeps.settle ?_
  rw [takeKillnHigh_eq]
  split
  · rename_i halted
    have enter : QueuesMatchStates ((s.setStn { s.stn with killnLow := false }).enterState .joining) :=
      queuesMatch_keeps.enter sampled (fun active => absurd (halted.symm.trans active) nofun) (.inr (.inl rfl))
    exact h.restated enter rfl rfl (fun _ => rfl) nofun fun c loaded =>
      absurd (h.none_outside (by rw [halted]; nofun) c) (by rw [loaded]; nofun)
  · rename_i other
    exact h.restated sampled rfl rfl (fun _ => rfl) (fun halted => absurd halted other) h.loads

end

/-- Settles O55: each elementary move keeps the outputs in step with the channels, and a station that leaves ACTIVE has
shed every one. -/
theorem loadsFollowStation : Obligations.LoadsFollowStation := by
  unfold Obligations.LoadsFollowStation
  intro s t lists loads taken
  have follow := (loadsFollow_iff s).2 ⟨lists, loads⟩
  exact ((loadsFollow_iff t).1 (loadsFollow_keeps.step (fun _ => loadsFollow_killnLow)
    (fun _ => loadsFollow_killnHigh) follow taken)).2

end Sys2Proof.Machine

namespace Sys2Proof.Machine

/-! ### Configuration image and receive ring (R65, R134, R163) -/

/-- The station is locked with this image, out of CONFIG. -/
structure LockedWith (m : Image) (s : State) : Prop where
  image : s.port.image = m
  locked : s.port.locked = true
  state : s.stn.state ≠ .config

section
variable {s t : State} {m : Image} {c : Chan}

theorem LockedWith.of_port (h : LockedWith m s) (port : t.port = s.port) (state : t.stn.state = s.stn.state) :
    LockedWith m t :=
  ⟨by rw [port]; exact h.image, by rw [port]; exact h.locked, by rw [state]; exact h.state⟩

theorem LockedWith.entered (h : LockedWith m s) {x : StationState} (other : x ≠ .config) :
    LockedWith m (s.enterState x) := by
  have frame := enterState_frame s x
  exact ⟨by rw [frame.port]; exact h.image, by rw [frame.port]; exact h.locked,
    by rw [(enterState_stn s x).1]; exact other⟩

/-- Out of CONFIG no elementary move writes the image: CFG_WRITE would, but it is taken there alone. -/
theorem lockedWith_keeps (m : Image) : LoadKeeps (LockedWith m) where
  still h k := ⟨k.image.trans h.image, k.locked.trans h.locked, k.state ▸ h.state⟩
  join h _ := h.of_port rfl rfl
  leave h _ k _ _ _ := h.of_port k.frame.port (by rw [k.frame.stn])
  start {s c} h _ _ := by
    obtain ⟨-, -, stn, port, -⟩ := appended_blocks s c
    exact h.of_port port (by rw [stn])
  turnOn h _ _ _ := h.of_port rfl rfl
  turnOff h _ k _ _ _ := h.of_port k.frame.port (by rw [k.frame.stn])
  unstart h _ k _ _ _ := h.of_port k.frame.port (by rw [k.frame.stn])
  rest h _ k _ _ _ := h.of_port k.frame.port (by rw [k.frame.stn])
  clear {s} h := h.of_port (by rw [holdClear_seq_only]; rfl) (by rw [holdClear_seq_only]; rfl)
  enter h _ may := h.entered (mayEnter_ne_config may)
  activate h _ := ⟨h.image, h.locked, nofun⟩
  reconfigure _ h config := absurd config h.state

theorem lockedWith_killnLow (h : LockedWith m s) : LockedWith m s.takeKillnLow.settle :=
  (lockedWith_keeps m).killnLow ((lockedWith_keeps m).clear (h.of_port rfl rfl))

theorem lockedWith_killnHigh (h : LockedWith m s) : LockedWith m s.takeKillnHigh.settle :=
  (lockedWith_keeps m).killnHigh (h.of_port rfl rfl)

/-- No elementary move takes a notice out of the receive ring. -/
theorem ringGrows_keeps (s : State) : LoadKeeps (RingGrows s) where
  still h k := h.trans k.ring
  join h _ := h.trans (.of_eq rfl)
  leave h _ k _ _ _ := h.trans (.of_eq k.ring)
  start {s c} h _ _ := by
    obtain ⟨-, -, -, -, notice, -⟩ := appended_blocks s c
    exact h.trans (.of_eq (by rw [notice]))
  turnOn h _ _ _ := h.trans (.of_eq rfl)
  turnOff h _ k _ _ _ := h.trans (.of_eq k.ring)
  unstart h _ k _ _ _ := h.trans (.of_eq k.ring)
  rest h _ k _ _ _ := h.trans (.of_eq k.ring)
  clear h := h.trans (.of_eq (by rw [holdClear_seq_only]; rfl))
  enter {s x} h _ _ := h.trans (.of_eq (by rw [(enterState_frame s x).notice]))
  activate h _ := h.trans (.of_eq rfl)
  reconfigure _ h _ := h.trans (.of_eq rfl)

theorem ringGrows_killnLow (h : RingGrows s t) : RingGrows s t.takeKillnLow.settle :=
  (ringGrows_keeps s).killnLow ((ringGrows_keeps s).clear (h.trans (.of_eq rfl)))

theorem ringGrows_killnHigh (h : RingGrows s t) : RingGrows s t.takeKillnHigh.settle :=
  (ringGrows_keeps s).killnHigh (h.trans (.of_eq rfl))

end

/-- Settles O53: outside CONFIG neither CFG_WRITE nor LOCK is accepted, and no other row but the resets writes the
image; a notice is taken out of the ring by POP's row and by those that give the Notice Unit its reset values. -/
theorem imageAndRingChangeByNamedCommands : Obligations.ImageAndRingChangeByNamedCommands := by
  unfold Obligations.ImageAndRingChangeByNamedCommands
  intro c s t taken
  rw [exec_eq_fire] at taken
  cases taken
  refine ⟨fun flag locked por reset => ?_, ?_⟩
  · have state := flag.1 locked
    have kept : LockedWith s.port.image (s.fire c) :=
      (lockedWith_keeps _).fire (fun _ => lockedWith_killnLow) (fun _ => lockedWith_killnHigh) ⟨rfl, locked, state⟩ c
        (fun e => (e.elim por reset).elim) (fun _ accepted => absurd (inConfig_of_lock accepted) state)
        fun _ => ⟨rfl, locked, state⟩
    exact ⟨kept.image, kept.locked⟩
  · by_contra other
    simp only [not_or] at other
    obtain ⟨shrinks, pop, lock, por, reset, rise⟩ := other
    exact shrinks ((ringGrows_keeps s).fire (fun _ => ringGrows_killnLow) (fun _ => ringGrows_killnHigh) (.of_eq rfl) c
      (fun e => (e.elim por reset).elim) (fun e => (e.elim lock rise).elim) fun e => (pop e).elim)

end Sys2Proof.Machine

namespace Sys2Proof.Machine

/-! ### Whom the spares fit (R25, R40, R81, R88) -/

section
variable {s t u : State} {c d : Chan}

theorem mem_spareUsable_iff {k : Nat} :
    k ∈ s.spareUsable c ↔ Usable s c k ∧ ∃ r, s.table.recs[k]? = some r ∧ r.view.isSpare = true := by
  refine (mem_unitsWhere _ _ k).trans ⟨fun ⟨r, record, test⟩ => ?_,
    fun ⟨⟨r, w, record, alive, window, reach⟩, x, record', spare⟩ => ?_⟩
  · obtain ⟨spare, usable⟩ := Bool.and_eq_true_iff.1 test
    refine ⟨?_, r, record, spare⟩
    unfold State.unitUsable Image.winUsable at usable
    cases window : r.window with
    | none => simp [window] at usable
    | some w =>
      simp only [window, Bool.and_eq_true, bne_iff_ne, decide_eq_true_eq] at usable
      exact ⟨r, w, record, usable.1, window, usable.2⟩
  · obtain rfl := Option.some.inj (record.symm.trans record')
    refine ⟨r, record, ?_⟩
    unfold State.unitUsable Image.winUsable
    simp only [window, Bool.and_eq_true, bne_iff_ne, decide_eq_true_eq]
    exact ⟨spare, alive, reach⟩

theorem spareUsable_sorted (s : State) (c : Chan) : (s.spareUsable c).Pairwise (· < ·) :=
  List.pairwise_lt_range.filter _

theorem sparesFor_spareUsable (s : State) (c : Chan) : SparesFor s c (s.spareUsable c) :=
  ⟨spareUsable_sorted s c, fun _ => mem_spareUsable_iff⟩

theorem spareFits_iff (s : State) (c : Chan) :
    SpareFits s c ↔ (!s.fenced c && decide (s.port.image.weight c ≤ (s.spareUsable c).length)) = true := by
  unfold SpareFits
  rw [← fenced_iff, Bool.and_eq_true, Bool.not_eq_true', decide_eq_true_iff, Bool.not_eq_true]

/-- The walk of R81 finds nobody. -/
theorem spareCandidate_none_iff : s.spareCandidate = none ↔ ∀ d ∈ s.chans.queue, ¬ SpareFits s d := by
  unfold State.spareCandidate
  rw [List.find?_eq_none]
  exact forall₂_congr fun d _ => not_congr (spareFits_iff s d).symm

/-- The walk of R81 stops at the first channel that the spares fit. -/
theorem spareCandidate_first {front back : List Chan} (queue : s.chans.queue = front ++ c :: back)
    (passed : ∀ d ∈ front, ¬ SpareFits s d) (fits : SpareFits s c) : s.spareCandidate = some c := by
  unfold State.spareCandidate
  rw [queue, List.find?_eq_some_iff_append]
  refine ⟨(spareFits_iff s c).1 fits, front, back, rfl, fun d mem => ?_⟩
  have unfit := mt (spareFits_iff s d).2 (passed d mem)
  rw [Bool.not_eq_true] at unfit
  rw [unfit]
  rfl

/-- Every spare of t is a spare of s in the same window, and who is fenced stays fenced. -/
structure SparesWithin (s t : State) : Prop where
  image : t.port.image = s.port.image
  fences : t.chans.fences = s.chans.fences
  spares : ∀ (k : Nat) (r : UnitRec), t.table.recs[k]? = some r → r.view.isSpare = true → s.table.recs[k]? = some r

theorem SparesWithin.of_same (image : t.port.image = s.port.image) (fences : t.chans.fences = s.chans.fences)
    (table : t.table = s.table) : SparesWithin s t :=
  ⟨image, fences, fun k r record _ => by rw [← table]; exact record⟩

theorem SparesWithin.usable (h : SparesWithin s t) (c : Chan) : t.spareUsable c ⊆ s.spareUsable c := by
  intro k mem
  obtain ⟨⟨r, w, record, alive, window, masked, reserve⟩, x, record', spare⟩ := mem_spareUsable_iff.1 mem
  obtain rfl := Option.some.inj (record.symm.trans record')
  rw [h.image] at masked reserve
  have before := h.spares k r record spare
  exact mem_spareUsable_iff.2 ⟨⟨r, w, before, alive, window, masked, reserve⟩, r, before, spare⟩

/-- Fewer spares fit fewer channels. -/
theorem SparesWithin.fits (h : SparesWithin s t) (fits : SpareFits t c) : SpareFits s c := by
  obtain ⟨unfenced, enough⟩ := fits
  have fewer : (t.spareUsable c).length ≤ (s.spareUsable c).length :=
    (List.subperm_of_subset ((spareUsable_sorted t c).imp ne_of_lt) (h.usable c)).length_le
  refine ⟨fun fenced => unfenced ?_, ?_⟩
  · unfold Fenced at fenced ⊢
    rw [h.fences, h.image]
    exact fenced
  · rw [← h.image]
    exact enough.trans fewer

/-- With the same units, fences and image the same channels fit. -/
theorem spareFits_congr (image : t.port.image = s.port.image) (fences : t.chans.fences = s.chans.fences)
    (table : t.table = s.table) : SpareFits t c ↔ SpareFits s c :=
  ⟨(SparesWithin.of_same image fences table).fits, (SparesWithin.of_same image.symm fences.symm table.symm).fits⟩

theorem spareUsable_congr (image : t.port.image = s.port.image) (table : t.table = s.table) :
    t.spareUsable c = s.spareUsable c := by
  unfold State.spareUsable State.unitUsable
  rw [image, table]

/-! ### One binding of spares, and the walks (R40, R74, R81) -/

/-- What a binding of spares does: the channel's units are the lowest of them, exactly its weight, it is STARTING or, by
the append, ON, and only the head of the start list may have turned on beside it. -/
structure BindsSpares (s t : State) (c : Chan) : Prop where
  frame : LoadFrame s t
  queue : t.chans.queue = s.chans.queue.filter (· ≠ c)
  views : ViewsBecome s t fun k v => if k ∈ (s.spareUsable c).take (s.port.image.weight c) then .own c else v
  starts : (t.chan c).state = .starting ∨ (t.chan c).state = .on false 0
  fences : t.chans.fences = s.chans.fences
  others : ∀ d, d ≠ c → s.seq.startList.head? ≠ some d → t.chan d = s.chan d
  heads : ∀ d, d ≠ c → t.chan d = s.chan d ∨ (t.chan d).state = .on false 0

theorem appended_fences (s : State) (c : Chan) : (s.appended c).chans.fences = s.chans.fences := by
  unfold State.appended
  rw [leaveQueue_eq]
  rfl

theorem toStarting_chan_self (s : State) (c : Chan) :
    ((s.toStarting c).chan c).state = .starting ∨ ((s.toStarting c).chan c).state = .on false 0 := by
  have appended : ((s.appended c).chan c).state = .starting := by rw [appended_chan_self]
  rw [toStarting_eq]
  split
  · by_cases e : c = s.seq.startList.headD c
    · rw [← e, turnOn_chan_self]
      exact .inr rfl
    · rw [turnOn_chan_other e]
      exact .inl appended
  · exact .inl appended

theorem toStarting_chan_head (h : d ≠ c) :
    (s.toStarting c).chan d = s.chan d ∨ ((s.toStarting c).chan d).state = .on false 0 := by
  by_cases e : d = s.seq.startList.headD c
  · rw [toStarting_eq]
    split
    · rw [← e, turnOn_chan_self]
      exact .inr rfl
    · exact .inl (appended_chan_other h)
  · exact .inl (toStarting_chan_other h e)

theorem bindSpares_binds (s : State) (c : Chan) : BindsSpares s (s.bindSpares c) c := by
  let b := s.bindUnits c ((s.spareUsable c).take (s.port.image.weight c))
  obtain ⟨table, -, -, -, -, queue⟩ := toStarting_blocks b c
  refine ⟨bindSpares_load s c, queue, fun k => ?_, toStarting_chan_self b c, ?_, fun d other head => ?_,
    fun d other => toStarting_chan_head (s := b) other⟩
  · change (b.toStarting c).table.recs[k]? = _
    rw [table]
    exact bindUnits_record s c _ k
  · change (b.toStarting c).chans.fences = _
    rw [toStarting_eq]
    split <;> exact appended_fences b c
  · refine toStarting_chan_other (s := b) other fun e => head ?_
    change d = s.seq.startList.headD c at e
    cases list : s.seq.startList with
    | nil => exact absurd (by rw [e, list]; rfl) other
    | cons a rest => rw [e, list]; rfl

theorem BindsSpares.within (h : BindsSpares s t c) : SparesWithin s t := by
  refine ⟨by rw [h.frame.port], h.fences, fun k r record spare => ?_⟩
  rw [h.views k] at record
  obtain ⟨r', before, rfl⟩ := Option.map_eq_some_iff.1 record
  dsimp only at spare
  split at spare
  · cases spare
  · rename_i out
    rw [before]
    simp only [out, if_false]

/-- What each binding keeps, any number of walks keeps. -/
theorem spareWalk_keeps {P : State → Prop} (each : ∀ s c, P s → s.spareCandidate = some c → P (s.bindSpares c))
    (n : Nat) (start : P s) : P (spareWalk n s) := by
  induction n generalizing s with
  | zero => exact start
  | succ n ih =>
    unfold spareWalk
    split
    · exact start
    · rename_i c fits
      exact ih (each s c start fits)

/-- A walk that finds nobody changes nothing. -/
theorem spareWalk_idle (n : Nat) (unfit : ∀ d ∈ s.chans.queue, ¬ SpareFits s d) : spareWalk n s = s := by
  cases n with
  | zero => rfl
  | succ n =>
    unfold spareWalk
    rw [spareCandidate_none_iff.2 unfit]

theorem spareCheck_idle (unfit : s.stn.state = .active → ∀ d ∈ s.chans.queue, ¬ SpareFits s d) : s.spareCheck = s := by
  unfold State.spareCheck
  split
  · rename_i active
    exact spareWalk_idle _ (unfit ((isActive_iff s).1 active))
  · rfl

theorem spareCheck_active (active : s.stn.state = .active) : s.spareCheck = spareWalk s.chans.queue.length s :=
  if_pos ((isActive_iff s).2 active)

/-- As each binding takes a channel out of the queue, the queue's length bounds the walks. -/
theorem spareWalk_ends (n : Nat) (enough : s.chans.queue.length ≤ n) :
    ∀ d ∈ (spareWalk n s).chans.queue, ¬ SpareFits (spareWalk n s) d := by
  induction n generalizing s with
  | zero =>
    have empty : (spareWalk 0 s).chans.queue = [] := List.eq_nil_of_length_eq_zero (Nat.le_zero.1 enough)
    simp [empty]
  | succ n ih =>
    unfold spareWalk
    split
    · rename_i none
      exact spareCandidate_none_iff.1 none
    · rename_i c fits
      refine ih ?_
      have shorter : (s.chans.queue.filter (· ≠ c)).length < s.chans.queue.length :=
        List.length_filter_lt_length_iff_exists.2 ⟨c, (spareCandidate_fits fits).1, by simp⟩
      rw [(bindSpares_binds s c).queue]
      omega

/-- The check of a queue that holds a channel which the spares fit binds the first such channel and walks on. -/
theorem spareCheck_first {front back : List Chan} (active : s.stn.state = .active)
    (queue : s.chans.queue = front ++ c :: back) (passed : ∀ d ∈ front, ¬ SpareFits s d) (fits : SpareFits s c) :
    s.spareCheck = spareWalk (front ++ back).length (s.bindSpares c) := by
  have length : s.chans.queue.length = (front ++ back).length + 1 := by
    rw [queue]
    simp [Nat.add_assoc]
  rw [spareCheck_active active, length, spareWalk, spareCandidate_first queue passed fits]

/-- Where the spares fit one queued channel alone, that is all the check does. -/
theorem spareCheck_once {front back : List Chan} (active : s.stn.state = .active)
    (queue : s.chans.queue = front ++ c :: back) (passed : ∀ d ∈ s.chans.queue, d ≠ c → ¬ SpareFits s d)
    (absent : c ∉ front) (fits : SpareFits s c) : s.spareCheck = s.bindSpares c := by
  have binds := bindSpares_binds s c
  rw [spareCheck_first active queue (fun d ahead => passed d (by simp [queue, ahead]) fun e => absent (e ▸ ahead)) fits]
  refine spareWalk_idle _ fun d queued fit => ?_
  rw [binds.queue] at queued
  obtain ⟨queued, other⟩ := List.mem_filter.1 queued
  exact passed d queued (by simpa using other) (binds.within.fits fit)

end

end Sys2Proof.Machine

namespace Sys2Proof.Machine

/-! ### An entry to WAITING (R72, R80, R81) -/

section
variable {s t u : State} {c d : Chan}

theorem inserted_insertQueue (s : State) (c : Chan) :
    Inserted s c (insertQueue s.port.image.priority c s.chans.queue) := by
  refine ⟨_, _, List.takeWhile_append_dropWhile.symm, insertQueue_eq _ _ _, fun d last => ?_, fun d head => ?_⟩
  · exact higher_of_mem_takeWhile (List.mem_of_getLast? last)
  · have lower := List.head?_dropWhile_not (fun d => decide (s.port.image.priority c ≤ s.port.image.priority d))
      s.chans.queue
    rw [head] at lower
    simpa using lower

theorem filter_insertQueue (q : Chan → Nat) (c : Chan) (l : List Chan) :
    (insertQueue q c l).filter (· ≠ c) = l.filter (· ≠ c) := by
  rw [insertQueue_eq]
  simp only [List.filter_append, List.filter_cons, ne_eq, not_true_eq_false, decide_false, Bool.false_eq_true, if_false]
  rw [← List.filter_append, List.takeWhile_append_dropWhile]

theorem EntersWaiting.of_same (h : EntersWaiting s t c) (table : u.table = t.table) (chans : u.chans = t.chans) :
    EntersWaiting s u c := by
  have chan (d : Chan) : u.chan d = t.chan d := by rw [State.chan, State.chan, chans]
  refine ⟨fun unfit => ?_, fun active fits unfit => ?_⟩
  · obtain ⟨waits, inserted, still, others⟩ := h.queued unfit
    refine ⟨by rw [chan]; exact waits, by rw [chans]; exact inserted, table.trans still, fun d e => ?_⟩
    rw [chan, others d e]
  · obtain ⟨queue, starts, views, others⟩ := h.bound active fits unfit
    refine ⟨by rw [chans]; exact queue, by rw [chan]; exact starts, fun k => ?_, fun d e head => ?_⟩
    · rw [table]
      exact views k
    · rw [chan, others d e head]

/-- The channel's record is written and it goes on to WAITING, with the check of the spares that is made there. -/
theorem entersWaiting_setChan (s : State) (c : Chan) (r : ChannelRec) :
    EntersWaiting s ((s.setChan c r).enterWaiting c false) c := by
  let j := (s.setChan c r).joinQueue c
  have entered : (s.setChan c r).enterWaiting c false = j.spareCheck := rfl
  have self : (j.chan c).state = .waiting s.chans.entries (s.fullWait c) := 
    congrArg ChannelRec.state (joinQueue_chan_self _ c)
  have other (d : Chan) (e : d ≠ c) : j.chan d = s.chan d := by
    rw [joinQueue_chan_other _ c d e, chan_setChan_other _ _ _ _ e]
  have queue : j.chans.queue = insertQueue s.port.image.priority c s.chans.queue := rfl
  have same (d : Chan) : SpareFits j d ↔ SpareFits s d := spareFits_congr rfl rfl rfl
  rw [entered]
  refine ⟨fun unfit => ?_, fun active fits unfit => ?_⟩
  · have idle : j.spareCheck = j := spareCheck_idle fun active d queued => by
      obtain ⟨alone, rest⟩ := unfit active
      rw [same]
      obtain rfl | queued := (mem_insertQueue _ _ _ _).1 queued
      · exact alone
      · exact rest d queued
    rw [idle]
    exact ⟨⟨_, self⟩, inserted_insertQueue s c, rfl, other⟩
  · have absent : c ∉ s.chans.queue := fun queued => unfit c queued fits
    have split := queue.trans (insertQueue_eq _ _ _)
    have once : j.spareCheck = j.bindSpares c := spareCheck_once active split
      (fun d queued e => mt (same d).1 (unfit d (((mem_insertQueue _ _ _ _).1 queued).resolve_left e)))
      (fun ahead => absent ((List.takeWhile_sublist _).subset ahead)) ((same c).2 fits)
    have binds := bindSpares_binds j c
    rw [once]
    refine ⟨binds.queue.trans (filter_insertQueue _ c _), binds.starts, binds.views, fun d e head => ?_⟩
    rw [binds.others d e head, other d e]

end

end Sys2Proof.Machine

namespace Sys2Proof.Machine

/-! ### Min off runs out (R69, R72, R78) -/

section
variable {s t u : State} {c d : Chan}

/-- Effective demand by the record alone (R69). -/
theorem demand_iff (s : State) (c : Chan) : s.demand c = true ↔ Demands s.port.image c (s.chan c) := by
  unfold State.demand Demands Image.enabled Image.sourcePin Image.sourceSoft
  simp [and_assoc]

theorem demands_congr {m : Image} {x y : ChannelRec} (park : y.park = x.park) (level : y.level = x.level)
    (soft : y.soft = x.soft) : Demands m c y ↔ Demands m c x := by
  unfold Demands
  rw [park, level, soft]

theorem OthersStay.of_same (h : OthersStay s t c) (table : u.table = t.table) (chans : u.chans = t.chans)
    (seq : u.seq = t.seq) : OthersStay s u c := by
  have chan (d : Chan) : u.chan d = t.chan d := by rw [State.chan, State.chan, chans]
  unfold OthersStay
  simp only [table, chans, seq, chan]
  exact h

/-- One channel's record alone is written. -/
theorem othersStay_setChan (s : State) (c : Chan) (r : ChannelRec) : OthersStay s (s.setChan c r).settle c := by
  refine ⟨settle_table _, by rw [settle_chans]; rfl, fun d e => ?_, settle_startList _, settle_elapsed _,
    fun active high => ?_⟩
  · rw [settle_chan, chan_setChan_other _ _ _ _ e]
  · rw [settle_seq, holdClear_of_active (s := s.setChan c r) ((isActive_iff s).2 active) high]
    rfl

theorem settle_entersWaiting (h : EntersWaiting s t c) : EntersWaiting s t.settle c :=
  h.of_same (settle_table t) (settle_chans t)

theorem takeMinOffExpiry_cooldown (cooldown : (s.chan c).state = .cooldown) :
    ∃ r : ChannelRec, r.state = .off ∧ s.takeMinOffExpiry c =
      if s.demand c then (s.setChan c r).enterWaiting c false else s.setChan c r := by
  refine ⟨{ s.chan c with state := .off, offSince := (s.chan c).offSince.map (max (s.port.image.minOffUs c)) }, rfl, ?_⟩
  unfold State.takeMinOffExpiry
  rw [cooldown]
  dsimp only
  refine if_congr ?_ rfl rfl
  rw [demand_iff, demand_iff, chan_setChan_self]
  exact demands_congr rfl rfl rfl

end

/-- Settles O35: the record goes to OFF, and with effective demand on to WAITING by the one entry of R72. -/
theorem minOffExpiryLeavesCooldown : Obligations.MinOffExpiryLeavesCooldown := by
  unfold Obligations.MinOffExpiryLeavesCooldown
  intro s c cooldown
  obtain ⟨r, off, taken⟩ := takeMinOffExpiry_cooldown cooldown
  refine ⟨(s.takeMinOffExpiry c).settle, rfl, ?_, fun idle => ?_, fun demands => ?_⟩
  · rw [settle_port, (takeMinOffExpiry_load s c).port]
  · rw [taken, if_neg (mt (demand_iff s c).1 idle)]
    refine ⟨?_, othersStay_setChan s c r⟩
    rw [settle_chan, chan_setChan_self]
    exact off
  · rw [taken, if_pos ((demand_iff s c).2 demands)]
    exact settle_entersWaiting (entersWaiting_setChan s c r)

end Sys2Proof.Machine

namespace Sys2Proof.Machine

/-! ### A stop (R38, R75, R76, R79) -/

section
variable {s t u : State} {c d : Chan}

/-- Of the indices below n that meet a test, one is among the first m exactly if fewer than m before it meet it. -/
theorem mem_take_filter_range {p : Nat → Bool} {n k m : Nat} (below : k < n) (test : p k = true) :
    k ∈ ((List.range n).filter p).take m ↔ (List.range k).countP p < m := by
  obtain ⟨rest, rfl⟩ := Nat.exists_eq_add_of_lt below
  have split : (List.range (k + rest + 1)).filter p =
      (List.range k).filter p ++ k :: ((List.range rest).map (k + 1 + ·)).filter p := by
    rw [show k + rest + 1 = k + 1 + rest by omega, List.range_add, List.range_succ, List.append_assoc,
      List.filter_append]
    simp [test]
  have count : ((List.range k).filter p).length = (List.range k).countP p := List.countP_eq_length_filter.symm
  have before : k ∉ (List.range k).filter p := by simp
  rw [split, ← count]
  constructor
  · intro mem
    by_contra late
    rw [List.take_append_of_le_length (Nat.not_lt.1 late)] at mem
    exact before (List.mem_of_mem_take mem)
  · intro early
    obtain ⟨more, e⟩ := Nat.exists_eq_add_of_lt early
    rw [e, List.take_append, List.mem_append]
    refine .inr ?_
    rw [show ((List.range k).filter p).length + more + 1 - ((List.range k).filter p).length = more + 1 by omega]
    exact List.mem_cons_self

/-- The view of a unit after a stop's return of units (R38). -/
def State.viewReturned (s : State) (c : Chan) (k : Nat) (v : View) : View :=
  if v = .own c then if k ∈ s.keptSpares c then .spare s.port.image.lingerUs else .releasing else v

theorem returnUnits_record (s : State) (c : Chan) (k : Nat) : (s.returnUnits c).table.recs[k]? =
    (s.table.recs[k]?).map fun r => { r with view := s.viewReturned c k r.view } :=
  mapViews_record s.table (s.viewReturned c) k

theorem returnUnits_none_own (s : State) (c : Chan) : ∀ r ∈ (s.returnUnits c).table.recs, r.view ≠ .own c := by
  intro r mem own
  obtain ⟨k, below, rfl⟩ := List.mem_iff_getElem.1 mem
  have record := returnUnits_record s c k
  rw [List.getElem?_eq_getElem below] at record
  obtain ⟨r', -, e⟩ := Option.map_eq_some_iff.1 record.symm
  rw [← e] at own
  change s.viewReturned c k r'.view = _ at own
  unfold State.viewReturned at own
  split at own
  · split at own <;> cases own
  · contradiction

/-- Which of a channel's units a stop keeps (R38). -/
theorem mem_keptSpares {k : Nat} {r : UnitRec} (record : s.table.recs[k]? = some r) (own : r.view = .own c) :
    k ∈ s.keptSpares c ↔ 0 < s.port.image.lingerUs ∧
      ((List.range k).countP fun j => (s.table.recs[j]?).any fun x => x.view == .own c) + s.table.spareCount
        < s.port.image.spareMax := by
  obtain ⟨below, -⟩ := List.getElem?_eq_some_iff.1 record
  have test : ((s.table.recs[k]?).any fun x => x.view == .own c) = true := by
    rw [record]
    simp [own]
  unfold State.keptSpares
  split
  · rename_i zero
    simp [zero]
  · rename_i lingers
    unfold UnitTable.boundUnits UnitTable.unitsWhere
    rw [mem_take_filter_range below test]
    omega

theorem stopChan_on {m : Bool} {n : Nat} (on : (s.chan c).state = .on m n) : s.stopChan c =
    ((s.clearOutput c).returnUnits c).setChan c { s.chan c with
      state := if 0 < s.port.image.minOffUs c then .cooldown else .off, offSince := some 0 } := by
  unfold State.stopChan
  rw [on]
  unfold State.setChState State.startOffSince
  dsimp only
  rw [setChan_setChan, chan_setChan_self]
  rfl

theorem stopChan_starting (starting : (s.chan c).state = .starting) :
    s.stopChan c = ((s.returnUnits c).setChState c .off).removeStart c false := by
  unfold State.stopChan
  rw [starting]

/-- The channel's record is written to be r, and it is stopped out of ON. -/
structure Stopped (c : Chan) (r : ChannelRec) (s t : State) : Prop where
  port : t.port = s.port
  self : t.chan c = { r with state := if 0 < s.port.image.minOffUs c then .cooldown else .off, offSince := some 0 }
  others : ∀ d, d ≠ c → t.chan d = s.chan d
  latch : t.seq.latch.getLsbD c.val = false
  seq : t.seq.startList = s.seq.startList ∧ t.seq.elapsed = s.seq.elapsed
  table : t.table = (s.returnUnits c).table
  queue : t.chans.queue = s.chans.queue

theorem stopChan_stopped (s : State) {r : ChannelRec} {m : Bool} {n : Nat} (on : r.state = .on m n) :
    Stopped c r s ((s.setChan c r).stopChan c) := by
  have dark : ((s.setChan c r).clearOutput c).outHigh c = true ↔ s.outHigh c = true ∧ c ≠ c := outHigh_clear rfl
  rw [stopChan_on (m := m) (n := n) (by rw [chan_setChan_self]; exact on), chan_setChan_self]
  refine ⟨rfl, chan_setChan_self _ _ _, fun d e => ?_, ?_, ⟨rfl, rfl⟩, rfl, rfl⟩
  · rw [chan_setChan_other _ _ _ _ e]
    exact chan_setChan_other s _ _ _ e
  · exact Bool.eq_false_iff.2 fun high => (dark.1 high).2 rfl

theorem Stopped.settle {r : ChannelRec} (h : Stopped c r s t) : Stopped c r s t.settle := by
  have chan (d : Chan) := settle_chan t d
  refine ⟨(settle_port t).trans h.port, (chan c).trans h.self, fun d e => (chan d).trans (h.others d e), ?_,
    by rw [settle_startList, settle_elapsed]; exact h.seq, (settle_table t).trans h.table,
    by rw [settle_chans]; exact h.queue⟩
  rw [← settle_latch_subset, BitVec.getLsbD_and, h.latch, Bool.and_false]

theorem Stopped.none_own {r : ChannelRec} (h : Stopped c r s t) : ∀ r ∈ t.table.recs, r.view ≠ .own c := by
  rw [h.table]
  exact returnUnits_none_own s c

/-- Min on runs out for a channel with its stop pending (R75, R76). -/
theorem minOnExpiry_stops {n : Nat} (marked : (s.chan c).state = .on true n) :
    Stopped c (s.chan c) s (s.takeMinOnExpiry c).settle := by
  let r : ChannelRec := { s.chan c with state := .on true (max n (s.port.image.minOnUs c)) }
  obtain ⟨port, self, others, latch, seq, table, queue⟩ := (stopChan_stopped (c := c) (r := r) s rfl).settle
  rw [takeMinOnExpiry_on marked]
  exact ⟨port, self, others, latch, seq, table, queue⟩

end

/-- Settles O34: the expiry is the stop of a marked channel, whose kept units are the lowest-numbered ones. -/
theorem minOnExpiryStopsMarked : Obligations.MinOnExpiryStopsMarked := by
  unfold Obligations.MinOnExpiryStopsMarked
  refine ⟨fun s c n => ⟨fun marked => ?_, fun unmarked => ?_⟩, fun s c n k r marked record => ?_⟩
  · have stop := minOnExpiry_stops marked
    refine ⟨(s.takeMinOnExpiry c).settle, rfl, ?_, ?_, ?_, stop.latch, stop.seq.2, stop.port, stop.none_own,
      stop.others⟩
    all_goals rw [stop.self]
  · refine ⟨(s.takeMinOnExpiry c).settle, rfl, ?_⟩
    rw [takeMinOnExpiry_on unmarked, if_neg Bool.false_ne_true, settle_chan, settle_table, settle_chans, settle_port,
      chan_setChState_self]
    exact ⟨rfl, rfl, rfl, rfl⟩
  · have table := (minOnExpiry_stops marked).table
    refine ⟨(s.takeMinOnExpiry c).settle, { r with view := s.viewReturned c k r.view }, rfl,
      by rw [table, returnUnits_record, record]; rfl, rfl, fun other => if_neg other, fun own =>
        ⟨fun room => ?_, fun full => ?_⟩⟩
    all_goals
      unfold State.viewReturned
      rw [if_pos own]
    · exact if_pos ((mem_keptSpares record own).2 room)
    · refine if_neg fun kept => ?_
      have room := (mem_keptSpares record own).1 kept
      omega

end Sys2Proof.Machine

namespace Sys2Proof.Machine

/-! ### One demand input is written (R69, R71 to R76) -/

section
variable {s t u : State} {c d : Chan} {r : ChannelRec}

/-- Effective demand that stays is no event. -/
theorem writeInputs_same (stays : Demands s.port.image c (s.chan c) ↔ Demands s.port.image c r) :
    s.writeInputs c r = s.setChan c r := by
  refine if_pos (Bool.eq_iff_iff.2 ?_)
  rw [demand_iff, demand_iff, chan_setChan_self]
  exact stays

theorem writeInputs_appears (none : ¬ Demands s.port.image c (s.chan c)) (demands : Demands s.port.image c r) :
    s.writeInputs c r = (s.setChan c r).demandAppears c := by
  have after : (s.setChan c r).demand c = true := (demand_iff _ c).2 (by rw [chan_setChan_self]; exact demands)
  have before : s.demand c = false := Bool.eq_false_iff.2 (mt (demand_iff s c).1 none)
  unfold State.writeInputs
  dsimp only
  rw [before, after, if_neg Bool.false_ne_true, if_pos rfl]

theorem writeInputs_disappears (demands : Demands s.port.image c (s.chan c)) (none : ¬ Demands s.port.image c r) :
    s.writeInputs c r = (s.setChan c r).demandDisappears c := by
  have after : (s.setChan c r).demand c = false :=
    Bool.eq_false_iff.2 (mt (demand_iff _ c).1 (by rw [chan_setChan_self]; exact none))
  have before : s.demand c = true := (demand_iff s c).2 demands
  unfold State.writeInputs
  dsimp only
  rw [before, after, if_neg Bool.true_eq_false.mp, if_neg Bool.false_ne_true]

/-- Nothing but one channel's record is written, and the station settles. -/
theorem setChan_settle (s : State) (c : Chan) (r : ChannelRec) :
    (s.setChan c r).settle.chan c = r ∧ OthersStay s (s.setChan c r).settle c := by
  refine ⟨?_, othersStay_setChan s c r⟩
  rw [settle_chan, chan_setChan_self]

theorem demandAppears_off (off : r.state = .off) : EntersWaiting s ((s.setChan c r).demandAppears c).settle c := by
  unfold State.demandAppears
  rw [chan_setChan_self, off]
  exact settle_entersWaiting (entersWaiting_setChan s c r)

theorem demandAppears_marked {n : Nat} (marked : r.state = .on true n) :
    (s.setChan c r).demandAppears c = s.setChan c { r with state := .on false n } := by
  unfold State.demandAppears
  rw [chan_setChan_self, marked]
  unfold State.setChState
  dsimp only
  rw [setChan_setChan, chan_setChan_self]

theorem demandAppears_kept (off : r.state ≠ .off) (marked : ∀ n, r.state ≠ .on true n) :
    (s.setChan c r).demandAppears c = s.setChan c r := by
  unfold State.demandAppears
  rw [chan_setChan_self]
  split
  · contradiction
  · rename_i n on
    exact absurd on (marked n)
  · rfl

/-- A WAITING channel leaves the queue, and its request loses its requester (R73, R109). -/
theorem demandDisappears_waiting {e : Nat} {w : Option Nat} (waiting : r.state = .waiting e w) :
    (s.setChan c r).demandDisappears c = ((s.setChan c r).leaveQueue c).setChan c { r with state := .off } := by
  unfold State.demandDisappears
  rw [chan_setChan_self, waiting]
  unfold State.setChState
  dsimp only
  rw [leaveQueue_chan, chan_setChan_self]

theorem demandDisappears_starting (starting : r.state = .starting) :
    (s.setChan c r).demandDisappears c =
      (((s.setChan c r).returnUnits c).setChan c { r with state := .off }).removeStart c false := by
  have start : ((s.setChan c r).chan c).state = .starting := by rw [chan_setChan_self]; exact starting
  unfold State.demandDisappears
  rw [start]
  dsimp only
  rw [stopChan_starting start]
  unfold State.setChState
  rw [show ((s.setChan c r).returnUnits c).chan c = r from chan_setChan_self s c r]

theorem demandDisappears_on {m : Bool} {n : Nat} (on : r.state = .on m n) :
    (s.setChan c r).demandDisappears c = if s.port.image.minOnUs c ≤ n then (s.setChan c r).stopChan c
      else s.setChan c { r with state := .on true n } := by
  unfold State.demandDisappears
  rw [chan_setChan_self, on]
  unfold State.setChState
  dsimp only
  rw [setChan_setChan, chan_setChan_self]
  rfl

theorem demandDisappears_kept (idle : r.state ∈ [.off, .cooldown, .parked, .disabled]) :
    (s.setChan c r).demandDisappears c = s.setChan c r := by
  unfold State.demandDisappears
  rw [chan_setChan_self]
  split <;> simp_all

/-- A STARTING channel's removal from the start list may turn on the new head, never the channel itself (R74, R95). -/
structure Unstarted (c : Chan) (s t : State) : Prop where
  self : t.chan c = s.chan c
  list : c ∉ t.seq.startList
  table : t.table = s.table
  queue : t.chans.queue = s.chans.queue

theorem removeStart_unstarted (s : State) (c : Chan) : Unstarted c s (s.removeStart c false) := by
  have removed : Unstarted c s (s.removeStart c true) := by
    rw [removeStart_leaving]
    exact ⟨rfl, by simp, rfl, rfl⟩
  obtain e | e := removeStart_cases s c false
  all_goals rw [e]
  · exact removed
  · cases head : (s.removeStart c true).seq.startList with
    | nil =>
      unfold State.checkHead
      rw [head]
      exact removed
    | cons d rest =>
      have gone := removed.list
      rw [head, List.mem_cons, not_or] at gone
      rw [checkHead_cons head]
      split
      · exact ⟨(turnOn_chan_other gone.1).trans removed.self, by rw [turnOn_seq, head]; exact gone.2, removed.table,
          removed.queue⟩
      · exact removed

/-- The demand event of a channel of which one input is written (R69). -/
theorem writeInputs_demandTaken (s : State) (c : Chan) (state : r.state = (s.chan c).state) :
    DemandTaken s (s.writeInputs c r).settle c r where
  same stays := by
    rw [writeInputs_same stays]
    exact setChan_settle s c r
  appears none demands := by
    rw [writeInputs_appears none demands, ← state]
    refine ⟨demandAppears_off, fun n marked => ?_, fun off marked => ?_⟩
    · rw [demandAppears_marked marked]
      exact setChan_settle s c _
    · rw [demandAppears_kept off marked]
      exact setChan_settle s c r
  waiting demands none e w waiting := by
    rw [writeInputs_disappears demands none, demandDisappears_waiting (state.trans waiting), settle_chan, settle_chans,
      settle_notice, settle_table, chan_setChan_self, leaveQueue_eq]
    refine ⟨rfl, rfl, rfl, rfl, fun d e => ?_⟩
    rw [settle_chan, chan_setChan_other _ _ _ _ e]
    exact chan_setChan_other s _ _ _ e
  starting demands none starting := by
    have gone := removeStart_unstarted (((s.setChan c r).returnUnits c).setChan c { r with state := .off }) c
    rw [writeInputs_disappears demands none, demandDisappears_starting (state.trans starting), settle_chan,
      settle_startList, settle_table, settle_chans]
    refine ⟨gone.self.trans (chan_setChan_self _ c _), gone.list, ?_, gone.queue⟩
    rw [gone.table]
    exact returnUnits_none_own (s.setChan c r) c
  on demands none m n on := by
    rw [writeInputs_disappears demands none, demandDisappears_on (state.trans on)]
    refine ⟨fun elapsed => ?_, fun early => ?_⟩
    · have stop := (stopChan_stopped (c := c) s (state.trans on)).settle
      rw [if_pos elapsed]
      exact ⟨stop.self, stop.latch, stop.none_own, stop.queue, stop.seq.1, stop.seq.2, stop.others⟩
    · rw [if_neg (Nat.not_le.2 early)]
      exact setChan_settle s c _
  other demands none idle := by
    rw [writeInputs_disappears demands none, demandDisappears_kept (state ▸ idle)]
    exact setChan_settle s c r

end

end Sys2Proof.Machine

namespace Sys2Proof.Machine

/-! ### Demand inputs: level, soft bit, park bit and the filter's run (R67, R68, R85) -/

/-- What pins and commands write of a channel. -/
structure DemandInputs where
  level : Bool
  soft : Bool
  park : Bool
  run : Nat

def ChannelRec.inputs (r : ChannelRec) : DemandInputs :=
  { level := r.level, soft := r.soft, park := r.park, run := r.run }

/-- Every channel's demand inputs stay. -/
def KeepsInputs (s t : State) : Prop := ∀ d, (t.chan d).inputs = (s.chan d).inputs

section
variable {s t u : State} {c d : Chan} {r : ChannelRec}

theorem KeepsInputs.refl (s : State) : KeepsInputs s s := fun _ => rfl

theorem KeepsInputs.trans (h : KeepsInputs s t) (k : KeepsInputs t u) : KeepsInputs s u := fun d => (k d).trans (h d)

theorem setChan_inputs (s : State) (same : r.inputs = (s.chan c).inputs) : KeepsInputs s (s.setChan c r) := by
  intro d
  by_cases e : d = c
  · rw [e, chan_setChan_self]
    exact same
  · rw [chan_setChan_other _ _ _ _ e]

theorem setChState_inputs (s : State) (c : Chan) (x : ChState) : KeepsInputs s (s.setChState c x) :=
  setChan_inputs s rfl

/-- State and off-since timer are no inputs. -/
theorem KeepsInputs.rewritten (h : KeepsInputs s t) (x : ChState) (o : Option Nat) :
    KeepsInputs s (t.setChan c { s.chan c with state := x, offSince := o }) :=
  h.trans (setChan_inputs t (by rw [h]; rfl))

theorem leaveQueue_inputs (s : State) (c : Chan) : KeepsInputs s (s.leaveQueue c) := fun d => by rw [leaveQueue_chan]

/-- Turn-ons and bindings of spares write states alone (R74, R94). -/
theorem Advances.keepsInputs {waits starts : Chan → Prop} (h : Advances waits starts s t) : KeepsInputs s t := by
  intro d
  obtain e | ⟨x, -, e⟩ := (h.chan d).1
  all_goals rw [e]
  rfl

theorem removeStart_inputs (s : State) (c : Chan) : KeepsInputs s (s.removeStart c false) := by
  have removed : KeepsInputs s (s.removeStart c true) := by
    rw [removeStart_leaving]
    exact fun _ => rfl
  obtain e | e := removeStart_cases s c false
  all_goals rw [e]
  · exact removed
  · exact removed.trans (checkHead_advances (within_all _)).keepsInputs

theorem joinQueue_inputs (s : State) (c : Chan) : KeepsInputs s (s.joinQueue c) := by
  intro d
  by_cases e : d = c
  · rw [e, joinQueue_chan_self]
    rfl
  · rw [joinQueue_chan_other _ c d e]

theorem enterWaiting_inputs (s : State) (c : Chan) : KeepsInputs s (s.enterWaiting c false) :=
  (joinQueue_inputs s c).trans (spareCheck_advances (within_all (s.joinQueue c))).keepsInputs

theorem stopChan_inputs (s : State) (c : Chan) : KeepsInputs s (s.stopChan c) := by
  cases state : (s.chan c).state with
  | on m n =>
    rw [stopChan_on state]
    have off : KeepsInputs s ((s.clearOutput c).returnUnits c) := fun _ => rfl
    exact off.rewritten _ _
  | starting =>
    rw [stopChan_starting state]
    exact (setChState_inputs (s.returnUnits c) c .off).trans (removeStart_inputs _ c)
  | _ =>
    unfold State.stopChan
    rw [state]
    exact .refl s

theorem demandAppears_inputs (s : State) (c : Chan) : KeepsInputs s (s.demandAppears c) := by
  unfold State.demandAppears
  split
  · exact enterWaiting_inputs s c
  · exact setChState_inputs s c _
  · exact .refl s

theorem demandDisappears_inputs (s : State) (c : Chan) : KeepsInputs s (s.demandDisappears c) := by
  unfold State.demandDisappears
  split
  · exact (leaveQueue_inputs s c).trans (setChState_inputs _ c _)
  · exact stopChan_inputs s c
  · split
    · exact stopChan_inputs s c
    · exact setChState_inputs s c _
  · exact .refl s

/-- The demand event writes no demand input. -/
theorem writeInputs_inputs (s : State) (c : Chan) (r : ChannelRec) :
    KeepsInputs (s.setChan c r) (s.writeInputs c r) := by
  unfold State.writeInputs
  dsimp only
  split
  · exact .refl _
  · split
    · exact demandAppears_inputs _ c
    · exact demandDisappears_inputs _ c

/-! ### A mask's channels, one after the other (R67, R68, R85, R86) -/

theorem mem_chansIn {mask : BitVec 8} : c ∈ chansIn mask ↔ mask.getLsbD c.val = true := by
  simp [chansIn, mem_allChans]

theorem chansIn_nodup (mask : BitVec 8) : (chansIn mask).Nodup := allChans_nodup.filter _

theorem chansIn_twoPow : ∀ c : Chan, chansIn (BitVec.twoPow 8 c.val) = [c] := by decide

/-- A fold takes each channel of a list in turn. What it makes of the channel itself (done) survives what it may make of
the others (kept), before and after. -/
structure EachTaken (f : State → Chan → State) (P : State → Prop) (done kept : ChannelRec → ChannelRec → Prop) :
    Prop where
  holds {s : State} (c : Chan) : P s → P (f s c)
  self {s : State} (c : Chan) : P s → done (s.chan c) ((f s c).chan c)
  other {s : State} {c d : Chan} : P s → d ≠ c → kept (s.chan d) ((f s c).chan d)
  refl (x : ChannelRec) : kept x x
  trans {x y z : ChannelRec} : kept x y → kept y z → kept x z
  before {x y z : ChannelRec} : kept x y → done y z → done x z
  after {x y z : ChannelRec} : done x y → kept y z → done x z

theorem EachTaken.fold {f : State → Chan → State} {P : State → Prop} {done kept : ChannelRec → ChannelRec → Prop}
    (each : EachTaken f P done kept) {l : List Chan} (once : l.Nodup) (h : P s) (d : Chan) :
    (d ∈ l → done (s.chan d) ((l.foldl f s).chan d)) ∧ (d ∉ l → kept (s.chan d) ((l.foldl f s).chan d)) := by
  induction l generalizing s with
  | nil => exact ⟨nofun, fun _ => each.refl _⟩
  | cons c l ih =>
    obtain ⟨out, once⟩ := List.nodup_cons.1 once
    obtain ⟨later, never⟩ := ih once (each.holds c h)
    refine ⟨fun mem => ?_, fun absent => ?_⟩
    · by_cases e : d = c
      · subst e
        exact each.after (each.self d h) (never out)
      · exact each.before (each.other h e) (later ((List.mem_cons.1 mem).resolve_left e))
    · obtain ⟨e, absent⟩ := not_or.1 (mt List.mem_cons.2 absent)
      exact each.trans (each.other h e) (never absent)

/-- Each channel's demand inputs become what g makes of them. -/
theorem writeInputs_each (g : ChannelRec → ChannelRec) (i : DemandInputs → DemandInputs)
    (inputs : ∀ r, (g r).inputs = i r.inputs) :
    EachTaken (fun u c => u.writeInputs c (g (u.chan c))) (fun _ => True) (fun x y => y.inputs = i x.inputs)
      fun x y => y.inputs = x.inputs where
  holds _ _ := trivial
  self {s} c _ := by rw [writeInputs_inputs, chan_setChan_self, inputs]
  other {s c d} _ e := by rw [writeInputs_inputs, chan_setChan_other _ _ _ _ e]
  refl _ := rfl
  trans h k := k.trans h
  before h k := k.trans (congrArg i h)
  after h k := k.trans h

theorem toggleLevel_each : EachTaken State.toggleLevel (fun _ => True)
    (fun x y => y.inputs = { x.inputs with level := !x.level, run := 0 }) fun x y => y.inputs = x.inputs :=
  writeInputs_each (fun r => { r with level := !r.level, run := 0 }) (fun i => { i with level := !i.level, run := 0 })
    fun _ => rfl

theorem writeSoft_each (b : Bool) : EachTaken (State.writeSoft b) (fun _ => True)
    (fun x y => y.inputs = { x.inputs with soft := b }) fun x y => y.inputs = x.inputs :=
  writeInputs_each (fun r => { r with soft := b }) (fun i => { i with soft := b }) fun _ => rfl

end

/-- Settles O38: each named pin's channel has its record written and takes its own demand event, which writes no input
of any channel. -/
theorem filteredLevelChangeMovesDemand : Obligations.FilteredLevelChangeMovesDemand := by
  unfold Obligations.FilteredLevelChangeMovesDemand
  intro s locked
  have taken (pins : BitVec 8) : s.takeLevelChange pins = (chansIn pins).foldl State.toggleLevel s := if_pos locked
  have frame (pins : BitVec 8) := takeLevelChange_load s pins
  refine ⟨fun pins => ⟨(s.takeLevelChange pins).settle, rfl, fun c => ?_, ?_, ?_, ?_⟩,
    fun c => ⟨(s.takeLevelChange (BitVec.twoPow 8 c.val)).settle, rfl, ?_, ?_⟩⟩
  · obtain ⟨named, unnamed⟩ := toggleLevel_each.fold (chansIn_nodup pins) (s := s) trivial c
    rw [settle_chan, taken]
    by_cases pin : pins.getLsbD c.val = true
    · have inputs := named (mem_chansIn.2 pin)
      rw [pin, Bool.xor_true, if_pos rfl]
      exact ⟨congrArg DemandInputs.level inputs, congrArg DemandInputs.run inputs, congrArg DemandInputs.soft inputs,
        congrArg DemandInputs.park inputs⟩
    · have inputs := unnamed (mt mem_chansIn.1 pin)
      rw [if_neg pin, Bool.eq_false_iff.2 pin, Bool.xor_false]
      exact ⟨congrArg DemandInputs.level inputs, congrArg DemandInputs.run inputs, congrArg DemandInputs.soft inputs,
        congrArg DemandInputs.park inputs⟩
  · rw [settle_port, (frame pins).port]
  · rw [settle_cont, (frame pins).cont]
  · rw [settle_state, (frame pins).stn]
  · rw [settle_port, (frame _).port]
  · rw [taken, chansIn_twoPow]
    exact writeInputs_demandTaken s c rfl

end Sys2Proof.Machine

namespace Sys2Proof.Machine

/-! ### The commands that take the channels of a mask (R68, R85, R86, R166, R167) -/

section
variable {s t u : State} {c d : Chan} {r : ChannelRec} {f : State → Chan → State}

/-- What such a command leaves after LOCK: its channels taken in turn, the conditions, its reply. -/
def masked (f : State → Chan → State) (mask : Byte) (s : State) : State :=
  (((chansIn mask).foldl f s).settle).finishWrite .accepted

theorem maskCommand_accepted (f : State → Chan → State) (mask : Byte) (out : s.stn.state ≠ .config) :
    s.writeCommand (whole [mask]) 1 s.afterLock (fun u => ((chansIn mask).foldl f u).settle) = masked f mask s := by
  have verdict : s.afterLock = .accepted := if_neg (by simpa [State.inConfig] using out)
  rw [verdict]
  exact writeCommand_accepted s _ 1 _ rfl

theorem maskCommand_refused (f : State → Chan → State) (mask : Byte) (config : s.stn.state = .config) :
    RepliedOnly s (s.writeCommand (whole [mask]) 1 s.afterLock fun u => ((chansIn mask).foldl f u).settle) .state := by
  have verdict : s.afterLock = .state := if_pos (by simpa [State.inConfig] using config)
  rw [verdict, writeCommand_refused s (whole [mask]) 1 .state _ rfl (by decide)]
  exact finishWrite_repliedOnly s .state

theorem finishWrite_accepted (s : State) :
    s.finishWrite .accepted = s.setPort { s.port with reply := .accepted, rx := SpiRx.reset } :=
  finishWrite_eq s .accepted

theorem masked_chan (f : State → Chan → State) (mask : Byte) (s : State) (c : Chan) :
    (masked f mask s).chan c = ((chansIn mask).foldl f s).chan c := by
  rw [masked, finishWrite_accepted]
  exact settle_chan _ c

/-- One channel alone. -/
theorem masked_one (f : State → Chan → State) (s : State) (c : Chan) :
    masked f (BitVec.twoPow 8 c.val) s = (f s c).settle.finishWrite .accepted := by
  rw [masked, chansIn_twoPow]
  rfl

/-- Reply, events and image, where each channel's event writes the load blocks alone. -/
theorem masked_port (load : ∀ s c, LoadFrame s (f s c)) (mask : Byte) (s : State) :
    (masked f mask s).port.reply = .accepted ∧ (masked f mask s).port.events = s.port.events ∧
      (masked f mask s).port.image = s.port.image := by
  have port : ((chansIn mask).foldl f s).settle.port = s.port := (settle_port _).trans (foldl_load f load _ s).port
  have events := congrArg LocalPort.events port
  have image := congrArg LocalPort.image port
  rw [masked, finishWrite_accepted]
  exact ⟨rfl, events, image⟩

theorem EntersWaiting.finish (h : EntersWaiting s t c) (r : Reply) : EntersWaiting s (t.finishWrite r) c := by
  rw [finishWrite_eq]
  exact h.of_same rfl rfl

theorem OthersStay.finish (h : OthersStay s t c) (r : Reply) : OthersStay s (t.finishWrite r) c := by
  rw [finishWrite_eq]
  exact h.of_same rfl rfl rfl

/-- The reply is no part of a demand event. -/
theorem DemandTaken.finish (h : DemandTaken s t c r) (v : Reply) : DemandTaken s (t.finishWrite v) c r := by
  have enters (k : EntersWaiting s t c) := k.finish v
  rw [finishWrite_eq] at enters ⊢
  refine ⟨h.same, fun none demands => ?_, h.waiting, h.starting, h.on, h.other⟩
  obtain ⟨off, marked, kept⟩ := h.appears none demands
  exact ⟨fun e => enters (off e), marked, kept⟩

/-- The soft bits of a mask's channels (R68). -/
theorem masked_writeSoft (b : Bool) (mask : Byte) (s : State) (c : Chan) :
    ((masked (State.writeSoft b) mask s).chan c).soft = (if mask.getLsbD c.val then b else (s.chan c).soft) ∧
    ((masked (State.writeSoft b) mask s).chan c).park = (s.chan c).park ∧
    ((masked (State.writeSoft b) mask s).chan c).level = (s.chan c).level := by
  obtain ⟨named, unnamed⟩ := (writeSoft_each b).fold (chansIn_nodup mask) (s := s) trivial c
  rw [masked_chan]
  split
  · rename_i bit
    have inputs := named (mem_chansIn.2 bit)
    exact ⟨congrArg DemandInputs.soft inputs, congrArg DemandInputs.park inputs, congrArg DemandInputs.level inputs⟩
  · rename_i bit
    have inputs := unnamed (mt mem_chansIn.1 bit)
    exact ⟨congrArg DemandInputs.soft inputs, congrArg DemandInputs.park inputs, congrArg DemandInputs.level inputs⟩

theorem masked_writeSoft_one (b : Bool) (s : State) (c : Chan) :
    DemandTaken s (masked (State.writeSoft b) (BitVec.twoPow 8 c.val) s) c { s.chan c with soft := b } := by
  rw [masked_one]
  exact (writeInputs_demandTaken (r := { s.chan c with soft := b }) s c rfl).finish .accepted

end

/-- Settles O39: after LOCK each channel of the mask has its soft bit written and takes its own demand event; in CONFIG
the reply alone is written. -/
theorem demandCommandsMoveDemand : Obligations.DemandCommandsMoveDemand := by
  unfold Obligations.DemandCommandsMoveDemand
  intro s
  have load (b : Bool) (u : State) (c : Chan) : LoadFrame u (u.writeSoft b c) := writeInputs_load u c _
  refine ⟨fun out => ?_, fun config mask => ⟨⟨_, rfl, maskCommand_refused _ mask config⟩, _, rfl,
    maskCommand_refused _ mask config⟩⟩
  have set (mask : Byte) : exec (.demandSet (whole [mask])) s = .next (masked (State.writeSoft true) mask s) :=
    congrArg Host.Outcome.next (maskCommand_accepted _ mask out)
  have clear (mask : Byte) : exec (.demandClear (whole [mask])) s = .next (masked (State.writeSoft false) mask s) :=
    congrArg Host.Outcome.next (maskCommand_accepted _ mask out)
  refine ⟨fun mask => ⟨⟨_, set mask, ?_⟩, _, clear mask, ?_⟩,
    fun c => ⟨⟨_, set _, masked_writeSoft_one true s c⟩, _, clear _, masked_writeSoft_one false s c⟩⟩
  · obtain ⟨reply, events, image⟩ := masked_port (load true) mask s
    refine ⟨reply, events, image, fun c => ?_⟩
    obtain ⟨soft, park, level⟩ := masked_writeSoft true mask s c
    refine ⟨soft.trans ?_, park, level⟩
    cases mask.getLsbD c.val <;> simp
  · obtain ⟨reply, events, image⟩ := masked_port (load false) mask s
    refine ⟨reply, events, image, fun c => ?_⟩
    obtain ⟨soft, park, level⟩ := masked_writeSoft false mask s c
    refine ⟨soft.trans ?_, park, level⟩
    cases mask.getLsbD c.val <;> simp

end Sys2Proof.Machine

namespace Sys2Proof.Machine

/-! ### Parking (R82, R83, R85) -/

section
variable {s t u : State} {c d : Chan} {r : ChannelRec}

/-- A channel's record stays, or, where it stood in the start list, it is turned on (R94). -/
def TurnedOn (s : State) (d : Chan) (y : ChannelRec) : Prop :=
  y = s.chan d ∨ d ∈ s.seq.startList ∧ y = { s.chan d with state := .on false 0 }

theorem removeStart_chan_other (s : State) (c d : Chan) : TurnedOn s d ((s.removeStart c false).chan d) := by
  have removed : (s.removeStart c true).chan d = s.chan d := by
    rw [removeStart_leaving]
    rfl
  obtain e | e := removeStart_cases s c false
  all_goals rw [e]
  · exact .inl removed
  · cases head : (s.removeStart c true).seq.startList with
    | nil =>
      unfold State.checkHead
      rw [head]
      exact .inl removed
    | cons a rest =>
      rw [checkHead_cons head]
      split
      · by_cases e : d = a
        · rw [e, turnOn_chan_self, ← e, removed]
          refine .inr ⟨?_, rfl⟩
          have mem : d ∈ (s.removeStart c true).seq.startList := by rw [head, e]; exact List.mem_cons_self
          rw [removeStart_leaving] at mem
          exact List.mem_of_mem_filter mem
        · rw [turnOn_chan_other e]
          exact .inl removed
      · exact .inl removed

theorem shedPark_on {m : Bool} {n : Nat} (on : (s.chan c).state = .on m n) :
    s.shedChan .park false c = (s.shedOn .park c).setChState c .parked := by
  unfold State.shedChan
  rw [on]
  rfl

theorem shedPark_starting (starting : (s.chan c).state = .starting) : s.shedChan .park false c =
    (((s.releaseUnits c).writeCause c .park).setChState c .parked).removeStart c false := by
  unfold State.shedChan
  rw [starting]
  rfl

theorem shedPark_waiting {e : Nat} {w : Option Nat} (waiting : (s.chan c).state = .waiting e w) :
    s.shedChan .park false c = ((s.leaveQueue c).writeCause c .park).setChState c .parked := by
  unfold State.shedChan
  rw [waiting]
  rfl

/-- The channel is parked with its park bit set, unless DISABLED. -/
def Parked (x y : ChannelRec) : Prop :=
  y.park = true ∧ y.soft = x.soft ∧ y.state = if x.state = .disabled then .disabled else .parked

/-- What PARK of another channel may do to one: no more than turn it on. -/
def NotParked (x y : ChannelRec) : Prop :=
  y.park = x.park ∧ y.soft = x.soft ∧ (y.state = x.state ∨ x.state = .starting ∧ y.state = .on false 0)

/-- A WAITING, STARTING or ON channel is parked by a shed with cause PARK (R82, R85). -/
theorem shedPark_self (loaded : ¬ ((s.chan c).state.isWaiting = false ∧ (s.chan c).state.holdsUnits = false)) :
    ((s.shedChan .park false c).chan c).park = (s.chan c).park ∧
      ((s.shedChan .park false c).chan c).soft = (s.chan c).soft ∧
      ((s.shedChan .park false c).chan c).state = .parked := by
  cases state : (s.chan c).state with
  | on m n =>
    rw [shedPark_on state, chan_setChState_self, shedOn_chan_self]
    exact ⟨rfl, rfl, rfl⟩
  | starting =>
    rw [shedPark_starting state, (removeStart_unstarted _ c).self, chan_setChState_self]
    unfold State.writeCause
    rw [chan_setChan_self]
    exact ⟨rfl, rfl, rfl⟩
  | waiting e w =>
    rw [shedPark_waiting state, chan_setChState_self]
    unfold State.writeCause
    rw [chan_setChan_self, leaveQueue_chan]
    exact ⟨rfl, rfl, rfl⟩
  | _ =>
    rw [state] at loaded
    exact absurd ⟨rfl, rfl⟩ loaded

theorem shedPark_other (other : d ≠ c) : TurnedOn s d ((s.shedChan .park false c).chan d) := by
  cases state : (s.chan c).state with
  | on m n =>
    rw [shedPark_on state, chan_setChState_other _ _ _ _ other]
    exact .inl (shedOn_chan_other s c d .park other)
  | starting =>
    have released : (((s.releaseUnits c).writeCause c .park).setChState c .parked).chan d = s.chan d := by
      rw [chan_setChState_other _ _ _ _ other]
      exact chan_setChan_other _ _ _ _ other
    rw [shedPark_starting state]
    have on := removeStart_chan_other (((s.releaseUnits c).writeCause c .park).setChState c .parked) c d
    unfold TurnedOn at on
    rw [released] at on
    exact on
  | waiting e w =>
    rw [shedPark_waiting state, chan_setChState_other _ _ _ _ other]
    exact .inl ((chan_setChan_other _ _ _ _ other).trans (leaveQueue_chan s c d))
  | _ =>
    unfold State.shedChan
    rw [state]
    exact .inl rfl

/-- The channel's park bit is set. -/
def State.parkBit (s : State) (c : Chan) : State := s.setChan c { s.chan c with park := true }

theorem parkBit_chan_self (s : State) (c : Chan) : (s.parkBit c).chan c = { s.chan c with park := true } :=
  chan_setChan_self s c _

theorem parkBit_chan_other (other : d ≠ c) : (s.parkBit c).chan d = s.chan d := chan_setChan_other _ _ _ _ other

/-- PARK of one channel: a shed, a change of state, or the bit alone (R85). -/
theorem parkChan_cases (s : State) (c : Chan) :
    (s.chan c).state ≠ .disabled ∧ s.parkChan c = (s.parkBit c).shedChan .park false c ∧
        ¬ ((s.chan c).state.isWaiting = false ∧ (s.chan c).state.holdsUnits = false) ∨
      (s.chan c).state ≠ .disabled ∧ s.parkChan c = (s.parkBit c).setChState c .parked ∨
      (s.chan c).state ∈ [.parked, .disabled] ∧ s.parkChan c = s.parkBit c := by
  unfold State.parkChan
  split
  case h_1 e | h_2 e => exact .inr (.inl ⟨by rw [e]; nofun, rfl⟩)
  case h_3 e | h_4 e | h_5 e => exact .inl ⟨by rw [e]; nofun, rfl, by rw [e]; nofun⟩
  case h_6 e | h_7 e => exact .inr (.inr ⟨by rw [e]; simp, rfl⟩)

theorem parkChan_self (s : State) (c : Chan) : Parked (s.chan c) ((s.parkChan c).chan c) := by
  have bit := parkBit_chan_self s c
  unfold Parked
  obtain ⟨enabled, e, loaded⟩ | ⟨enabled, e⟩ | ⟨out, e⟩ := parkChan_cases s c
  all_goals rw [e]
  · obtain ⟨park, soft, state⟩ := shedPark_self (s := s.parkBit c) (c := c) (by rw [bit]; exact loaded)
    rw [park, soft, state, bit, if_neg enabled]
    exact ⟨rfl, rfl, rfl⟩
  · rw [chan_setChState_self, bit, if_neg enabled]
    exact ⟨rfl, rfl, rfl⟩
  · rw [bit]
    refine ⟨rfl, rfl, ?_⟩
    obtain parked | disabled : (s.chan c).state = .parked ∨ (s.chan c).state = .disabled := by simpa using out
    · exact parked.trans (if_neg (by rw [parked]; nofun)).symm
    · exact disabled.trans (if_pos disabled).symm

theorem parkChan_other (s : State) (other : d ≠ c) : TurnedOn s d ((s.parkChan c).chan d) := by
  have bit : (s.parkBit c).chan d = s.chan d := parkBit_chan_other other
  obtain ⟨-, e, -⟩ | ⟨-, e⟩ | ⟨-, e⟩ := parkChan_cases s c
  all_goals rw [e]
  · have shed := shedPark_other (s := s.parkBit c) other
    unfold TurnedOn at shed
    rw [bit] at shed
    exact shed
  · rw [chan_setChState_other _ _ _ _ other]
    exact .inl bit
  · exact .inl bit

/-- PARK of a mask's channels: as the start list holds STARTING channels alone, none that is parked turns on. -/
theorem parkChan_each : EachTaken State.parkChan QueuesMatchStates Parked NotParked where
  holds c h := queuesMatch_keeps.parkChan h c
  self {s} c _ := parkChan_self s c
  other {s c d} h e := by
    obtain same | ⟨listed, on⟩ := parkChan_other s e
    · rw [same]
      exact ⟨rfl, rfl, .inl rfl⟩
    · rw [on]
      exact ⟨rfl, rfl, .inr ⟨(((queuesMatch_iff s).1 h).starting d).1 listed, rfl⟩⟩
  refl x := ⟨rfl, rfl, .inl rfl⟩
  trans {x y z} h k := by
    obtain ⟨park, soft, state⟩ := h
    obtain ⟨park', soft', state'⟩ := k
    refine ⟨park'.trans park, soft'.trans soft, ?_⟩
    obtain same' | ⟨starting', on'⟩ := state'
    · rw [same']
      exact state
    · obtain same | ⟨-, on⟩ := state
      · exact .inr ⟨same ▸ starting', on'⟩
      · rw [on] at starting'
        cases starting'
  before {x y z} h k := by
    obtain ⟨-, soft, state⟩ := h
    obtain ⟨park', soft', state'⟩ := k
    refine ⟨park', soft'.trans soft, state'.trans ?_⟩
    obtain same | ⟨starting, on⟩ := state
    · rw [same]
    · rw [starting, on]
      rfl
  after {x y z} h k := by
    obtain ⟨park, soft, state⟩ := h
    obtain ⟨park', soft', state'⟩ := k
    refine ⟨park'.trans park, soft'.trans soft, ?_⟩
    obtain same' | ⟨starting', -⟩ := state'
    · exact same'.trans state
    · rw [state] at starting'
      split at starting' <;> cases starting'

/-! ### Unparking (R72, R79, R86) -/

/-- The park bit is clear and the channel is not PARKED. -/
def Unparked (x y : ChannelRec) : Prop := y.park = false ∧ y.soft = x.soft ∧ y.state ≠ .parked

/-- What UNPARK of another channel may do to one: no more than start it. -/
def StaysUnparked (x y : ChannelRec) : Prop :=
  y.park = x.park ∧ y.soft = x.soft ∧ (x.state ≠ .parked → y.state ≠ .parked)

theorem minOffOver_iff (s : State) (c : Chan) :
    s.minOffOver c = true ↔ ∀ n, (s.chan c).offSince = some n → s.port.image.minOffUs c ≤ n := by
  unfold State.minOffOver
  cases (s.chan c).offSince <;> simp

theorem unparkChan_other_state (state : (s.chan c).state ≠ .parked) :
    s.unparkChan c = s.setChan c { s.chan c with park := false } := by
  unfold State.unparkChan
  split
  · contradiction
  · rfl

/-- A PARKED channel goes to COOLDOWN while min off has not run out, else to OFF and on (R86). -/
theorem unparkChan_parked (parked : (s.chan c).state = .parked) : s.unparkChan c =
    if s.minOffOver c then
      if (s.setChan c { s.chan c with park := false, state := .off }).demand c then
        (s.setChan c { s.chan c with park := false, state := .off }).enterWaiting c false
      else s.setChan c { s.chan c with park := false, state := .off }
    else s.setChan c { s.chan c with park := false, state := .cooldown } := by
  have elapsed : (s.setChan c { s.chan c with park := false }).minOffOver c = s.minOffOver c := by
    unfold State.minOffOver
    rw [chan_setChan_self]
    rfl
  unfold State.unparkChan State.setChState
  rw [parked]
  dsimp only
  rw [elapsed, chan_setChan_self, setChan_setChan, setChan_setChan]

/-- An entry to WAITING writes other channels' states alone, and those only to hold units. -/
theorem enterWaiting_starts (s : State) (c d : Chan) :
    Starts ((s.joinQueue c).chan d) ((s.enterWaiting c false).chan d) :=
  ((spareCheck_advances (within_all (s.joinQueue c))).chan d).1

theorem Starts.staysUnparked {x y : ChannelRec} (h : Starts x y) : StaysUnparked x y := by
  obtain rfl | ⟨state, holds, rfl⟩ := h
  · exact ⟨rfl, rfl, id⟩
  · refine ⟨rfl, rfl, fun _ parked => ?_⟩
    change state = .parked at parked
    rw [parked] at holds
    cases holds

theorem unparkChan_self (s : State) (c : Chan) : Unparked (s.chan c) ((s.unparkChan c).chan c) := by
  by_cases parked : (s.chan c).state = .parked
  · rw [unparkChan_parked parked]
    split
    · split
      · obtain ⟨park, soft, state⟩ :=
          (enterWaiting_starts (s.setChan c { s.chan c with park := false, state := .off }) c c).staysUnparked
        rw [joinQueue_chan_self, chan_setChan_self] at park soft state
        exact ⟨park, soft, state nofun⟩
      · rw [chan_setChan_self]
        exact ⟨rfl, rfl, nofun⟩
    · rw [chan_setChan_self]
      exact ⟨rfl, rfl, nofun⟩
  · rw [unparkChan_other_state parked, chan_setChan_self]
    exact ⟨rfl, rfl, parked⟩

theorem unparkChan_other (s : State) (other : d ≠ c) : StaysUnparked (s.chan d) ((s.unparkChan c).chan d) := by
  have written (r : ChannelRec) : (s.setChan c r).chan d = s.chan d := chan_setChan_other _ _ _ _ other
  have same (r : ChannelRec) : StaysUnparked (s.chan d) ((s.setChan c r).chan d) := by
    rw [written]
    exact ⟨rfl, rfl, id⟩
  by_cases parked : (s.chan c).state = .parked
  · rw [unparkChan_parked parked]
    split
    · split
      · have starts := enterWaiting_starts (s.setChan c { s.chan c with park := false, state := .off }) c d
        rw [joinQueue_chan_other _ c d other, written] at starts
        exact starts.staysUnparked
      · exact same _
    · exact same _
  · rw [unparkChan_other_state parked]
    exact same _

theorem unparkChan_each : EachTaken State.unparkChan (fun _ => True) Unparked StaysUnparked where
  holds _ _ := trivial
  self {s} c _ := unparkChan_self s c
  other {s _ _} _ e := unparkChan_other s e
  refl _ := ⟨rfl, rfl, id⟩
  trans := fun ⟨park, soft, state⟩ ⟨park', soft', state'⟩ => ⟨park'.trans park, soft'.trans soft, state' ∘ state⟩
  before := fun ⟨_, soft, _⟩ ⟨park', soft', state'⟩ => ⟨park', soft'.trans soft, state'⟩
  after := fun ⟨park, soft, state⟩ ⟨park', soft', state'⟩ => ⟨park'.trans park, soft'.trans soft, state' state⟩

theorem parkChan_on {m : Bool} {n : Nat} (on : (s.chan c).state = .on m n) :
    s.parkChan c = ((s.parkBit c).shedOn .park c).setChState c .parked := by
  have bit : ((s.parkBit c).chan c).state = .on m n := by rw [parkBit_chan_self]; exact on
  rw [← shedPark_on bit]
  unfold State.parkChan
  rw [on]
  rfl

/-- A channel ON that is parked: off at once, its units released. -/
theorem masked_park_on {m : Bool} {n : Nat} (on : (s.chan c).state = .on m n) :
    let t := masked State.parkChan (BitVec.twoPow 8 c.val) s
    (t.chan c).state = .parked ∧ (t.chan c).lastShed = .park ∧ (t.chan c).offSince = some 0 ∧
      t.seq.latch.getLsbD c.val = false ∧ ViewsBecome s t (fun _ v => if v = .own c then .releasing else v) ∧
      ∀ d, d ≠ c → t.chan d = s.chan d := by
  intro t
  let p := ((s.parkBit c).shedOn .park c).setChState c .parked
  have taken : t = p.settle.finishWrite .accepted := (masked_one _ s c).trans (by rw [parkChan_on on])
  have chan (d : Chan) : t.chan d = p.chan d := by
    rw [taken, finishWrite_accepted]
    exact settle_chan p d
  have self : p.chan c = { s.chan c with park := true, state := .parked, offSince := some 0, lastShed := .park } := by
    rw [chan_setChState_self, shedOn_chan_self, parkBit_chan_self]
  have dark : p.outHigh c = true ↔ s.outHigh c = true ∧ c ≠ c := outHigh_clear rfl
  have latch : t.seq.latch = p.settle.seq.latch := by
    rw [taken, finishWrite_accepted]
    rfl
  have table : t.table = (s.releaseUnits c).table := by
    rw [taken, finishWrite_accepted]
    exact settle_table p
  refine ⟨by rw [chan, self], by rw [chan, self], by rw [chan, self], ?_, fun k => ?_, fun d e => ?_⟩
  · have low : p.seq.latch.getLsbD c.val = false := Bool.eq_false_iff.2 fun high => (dark.1 high).2 rfl
    rw [latch, ← settle_latch_subset, BitVec.getLsbD_and, low, Bool.and_false]
  · rw [table]
    exact mapViews_record s.table _ k
  · rw [chan, chan_setChState_other _ _ _ _ e, shedOn_chan_other _ _ _ _ e, parkBit_chan_other e]

theorem finish_setChan (s : State) (c : Chan) (r : ChannelRec) :
    ((s.setChan c r).settle.finishWrite .accepted).chan c = r ∧
      OthersStay s ((s.setChan c r).settle.finishWrite .accepted) c := by
  obtain ⟨self, others⟩ := setChan_settle s c r
  refine ⟨?_, others.finish .accepted⟩
  rw [finishWrite_accepted]
  exact self

end

/-- Settles O40: PARK and UNPARK take the channels of their mask in turn; what each makes of its channel no later one
undoes, as only STARTING channels turn on and no entry to WAITING parks. -/
theorem parkAndUnparkChannels : Obligations.ParkAndUnparkChannels := by
  unfold Obligations.ParkAndUnparkChannels
  have park (s : State) (mask : Byte) (out : s.stn.state ≠ .config) :
      exec (.park (whole [mask])) s = .next (masked State.parkChan mask s) :=
    congrArg Host.Outcome.next (maskCommand_accepted _ mask out)
  have unpark (s : State) (mask : Byte) (out : s.stn.state ≠ .config) :
      exec (.unpark (whole [mask])) s = .next (masked State.unparkChan mask s) :=
    congrArg Host.Outcome.next (maskCommand_accepted _ mask out)
  refine ⟨fun s mask out lists => ⟨⟨_, park s mask out, ?_⟩, _, unpark s mask out, ?_⟩,
    fun s c m n out on => ⟨_, park s _ out, ?_⟩, fun s c out => ⟨_, unpark s _ out, ?_⟩⟩
  · obtain ⟨reply, events, -⟩ := masked_port parkChan_load mask s
    refine ⟨reply, events, fun c => ?_⟩
    obtain ⟨named, unnamed⟩ := parkChan_each.fold (chansIn_nodup mask) lists c
    rw [masked_chan]
    by_cases bit : mask.getLsbD c.val = true
    · obtain ⟨parks, soft, state⟩ := named (mem_chansIn.2 bit)
      exact ⟨by rw [parks, bit, Bool.or_true], soft, fun _ => state⟩
    · obtain ⟨parks, soft, -⟩ := unnamed (mt mem_chansIn.1 bit)
      exact ⟨by rw [parks, Bool.eq_false_iff.2 bit, Bool.or_false], soft, fun set => absurd set bit⟩
  · obtain ⟨reply, events, -⟩ := masked_port unparkChan_load mask s
    refine ⟨reply, events, fun c => ?_⟩
    obtain ⟨named, unnamed⟩ := unparkChan_each.fold (chansIn_nodup mask) (s := s) trivial c
    rw [masked_chan]
    by_cases bit : mask.getLsbD c.val = true
    · obtain ⟨parks, soft, state⟩ := named (mem_chansIn.2 bit)
      exact ⟨by rw [parks, bit]; simp, soft, fun _ => state⟩
    · obtain ⟨parks, soft, -⟩ := unnamed (mt mem_chansIn.1 bit)
      exact ⟨by rw [parks, Bool.eq_false_iff.2 bit]; simp, soft, fun set => absurd set bit⟩
  · obtain ⟨state, cause, since, latch, views, others⟩ := masked_park_on on
    obtain ⟨-, events, -⟩ := masked_port parkChan_load (BitVec.twoPow 8 c.val) s
    exact ⟨state, cause, since, latch, events, views, others⟩
  · have cleared : ((masked State.unparkChan (BitVec.twoPow 8 c.val) s).chan c).park = false := by
      rw [masked_chan, chansIn_twoPow]
      exact (unparkChan_self s c).1
    refine ⟨cleared, fun other => ?_, fun parked => ⟨fun n since early => ?_, fun elapsed => ?_⟩⟩
    all_goals rw [masked_one]
    · rw [unparkChan_other_state other]
      exact finish_setChan s c _
    · have short : ¬ s.minOffOver c = true := fun elapsed => Nat.not_le.2 early ((minOffOver_iff s c).1 elapsed n since)
      rw [unparkChan_parked parked, if_neg short]
      exact finish_setChan s c _
    · have demand : (s.setChan c { s.chan c with park := false, state := .off }).demand c = true ↔
          Demands s.port.image c { s.chan c with park := false } := by
        rw [demand_iff, chan_setChan_self]
        exact demands_congr rfl rfl rfl
      rw [unparkChan_parked parked, if_pos ((minOffOver_iff s c).2 elapsed)]
      refine ⟨fun none => ?_, fun demands => ?_⟩
      · rw [if_neg (mt demand.1 none)]
        exact finish_setChan s c _
      · rw [if_pos (demand.2 demands)]
        exact (settle_entersWaiting (entersWaiting_setChan s c _)).finish .accepted

end Sys2Proof.Machine

namespace Sys2Proof.Machine

/-! ### The roll end of an ACTIVE station with no request pending (R14, R81, R117, R140, R145) -/

/-- What the spare-binding check looks at, and the Station Controller. -/
structure SameGround (s t : State) : Prop where
  table : t.table = s.table
  queue : t.chans.queue = s.chans.queue
  fences : t.chans.fences = s.chans.fences
  image : t.port.image = s.port.image
  stn : t.stn = s.stn

/-- Units, channels, notices, port and station state are the same. -/
structure SameParts (s t : State) : Prop where
  table : t.table = s.table
  chans : t.chans = s.chans
  notice : t.notice = s.notice
  port : t.port = s.port
  state : t.stn.state = s.stn.state

section
variable {s t u : State} {c d : Chan}

theorem SameGround.refl (s : State) : SameGround s s := ⟨rfl, rfl, rfl, rfl, rfl⟩

theorem SameGround.trans (h : SameGround s t) (k : SameGround t u) : SameGround s u :=
  ⟨k.table.trans h.table, k.queue.trans h.queue, k.fences.trans h.fences, k.image.trans h.image, k.stn.trans h.stn⟩

theorem SameParts.trans (h : SameParts s t) (k : SameParts t u) : SameParts s u :=
  ⟨k.table.trans h.table, k.chans.trans h.chans, k.notice.trans h.notice, k.port.trans h.port, k.state.trans h.state⟩

theorem settle_sameParts (s : State) : SameParts s s.settle :=
  ⟨settle_table s, settle_chans s, settle_notice s, settle_port s, settle_state s⟩

theorem SameParts.chan (h : SameParts s t) (c : Chan) : t.chan c = s.chan c := by rw [State.chan, State.chan, h.chans]

theorem SameParts.fits (h : SameParts s t) (c : Chan) : SpareFits t c ↔ SpareFits s c :=
  spareFits_congr (by rw [h.port]) (by rw [h.chans]) h.table

theorem SameGround.fits (h : SameGround s t) (c : Chan) : SpareFits t c ↔ SpareFits s c :=
  spareFits_congr h.image h.fences h.table

theorem restartWait_ground (s : State) (c : Chan) : SameGround s (s.restartWait c) := by
  unfold State.restartWait
  split
  · exact ⟨rfl, rfl, rfl, rfl, rfl⟩
  · exact .refl s

theorem emptySlot_ground (s : State) : SameGround s s.emptySlot := by
  have freed : SameGround s s.freeRequester := by
    unfold State.freeRequester
    split
    · split
      · exact restartWait_ground s _
      · exact .refl s
    · exact .refl s
  exact freed.trans ⟨rfl, rfl, rfl, rfl, rfl⟩

/-- A send completion touches the Notice Unit, an event bit and a wait timer (R111, R127). -/
theorem completeSource_ground (s : State) (r : SendRecord) : SameGround s (s.completeSource r) := by
  have sent : SameGround s ((s.setNotice { s.notice with holdoff := s.port.image.holdoffUs }).setEvent .yieldOut) :=
    ⟨rfl, rfl, rfl, rfl, rfl⟩
  unfold State.completeSource
  split
  · exact ⟨rfl, rfl, rfl, rfl, rfl⟩
  · exact ⟨rfl, rfl, rfl, rfl, rfl⟩
  · dsimp only
    split
    · split
      · exact sent.trans (emptySlot_ground _)
      · exact sent
    · exact sent

/-- The notices' part of the roll end. -/
def State.endNotices (s : State) : State := s.endConflictRun.endSend.endRecv

theorem endNotices_ground (s : State) : SameGround s s.endNotices := by
  have run : SameGround s s.endConflictRun := by
    unfold State.endConflictRun
    split
    · exact ⟨rfl, rfl, rfl, rfl, rfl⟩
    · exact .refl s
  have sent : SameGround s.endConflictRun s.endConflictRun.endSend := by
    unfold State.endSend
    split
    · dsimp only
      split
      · exact (completeSource_ground _ _).trans ⟨rfl, rfl, rfl, rfl, rfl⟩
      · exact ⟨rfl, rfl, rfl, rfl, rfl⟩
    · exact .refl _
  refine (run.trans sent).trans ?_
  change SameGround s.endConflictRun.endSend s.endConflictRun.endSend.endRecv
  unfold State.endRecv
  split
  · exact .refl _
  · exact ⟨rfl, rfl, rfl, rfl, rfl⟩

/-- In ACTIVE with no request the Station Controller writes its timer and its mark alone (R140, R154). -/
theorem endStation_unasked (active : s.stn.state = .active) (unasked : s.stn.request = none) (valid : Bool) :
    SameParts s (s.endStation valid) := by
  have timed : SameParts s (s.restartBusLoss valid) ∧ (s.restartBusLoss valid).stn.request = s.stn.request := by
    unfold State.restartBusLoss
    split <;> exact ⟨⟨rfl, rfl, rfl, rfl, rfl⟩, rfl⟩
  unfold State.endStation State.endActive
  rw [active]
  dsimp only
  rw [timed.2, unasked]
  exact timed.1.trans ⟨rfl, rfl, rfl, rfl, rfl⟩

theorem endOccurs_of_due {cause : RollEndCause} (due : RollEndDue s cause) : s.endOccurs cause = true := by
  unfold RollEndDue at due
  unfold State.endOccurs
  cases cause with
  | flag => simp [due]
  | check => simp [due]
  | trailing => simp [due]
  | stuck =>
    obtain flight | ended := due
    · rw [State.inFlight]
      obtain e | e : s.roll.state = .inRoll ∨ s.roll.state = .trailing := by simpa using flight
      all_goals rw [e]; rfl
    · simp [ended]

/-- In either order the roll end is the spare-binding check of a state whose parts the notices' completion has left. -/
theorem takeRollEnd_checks {cause : RollEndCause} {order : RollEndOrder} (due : RollEndDue s cause)
    (active : s.stn.state = .active) (unasked : s.stn.request = none) (alone : order ≠ .noticeBetween) :
    ∃ a, SameParts s.endNotices a ∧ SameParts a.spareCheck (s.takeRollEnd cause order).settle := by
  have stn := (endNotices_ground s).stn
  let a := (s.endNotices.setRoll (s.endNotices.roll.finish s.inFlight cause (s.endValid cause))).setStn
    { s.endNotices.stn with silence := 0 }
  have same : SameParts s.endNotices a := ⟨rfl, rfl, rfl, rfl, rfl⟩
  have state : a.stn.state = .active := (congrArg StationCtl.state stn).trans active
  have request : a.stn.request = none := (congrArg StationCtl.request stn).trans unasked
  have taken : s.takeRollEnd cause order = a.endBlocks cause (s.endValid cause) order :=
    if_pos (endOccurs_of_due due)
  rw [taken]
  cases order with
  | checkFirst =>
    have after := (spareCheck_load a).stn
    exact ⟨a, same, (endStation_unasked (by rw [after]; exact state) (by rw [after]; exact request) _).trans
      (settle_sameParts _)⟩
  | requestFirst => exact ⟨_, same.trans (endStation_unasked state request _), settle_sameParts _⟩
  | noticeBetween => exact absurd rfl alone

/-! ### The walk at a roll end (R40, R81) -/

/-- No unit but a spare has another view. -/
def OthersUnbound (s t : State) : Prop :=
  ∀ (k : Nat) (r : UnitRec), s.table.recs[k]? = some r → r.view.isSpare = false → t.table.recs[k]? = some r

theorem othersUnbound_spareCheck (h : OthersUnbound s t) : OthersUnbound s t.spareCheck := by
  refine spareCheck_keeps (P := OthersUnbound s) (fun u d k _ j r record other => ?_) h
  have binds := bindSpares_binds u d
  have before := k j r record other
  rw [binds.views j, before]
  have out : j ∉ (u.spareUsable d).take (u.port.image.weight d) := fun mem => by
    obtain ⟨r', record', spare, -⟩ := mem_spareUsable (List.mem_of_mem_take mem)
    obtain rfl := Option.some.inj (before.symm.trans record')
    rw [other] at spare
    cases spare
  simp [out]

/-- The channel has these units of s, is out of the queue, and is STARTING or ON. -/
structure BoundTo (c : Chan) (l : List Nat) (s t : State) : Prop where
  out : c ∉ t.chans.queue
  starts : (t.chan c).state = .starting ∨ (t.chan c).state = .on false 0
  own : ∀ (k : Nat) (r : UnitRec), s.table.recs[k]? = some r → r.view ≠ .own c →
    ((∃ r', t.table.recs[k]? = some r' ∧ r'.view = .own c) ↔ k ∈ l)

/-- The units of another channel are the same after a binding. -/
theorem BindsSpares.own_other (h : BindsSpares s t d) (other : c ≠ d) (k : Nat) :
    (∃ r, t.table.recs[k]? = some r ∧ r.view = .own c) ↔ ∃ r, s.table.recs[k]? = some r ∧ r.view = .own c := by
  rw [h.views k]
  by_cases mem : k ∈ (s.spareUsable d).take (s.port.image.weight d)
  · obtain ⟨r, record, spare, -⟩ := mem_spareUsable (List.mem_of_mem_take mem)
    have unowned : r.view ≠ .own c := fun own => by
      rw [own] at spare
      cases spare
    simp [record, mem, unowned, other.symm]
  · simp [mem]

theorem bindSpares_boundTo (s : State) (c : Chan) :
    BoundTo c ((s.spareUsable c).take (s.port.image.weight c)) s (s.bindSpares c) := by
  have binds := bindSpares_binds s c
  refine ⟨by rw [binds.queue]; simp, binds.starts, fun k r record other => ?_⟩
  rw [binds.views k, record]
  by_cases mem : k ∈ (s.spareUsable c).take (s.port.image.weight c) <;> simp [mem, other]

/-- A later binding of spares to another channel takes none of these units. -/
theorem BoundTo.bindSpares {l : List Nat} (h : BoundTo c l s t) (fits : t.spareCandidate = some d) :
    BoundTo c l s (t.bindSpares d) := by
  have binds := bindSpares_binds t d
  have other : c ≠ d := fun e => h.out (e ▸ (spareCandidate_fits fits).1)
  refine ⟨?_, ?_, fun k r record unbound => ?_⟩
  · rw [binds.queue]
    exact fun mem => h.out (List.mem_of_mem_filter mem)
  · obtain same | on := binds.heads c other
    · rw [same]
      exact h.starts
    · exact .inr on
  · rw [binds.own_other other k]
    exact h.own k r record unbound

theorem BoundTo.congr {l : List Nat} (h : BoundTo c l s t) (parts : SameParts t u) : BoundTo c l s u := by
  refine ⟨by rw [parts.chans]; exact h.out, by rw [parts.chan]; exact h.starts, ?_⟩
  rw [parts.table]
  exact h.own

/-- The check binds the first queued channel that the spares fit, and keeps it bound. -/
theorem spareCheck_boundTo {front back : List Chan} (active : s.stn.state = .active)
    (queue : s.chans.queue = front ++ c :: back) (passed : ∀ d ∈ front, ¬ SpareFits s d) (fits : SpareFits s c) :
    BoundTo c ((s.spareUsable c).take (s.port.image.weight c)) s s.spareCheck := by
  rw [spareCheck_first active queue passed fits]
  exact spareWalk_keeps (fun _ _ k fits => k.bindSpares fits) _ (bindSpares_boundTo s c)

end

/-- Settles O31: the roll end makes the walks of R81 on the queue as it finds it, and each takes the first fit; an entry
to WAITING makes the same check. -/
theorem spareCheckBindsFirstFit : Obligations.SpareCheckBindsFirstFit := by
  unfold Obligations.SpareCheckBindsFirstFit
  intro s active
  refine ⟨sparesFor_spareUsable s, fun cause order due unasked alone => ?_,
    fun c locked enabled park source off low unfit => ?_⟩
  · obtain ⟨a, same, parts⟩ := takeRollEnd_checks due active unasked alone
    have ground : SameGround s s.endNotices := endNotices_ground s
    have table : a.table = s.table := same.table.trans ground.table
    have queue : a.chans.queue = s.chans.queue := by rw [same.chans, ground.queue]
    have image : a.port.image = s.port.image := by rw [same.port, ground.image]
    have fits (d : Chan) : SpareFits a d ↔ SpareFits s d := (same.fits d).trans (ground.fits d)
    have state : a.stn.state = .active := by rw [same.state, ground.stn, active]
    refine ⟨(s.takeRollEnd cause order).settle, rfl, fun d queued => ?_, ?_, fun unfit => ?_,
      fun front c back split passed fit => ?_⟩
    · rw [parts.chans] at queued
      rw [parts.fits]
      rw [spareCheck_active state] at queued ⊢
      exact spareWalk_ends _ le_rfl d queued
    · rw [parts.table]
      exact othersUnbound_spareCheck fun k r record _ => by rw [table]; exact record
    · have idle : a.spareCheck = a := spareCheck_idle fun _ d queued => (fits d).not.2 (unfit d (queue ▸ queued))
      rw [parts.table, parts.chans, idle]
      exact ⟨table, queue⟩
    · obtain ⟨out, starts, own⟩ := (spareCheck_boundTo state (queue.trans split)
        (fun d ahead => (fits d).not.2 (passed d ahead)) ((fits c).2 fit)).congr parts
      rw [table, spareUsable_congr image table, image] at own
      exact ⟨out, starts, own⟩
  · obtain ⟨t, taken, -, demand⟩ := (filteredLevelChangeMovesDemand s locked).2 c
    have before : ¬ Demands s.port.image c (s.chan c) := by simp [Demands, source, low]
    have after : Demands s.port.image c { s.chan c with level := !(s.chan c).level, run := 0 } := by
      refine ⟨?_, park, .inl ⟨by simp [source], by simp [low]⟩⟩
      simpa [Image.enabled] using enabled
    have enters := (demand.appears before after).1 off
    refine ⟨t, taken, fun fit => ?_, fun alone => ?_⟩
    · obtain ⟨queue, starts, views, -⟩ := enters.bound active fit unfit
      exact ⟨queue, starts, views⟩
    · obtain ⟨⟨e, waits⟩, inserted, table, -⟩ := enters.queued fun _ => ⟨alone, unfit⟩
      exact ⟨by rw [waits]; rfl, inserted, table⟩

end Sys2Proof.Machine

namespace Sys2Proof.Machine

/-! ### Send completion at the roll end (R77, R109, R111, R122, R125, R127) -/

section
variable {s t u : State} {c d : Chan} {r : SendRecord} {q p : YieldReq}

/-- What the notices' part of the roll end makes of a send record: its completion where it was driven whole, on the
state that the conflict run leaves. -/
def State.completed (s : State) (r : SendRecord) : State :=
  if r.whole then s.endConflictRun.completeSource r else s.endConflictRun

theorem endConflictRun_parts (s : State) : SameParts s s.endConflictRun := by
  unfold State.endConflictRun
  split <;> exact ⟨rfl, rfl, rfl, rfl, rfl⟩

/-- The roll end drops both records beside the completion (R125, R130). -/
theorem endNotices_sent (sent : s.notice.send = some r) : s.endNotices.chans = (s.completed r).chans ∧
    s.endNotices.port = (s.completed r).port ∧
    ∃ x, s.endNotices.notice = { (s.completed r).notice with send := none, recv := x } := by
  have run : s.endConflictRun.notice.send = some r := by rw [(endConflictRun_parts s).notice, sent]
  have ended : s.endConflictRun.endSend = (s.completed r).setNotice { (s.completed r).notice with send := none } := by
    unfold State.endSend
    rw [run]
    rfl
  unfold State.endNotices State.endRecv
  rw [ended]
  split
  · exact ⟨rfl, rfl, _, rfl⟩
  · exact ⟨rfl, rfl, _, rfl⟩

theorem completed_whole (whole : r.driven = r.payload.length + 2) : s.completed r = s.endConflictRun.completeSource r :=
  if_pos (decide_eq_true whole)

theorem completed_cut (cut : r.driven ≠ r.payload.length + 2) : s.completed r = s.endConflictRun :=
  if_neg fun whole => cut (of_decide_eq_true whole)

/-- YIELD_OUT is set and the holdoff starts (R106, R111). -/
def State.yieldSent (s : State) : State :=
  (s.setNotice { s.notice with holdoff := s.port.image.holdoffUs }).setEvent .yieldOut

theorem completeSource_yield (source : r.source = .yieldSlot) (request : r.request = some q) :
    s.completeSource r = if s.yieldSent.slotHolds q then s.yieldSent.emptySlot else s.yieldSent := by
  unfold State.completeSource
  rw [source]
  dsimp only
  rw [request]
  rfl

theorem yieldSent_events (s : State) : s.yieldSent.port.events = s.port.events ||| 0x0200 := rfl

theorem emptySlot_notice (s : State) : s.emptySlot.notice = { s.notice with slot := none } := by
  unfold State.emptySlot
  rw [freeRequester_chans_only]
  rfl

theorem slotHolds_self (slot : s.notice.slot = some q) : s.slotHolds q = true := by
  unfold State.slotHolds
  rw [slot]
  exact decide_eq_true rfl

/-- A request of another priority is another request (R109). -/
theorem slotHolds_other (slot : s.notice.slot = some p) (other : p.priority ≠ q.priority) : s.slotHolds q = false := by
  unfold State.slotHolds
  rw [slot]
  exact decide_eq_false fun same => other (YieldReq.mk.inj same).1

/-- The requester of the request in the slot waits its full time again (R77, R109). -/
theorem emptySlot_restarts {e w : Nat} (slot : s.notice.slot = some q) (requester : q.requester = some c)
    (waits : (s.chan c).state = .waiting e (some w)) (ranked : 1 ≤ s.port.image.priority c)
    (timed : 0 < s.port.image.waitToYieldUs c) :
    (s.emptySlot.chan c).state = .waiting e (some (s.port.image.waitToYieldUs c)) := by
  have freed : s.freeRequester = s.setChState c (.waiting e (s.fullWait c)) := by
    unfold State.freeRequester State.restartWait
    rw [slot]
    dsimp only
    rw [requester]
    dsimp only
    rw [waits]
  have full : s.fullWait c = some (s.port.image.waitToYieldUs c) := if_pos ⟨ranked, timed⟩
  unfold State.emptySlot
  rw [freed, full]
  change ((s.setChState c _).chan c).state = _
  rw [chan_setChState_self]

end

/-- Settles O30: where the spares fit nobody the spare-binding check changes nothing, and what is left of the roll end
is the completion by the source of the notice. -/
theorem rollEndCompletesSend : Obligations.RollEndCompletesSend := by
  unfold Obligations.RollEndCompletesSend
  intro s cause order r active unasked unfit alone due sent
  obtain ⟨a, same, parts⟩ := takeRollEnd_checks due active unasked alone
  have ground := endNotices_ground s
  have idle : a.spareCheck = a := spareCheck_idle fun _ d queued => by
    rw [same.fits, ground.fits]
    rw [same.chans, ground.queue] at queued
    exact unfit d queued
  rw [idle] at parts
  have all : SameParts s.endNotices (s.takeRollEnd cause order).settle := same.trans parts
  obtain ⟨chans, port, x, notice⟩ := endNotices_sent sent
  have run := endConflictRun_parts s
  have presence := congrArg NoticeUnit.presence run.notice
  have tx := congrArg NoticeUnit.tx run.notice
  have kept := congrArg NoticeUnit.slot run.notice
  have events := congrArg LocalPort.events run.port
  have image := congrArg LocalPort.image run.port
  refine ⟨(s.takeRollEnd cause order).settle, rfl, ?_, ?_, ?_, all.table.trans ground.table,
    fun whole source => ?_, fun whole source => ?_, fun q whole source request => ?_, fun cut => ?_⟩
  · rw [all.notice, notice]
  · rw [all.state, ground.stn, active]
  · rw [all.chans, ground.queue]
  all_goals rw [all.notice, notice, all.port, port]
  · have done : s.completed r = s.endConflictRun.setNotice { s.endConflictRun.notice with presence := false } := by
      rw [completed_whole whole]
      unfold State.completeSource
      rw [source]
    rw [done]
    exact ⟨rfl, tx, kept, events⟩
  · have done : s.completed r = s.endConflictRun.setNotice
        { s.endConflictRun.notice with tx := s.endConflictRun.notice.tx.tail } := by
      rw [completed_whole whole]
      unfold State.completeSource
      rw [source]
    rw [done]
    exact ⟨congrArg List.tail tx, presence, kept, events⟩
  · let y := s.endConflictRun.yieldSent
    have done : s.completed r = if y.slotHolds q then y.emptySlot else y := by
      rw [completed_whole whole, completeSource_yield source request]
    have slot : y.notice.slot = s.notice.slot := kept
    have image : y.port.image = s.port.image := image
    have holdoff : y.notice.holdoff = s.port.image.holdoffUs := congrArg Image.holdoffUs image
    have events : y.port.events = s.port.events ||| 0x0200 := by
      rw [yieldSent_events, events]
    have freed : y.emptySlot.port = y.port := (emptySlot_load y).port
    refine ⟨?_, ?_, fun held => ⟨?_, fun c e w requester waits ranked timed => ?_⟩, fun p other apart => ?_⟩
    · rw [done]
      split
      · rw [freed, events]
      · exact events
    · rw [done]
      split
      · rw [emptySlot_notice]
        exact holdoff
      · exact holdoff
    · rw [done, if_pos (slotHolds_self (slot.trans held)), emptySlot_notice]
    · have chan : y.chan c = s.chan c := run.chan c
      have restarts := emptySlot_restarts (s := y) (slot.trans held) requester (by rw [chan]; exact waits)
        (by rw [image]; exact ranked) (by rw [image]; exact timed)
      rw [all.chan, State.chan, chans, done, if_pos (slotHolds_self (slot.trans held)), ← image]
      exact restarts
    · have moved : y.slotHolds q = false := slotHolds_other (slot.trans other) apart
      rw [done, moved, if_neg Bool.false_ne_true]
      exact slot.trans other
  · rw [completed_cut cut]
    exact ⟨presence, tx, kept, events⟩

end Sys2Proof.Machine

namespace Sys2Proof.Machine

/-! ### A wait timer's expiry (R77, R107 to R109) -/

section
variable {s : State} {c d : Chan} {e n : Nat}

theorem fullWait_timed (ranked : 1 ≤ s.port.image.priority c) (timed : 0 < s.port.image.waitToYieldUs c) :
    s.fullWait c = some (s.port.image.waitToYieldUs c) := if_pos ⟨ranked, timed⟩

theorem restartWait_waiting {w : Nat} (waits : (s.chan c).state = .waiting e (some w)) :
    s.restartWait c = s.setChState c (.waiting e (s.fullWait c)) := by
  unfold State.restartWait
  rw [waits]

theorem restartWait_chan_other (other : d ≠ c) : (s.restartWait c).chan d = s.chan d := by
  unfold State.restartWait
  split
  · exact chan_setChState_other _ _ _ _ other
  · rfl

theorem restartWait_blocks (s : State) (c : Chan) : (s.restartWait c).table = s.table ∧
    (s.restartWait c).notice = s.notice ∧ (s.restartWait c).chans.queue = s.chans.queue := by
  unfold State.restartWait
  split <;> exact ⟨rfl, rfl, rfl⟩

theorem freeRequester_blocks (s : State) : s.freeRequester.table = s.table ∧
    s.freeRequester.notice = s.notice ∧ s.freeRequester.chans.queue = s.chans.queue := by
  unfold State.freeRequester
  split
  · split
    · exact restartWait_blocks s _
    · exact ⟨rfl, rfl, rfl⟩
  · exact ⟨rfl, rfl, rfl⟩

/-- Only the requester's timer starts again. -/
theorem freeRequester_chan_other (other : ∀ q, s.notice.slot = some q → q.requester ≠ some c) :
    s.freeRequester.chan c = s.chan c := by
  unfold State.freeRequester
  split
  · rename_i q slot
    split
    · rename_i d requester
      exact restartWait_chan_other fun e => other q slot (by rw [requester, e])
    · rfl
  · rfl

theorem writesOffer_iff (s : State) (c : Chan) : s.writesOffer c = true ↔
    s.notice.holdoff = 0 ∧ ∀ q, s.notice.slot = some q → q.priority < s.port.image.priority c := by
  unfold State.writesOffer
  cases s.notice.slot <;> simp

theorem waitHeld_false (other : ∀ q, s.notice.slot = some q → q.requester ≠ some c) : s.waitHeld c = false := by
  unfold State.waitHeld
  split
  · rename_i q slot
    exact decide_eq_false (other q slot)
  · rfl

/-- The channel's timer at its end (log 3). -/
def State.waitEnded (s : State) (c : Chan) (e : Nat) : State := s.setChState c (.waiting e (some 0))

theorem takeWaitExpiry_offers (active : s.stn.state = .active) (waits : (s.chan c).state = .waiting e (some n))
    (other : ∀ q, s.notice.slot = some q → q.requester ≠ some c) :
    s.takeWaitExpiry c = (s.waitEnded c e).offer c := by
  unfold State.takeWaitExpiry
  rw [waits]
  exact if_pos ⟨(isActive_iff s).2 active, waitHeld_false other⟩

theorem waitEnded_chan_self (s : State) (c : Chan) (e : Nat) :
    ((s.waitEnded c e).chan c).state = .waiting e (some 0) := by
  rw [State.waitEnded, chan_setChState_self]

theorem waitEnded_chan_other (other : d ≠ c) : (s.waitEnded c e).chan d = s.chan d :=
  chan_setChState_other _ _ _ _ other

end

/-- Settles O33: the timer's end makes an offer, which is written over an empty slot or a lower priority and turned away
otherwise; either way one wait timer at most starts again. -/
theorem waitTimerExpiryOffersYield : Obligations.WaitTimerExpiryOffersYield := by
  unfold Obligations.WaitTimerExpiryOffersYield
  intro s c e n active waits ranked timed other
  let u := s.waitEnded c e
  have taken : s.takeWaitExpiry c = u.offer c := takeWaitExpiry_offers active waits other
  have self : (u.chan c).state = .waiting e (some 0) := waitEnded_chan_self s c e
  have port : (u.offer c).port = s.port := (offer_load u c).port
  refine ⟨(s.takeWaitExpiry c).settle, rfl, ?_⟩
  simp only [settle_chans, settle_table, settle_port, settle_notice, settle_chan, taken]
  cases writes : u.writesOffer c with
  | true =>
    have written : u.offer c = u.freeRequester.setSlot (some (u.autoRequest c)) := if_pos writes
    obtain ⟨table, notice, queue⟩ := freeRequester_blocks u
    obtain ⟨elapsed, lower⟩ := (writesOffer_iff u c).1 writes
    have chan (d : Chan) : (u.offer c).chan d = u.freeRequester.chan d := by rw [written]; rfl
    refine ⟨by rw [written]; exact queue, by rw [written]; exact table, port, fun _ _ => ⟨?_, ?_, ?_, ?_, ?_⟩, ?_⟩
    · rw [chan, freeRequester_chan_other (s := u) other, self]
    · rw [written, State.setSlot, State.setNotice_notice, notice]
      rfl
    · rw [written]
      rfl
    · intro q d e' w slot requester waits' ranked' timed'
      have apart : d ≠ c := fun same => other q slot (by rw [requester, same])
      have before : (u.chan d).state = .waiting e' (some w) := by rw [waitEnded_chan_other apart, waits']
      rw [chan]
      exact emptySlot_restarts (s := u) slot requester before ranked' timed'
    · intro d apart unnamed
      rw [chan, freeRequester_chan_other (s := u) unnamed, waitEnded_chan_other apart]
    · rintro (held | ⟨q, slot, higher⟩)
      · exact absurd elapsed held
      · exact absurd (lower q slot) (Nat.not_lt.2 higher)
  | false =>
    have refused : u.offer c = u.restartWait c := if_neg (by rw [writes]; nofun)
    obtain ⟨table, notice, queue⟩ := restartWait_blocks u c
    rw [refused] at port ⊢
    refine ⟨queue, table, port, fun elapsed lower => ?_, fun _ => ⟨?_, notice, fun d apart => ?_⟩⟩
    · have open_slot := (writesOffer_iff u c).2 ⟨elapsed, lower⟩
      rw [writes] at open_slot
      cases open_slot
    · rw [restartWait_waiting self, chan_setChState_self, fullWait_timed (s := u) ranked timed]
      rfl
    · rw [restartWait_chan_other apart, waitEnded_chan_other apart]

end Sys2Proof.Machine

namespace Sys2Proof.Machine

/-! ### Turn-ons and bindings of spares while fences stand (R81, R88, R93, R94) -/

/-- A STARTING channel whose stagger has passed is turned on (R94). -/
def TurnsOn (s : State) (c : Chan) (x : ChannelRec) : Prop :=
  (s.chan c).state = .starting ∧ s.port.image.staggerUs c ≤ s.seq.elapsed ∧
    x = { s.chan c with state := .on false 0 }

/-- A WAITING channel that no fence holds back has been given spares (R40, R81). -/
def GetsSpares (s : State) (c : Chan) (x : ChannelRec) : Prop :=
  (s.chan c).state.isWaiting = true ∧ s.fenced c = false ∧ Starts (s.chan c) x

/-- What turn-ons and bindings of spares make of the channels told of and of their units. The elapsed timer goes back
alone, and of the fenced channels the start list gains none. -/
structure Drifts (told : Chan → Prop) (s t : State) : Prop extends ShedKeeps s t where
  chan : ∀ c, told c → t.chan c = s.chan c ∨ TurnsOn s c (t.chan c) ∨ GetsSpares s c (t.chan c)
  elapsed : t.seq.elapsed ≤ s.seq.elapsed
  list : (t.seq.startList.filter s.fenced).Sublist (s.seq.startList.filter s.fenced)
  units : ∀ (k : Nat) (r : UnitRec), s.table.recs[k]? = some r → r.view.isSpare = false →
    (∀ c, r.view = .own c → told c) → t.table.recs[k]? = some r

section
variable {s t u : State} {c d : Chan} {told told' : Chan → Prop}

theorem ShedKeeps.fenced (h : ShedKeeps s t) : t.fenced = s.fenced := by
  funext c
  unfold State.fenced
  rw [h.fences, h.port]

theorem Drifts.refl (s : State) : Drifts told s s :=
  ⟨.refl s, fun _ _ => .inl rfl, Nat.le_refl _, .refl _, fun _ _ record _ _ => record⟩

theorem Drifts.mono (h : Drifts told s t) (fewer : ∀ c, told' c → told c) : Drifts told' s t :=
  ⟨h.toShedKeeps, fun c mem => h.chan c (fewer c mem), h.elapsed, h.list,
    fun k r record spare own => h.units k r record spare fun c e => fewer c (own c e)⟩

theorem Drifts.trans (h : Drifts told s t) (k : Drifts told t u) : Drifts told s u := by
  have fences := h.toShedKeeps.fenced
  refine ⟨h.toShedKeeps.trans k.toShedKeeps, fun c mem => ?_, k.elapsed.trans h.elapsed, ?_,
    fun i r record spare own => k.units i r (h.units i r record spare own) spare own⟩
  · obtain same | ⟨starting, passed, on⟩ | ⟨waits, free, gets⟩ := k.chan c mem
    · rw [same]
      exact h.chan c mem
    · obtain same | ⟨-, -, on'⟩ | ⟨waits, free, gets⟩ := h.chan c mem
      · rw [same] at starting on
        rw [h.port] at passed
        exact .inr (.inl ⟨starting, passed.trans h.elapsed, on⟩)
      · rw [on'] at starting
        cases starting
      · exact .inr (.inr ⟨waits, free, gets.trans (.inr ⟨_, rfl, on⟩)⟩)
    · obtain same | ⟨-, -, on⟩ | ⟨waits', free', gets'⟩ := h.chan c mem
      · rw [same] at waits gets
        exact .inr (.inr ⟨waits, fences ▸ free, gets⟩)
      · rw [on] at waits
        cases waits
      · exact .inr (.inr ⟨waits', free', gets'.trans gets⟩)
  · have list := k.list
    rw [fences] at list
    exact list.trans h.list

theorem turnOn_drifts {rest : List Chan} (head : s.seq.startList = c :: rest) (starting : (s.chan c).state = .starting)
    (passed : s.port.image.staggerUs c ≤ s.seq.elapsed) : Drifts told s (s.turnOn c) := by
  refine ⟨⟨turnOn_load s c, rfl, rfl⟩, fun d _ => ?_, Nat.zero_le _, ?_, fun _ _ record _ _ => record⟩
  · by_cases e : d = c
    · subst e
      exact .inr (.inl ⟨starting, passed, turnOn_chan_self⟩)
    · exact .inl (turnOn_chan_other e)
  · rw [turnOn_seq]
    exact (List.tail_sublist _).filter _

theorem checkHead_drifts (lists : QueuesMatchStates s) : Drifts told s s.checkHead := by
  cases head : s.seq.startList with
  | nil =>
    unfold State.checkHead
    rw [head]
    exact .refl s
  | cons c rest =>
    rw [checkHead_cons head]
    split
    · rename_i ready
      have starting := (((queuesMatch_iff s).1 lists).starting c).1 (by rw [head]; exact List.mem_cons_self)
      exact turnOn_drifts head starting ((headReady_iff s c).1 ready).1
    · exact .refl s

/-- A channel that no fence holds back goes from the queue to the start list. -/
theorem appended_drifts (waits : (s.chan c).state.isWaiting = true) (free : s.fenced c = false) :
    Drifts told s (s.appended c) := by
  obtain ⟨table, -, -, -, notice, -⟩ := appended_blocks s c
  refine ⟨⟨((leaveQueue_load s c).trans (setChState_load _ _ _)).trans (setSeq_load _ _), by rw [notice],
    appended_fences s c⟩, fun d _ => ?_, Nat.le_refl _, ?_, fun k r record _ _ => by rw [table]; exact record⟩
  · by_cases e : d = c
    · subst e
      exact .inr (.inr ⟨waits, free, .inr ⟨.starting, rfl, appended_chan_self s d⟩⟩)
    · exact .inl (appended_chan_other e)
  · change ((s.seq.startList ++ [c]).filter s.fenced).Sublist _
    rw [List.filter_append, List.filter_singleton, free]
    exact (List.append_nil _).symm ▸ .refl _

theorem bindUnits_drifts {l : List Nat} (spares : l ⊆ s.spareUsable c) : Drifts told s (s.bindUnits c l) := by
  refine ⟨⟨bindUnits_load s c l, rfl, rfl⟩, fun _ _ => .inl rfl, Nat.le_refl _, .refl _, fun k r record other _ => ?_⟩
  have out : k ∉ l := fun mem => by
    obtain ⟨r', record', spare, -⟩ := mem_spareUsable (spares mem)
    obtain rfl := Option.some.inj (record.symm.trans record')
    rw [other] at spare
    cases spare
  rw [bindUnits_record, record]
  simp [out]

theorem bindSpares_drifts (lists : QueuesMatchStates s) (active : s.stn.state = .active)
    (fits : s.spareCandidate = some c) : Drifts told s (s.bindSpares c) := by
  obtain ⟨queued, free, -⟩ := spareCandidate_fits fits
  have waits := (((queuesMatch_iff s).1 lists).queued c).1 queued
  let b := s.bindUnits c ((s.spareUsable c).take (s.port.image.weight c))
  have bound : QueuesMatchStates b := queuesMatch_keeps.setTable lists _
  have listed : QueuesMatchStates (b.appended c) := queuesMatch_keeps.start bound active (.inl waits)
  have start : b.toStarting c = (b.appended c).checkHead := toStarting_checkHead b c
  have course : Drifts told s (b.toStarting c) := by
    rw [start]
    exact ((bindUnits_drifts (List.take_subset _ _)).trans (appended_drifts (s := b) waits free)).trans
      (checkHead_drifts listed)
  exact course

theorem spareCheck_drifts (lists : QueuesMatchStates s) (active : s.stn.state = .active) :
    Drifts told s s.spareCheck := by
  have each (u : State) (c : Chan) (h : Drifts told s u ∧ QueuesMatchStates u ∧ u.stn.state = .active)
      (fits : u.spareCandidate = some c) :
      Drifts told s (u.bindSpares c) ∧ QueuesMatchStates (u.bindSpares c) ∧ (u.bindSpares c).stn.state = .active := by
    obtain ⟨course, lists, active⟩ := h
    exact ⟨course.trans (bindSpares_drifts lists active fits),
      queuesMatch_keeps.bindUnits lists active (.inr (spareCandidate_fits fits).1) _,
      (congrArg StationCtl.state (bindSpares_load u c).stn).trans active⟩
  exact (spareCheck_keeps each ⟨.refl s, lists, active⟩).1

end

/-! ### One shed of a received yield (R82, R115) -/

/-- What the shed makes of the channel's record (R82, R83). -/
structure YieldRecord (m : Image) (c : Chan) (r x : ChannelRec) : Prop where
  idle : x.state.holdsUnits = false
  cause : x.lastShed = .yield
  off : x.offSince = if r.state.isOn then some 0 else r.offSince
  cools : r.state.isOn = true → 0 < m.minOffUs c → x.state = .cooldown
  goes : r.state = .starting ∨ m.minOffUs c = 0 →
    (Demands m c r → x.state.isWaiting = true) ∧ (¬ Demands m c r → x.state = .off)

/-- A channel's units are RELEASING, and the channels and units beside it are as turn-ons and bindings may leave them. -/
structure GivesBack (c : Chan) (s t : State) : Prop extends Drifts (· ≠ c) s t where
  given : ∀ (k : Nat) (r : UnitRec), s.table.recs[k]? = some r → r.view = .own c →
    t.table.recs[k]? = some { r with view := .releasing }

/-- A yield's shed on its way: the channel has come to the state x, in no list. -/
structure ShedMidway (c : Chan) (x : ChState) (s t : State) : Prop extends GivesBack c s t where
  self : t.chan c = { s.chan c with
    state := x, lastShed := .yield, offSince := if (s.chan c).state.isOn then some 0 else (s.chan c).offSince }
  lists : QueuesMatchStates t

section
variable {s t u : State} {c d : Chan}

theorem GivesBack.drift (h : GivesBack c s t) (k : Drifts (· ≠ c) t u) : GivesBack c s u :=
  ⟨h.toDrifts.trans k, fun i r record own => k.units i _ (h.given i r record own) rfl nofun⟩

theorem LetsGo.givesBack (h : LetsGo .yield c s t) (list : t.seq.startList.Sublist s.seq.startList)
    (elapsed : t.seq.elapsed = s.seq.elapsed) : GivesBack c s t := by
  refine ⟨⟨h.toShedKeeps, fun d e => .inl (h.other d e), elapsed.le, list.filter _, fun k r record _ own => ?_⟩,
    fun k r record own => ?_⟩
  all_goals
    obtain ⟨y, record', window, view⟩ := h.views.forward record
    rw [record']
    obtain ⟨v, w⟩ := y
    obtain rfl : w = r.window := window
  · rw [if_neg fun e => own c e rfl] at view
    obtain rfl : v = r.view := view
    rfl
  · rw [if_pos own] at view
    obtain rfl : v = .releasing := view
    rfl

theorem shedOn_midway (lists : QueuesMatchStates s) (on : (s.chan c).state.isOn = true) {x : ChState}
    (idle : x.idle = true) (rests : 0 < s.port.image.minOffUs c → x = .cooldown) :
    ShedMidway c x s ((s.shedOn .yield c).setChState c x) := by
  have self : ((s.shedOn .yield c).setChState c x).chan c =
      { s.chan c with state := x, lastShed := .yield, offSince := some 0 } := by
    rw [chan_setChState_self, shedOn_chan_self]
  refine ⟨(shedOn_letsGo (idle_tests idle).2.2.1 rests).givesBack (.refl _) rfl, by rw [self, if_pos on], ?_⟩
  exact queuesMatch_keeps.turnOff lists on (shedOn_moves s .yield c x) rfl rfl (by rw [self]; exact idle)

theorem shedStarting_midway (lists : QueuesMatchStates s) (starting : (s.chan c).state = .starting) :
    ShedMidway c .off s (s.shedStarting .yield c) := by
  have seq : (s.shedStarting .yield c).seq = { s.seq with startList := s.seq.startList.filter (· ≠ c) } := by
    unfold State.shedStarting
    rw [removeStart_leaving]
    rfl
  refine ⟨(shedStarting_letsGo starting).givesBack ?_ (by rw [seq]), ?_, ?_⟩
  · rw [seq]
    exact List.filter_sublist
  · rw [shedStarting_chan_self, if_neg (by rw [starting]; nofun)]
  · exact (queuesMatch_keeps.removeStart (t := ((s.releaseUnits c).writeCause c .yield).setChState c .off) lists starting
      (((Moves.of_chans (releaseUnits_load s c) rfl).trans (.of_setChan _)).trans (.of_setChan _)) rfl rfl
      (by rw [chan_setChState_self]; rfl) true).1

theorem ShedMidway.checkHead (h : ShedMidway c .off s t) : ShedMidway c .off s t.checkHead := by
  have gone : c ∉ t.seq.startList := fun mem => by
    have starting := (((queuesMatch_iff t).1 h.lists).starting c).1 mem
    rw [h.self] at starting
    cases starting
  exact ⟨h.drift (checkHead_drifts h.lists), (checkHead_chan gone).trans h.self, queuesMatch_keeps.checkHead h.lists⟩

theorem joinQueue_drifts (s : State) (c : Chan) : Drifts (· ≠ c) s (s.joinQueue c) :=
  ⟨⟨joinQueue_load s c, rfl, rfl⟩, fun d e => .inl (joinQueue_chan_other s c d e), Nat.le_refl _, .refl _,
    fun _ _ record _ _ => record⟩

/-- The shed channel rests in COOLDOWN. -/
theorem ShedMidway.cools (h : ShedMidway c .cooldown s t) (on : (s.chan c).state.isOn = true)
    (rests : 0 < s.port.image.minOffUs c) : YieldRecord s.port.image c (s.chan c) (t.chan c) := by
  rw [h.self]
  refine ⟨rfl, rfl, rfl, fun _ _ => rfl, ?_⟩
  rintro (starting | none)
  · rw [starting] at on
    cases on
  · exact absurd none rests.ne'

/-- The shed channel goes on to WAITING by its demand, and the fence keeps the spares from it (R72, R82, R88). -/
theorem ShedMidway.goesOn (h : ShedMidway c .off s t) (active : s.stn.state = .active) (fenced : s.fenced c = true)
    (restless : ¬ ((s.chan c).state.isOn = true ∧ 0 < s.port.image.minOffUs c)) :
    GivesBack c s (t.shedNext c false) ∧
      YieldRecord s.port.image c (s.chan c) ((t.shedNext c false).chan c) := by
  have demand : t.demand c = true ↔ Demands s.port.image c (s.chan c) := by
    rw [demand_iff, h.port, h.self]
    exact demands_congr rfl rfl rfl
  have cools {P : Prop} (on : (s.chan c).state.isOn = true) (rests : 0 < s.port.image.minOffUs c) : P :=
    absurd ⟨on, rests⟩ restless
  unfold State.shedNext
  split
  · rename_i demands
    let j := t.joinQueue c
    have listed : QueuesMatchStates j := queuesMatch_keeps.join h.lists (by rw [h.self]; rfl)
    have after : Drifts (fun _ => True) j j.spareCheck :=
      spareCheck_drifts listed ((congrArg StationCtl.state h.stn).trans active)
    have joined : j.chan c = { t.chan c with state := .waiting t.chans.entries (t.fullWait c) } := joinQueue_chan_self t c
    have fences : j.fenced = s.fenced := h.toShedKeeps.fenced
    have still : j.spareCheck.chan c = j.chan c := by
      obtain same | ⟨starting, -⟩ | ⟨-, free, -⟩ := after.chan c trivial
      · exact same
      · rw [joined] at starting
        cases starting
      · rw [fences, fenced] at free
        cases free
    change GivesBack c s j.spareCheck ∧ YieldRecord _ c _ (j.spareCheck.chan c)
    rw [still, joined, h.self]
    exact ⟨(h.drift (joinQueue_drifts t c)).drift (after.mono fun _ _ => trivial), rfl, rfl, rfl, cools,
      fun _ => ⟨fun _ => rfl, fun none => absurd (demand.1 demands) none⟩⟩
  · rename_i none
    rw [h.self]
    exact ⟨h.toGivesBack, rfl, rfl, rfl, cools, fun _ => ⟨fun demands => absurd (demand.2 demands) none, fun _ => rfl⟩⟩

/-- A yield's shed of a channel that its fence holds back. -/
theorem shedChan_yield (lists : QueuesMatchStates s) (active : s.stn.state = .active) (fenced : s.fenced c = true)
    (holds : (s.chan c).state.holdsUnits = true) : GivesBack c s (s.shedChan .yield false c) ∧
      YieldRecord s.port.image c (s.chan c) ((s.shedChan .yield false c).chan c) := by
  obtain starting | ⟨m, n, on⟩ := starting_or_on holds
  · have left := shedStarting_midway lists starting
    have shed : s.shedChan .yield false c =
        ((((s.releaseUnits c).writeCause c .yield).setChState c .off).removeStart c false).shedNext c false := by
      unfold State.shedChan
      rw [starting]
      exact if_neg nofun
    have restless : ¬ ((s.chan c).state.isOn = true ∧ 0 < s.port.image.minOffUs c) := by
      rw [starting]
      nofun
    rw [shed]
    obtain e | e := removeStart_cases (((s.releaseUnits c).writeCause c .yield).setChState c .off) c false
    all_goals rw [e]
    · exact left.goesOn active fenced restless
    · exact left.checkHead.goesOn active fenced restless
  · have isOn : (s.chan c).state.isOn = true := by rw [on]; rfl
    have shed : s.shedChan .yield false c = if 0 < s.port.image.minOffUs c then
        (s.shedOn .yield c).setChState c .cooldown else ((s.shedOn .yield c).setChState c .off).shedNext c false := by
      unfold State.shedChan
      rw [on]
      exact if_neg nofun
    rw [shed]
    split
    · rename_i rests
      have off := shedOn_midway lists isOn (x := .cooldown) rfl fun _ => rfl
      exact ⟨off.toGivesBack, off.cools isOn rests⟩
    · rename_i none
      exact (shedOn_midway lists isOn (x := .off) rfl fun e => absurd e none).goesOn active fenced fun h => none h.2

end

end Sys2Proof.Machine

namespace Sys2Proof.Machine

/-! ### The next candidate of a yield (R114, R115) -/

section
variable {s u : State} {y : YieldIn} {c d : Chan} {l : List Chan}

/-- The best by a key, and of the best ones the first of the list. -/
theorem bestBy_first {α : Type} [LinearOrder α] {key : Chan → α} {better : Chan → Chan → Bool}
    (by_key : ∀ a b, better a b = true ↔ key a < key b) (best : bestBy better l = some c) :
    ∀ d ∈ l, d ≠ c → key c < key d ∨ key c ≤ key d ∧ [c, d].Sublist l := by
  induction l generalizing c with
  | nil => cases best
  | cons a l ih =>
    intro d mem other
    unfold bestBy at best
    split at best
    · rename_i none
      obtain rfl := Option.some.inj best
      cases l with
      | nil => exact absurd (List.mem_singleton.1 mem) other
      | cons b l =>
        unfold bestBy at none
        split at none
        · cases none
        · split at none <;> cases none
    · rename_i e first
      split at best
      · rename_i beats
        obtain rfl := Option.some.inj best
        obtain rfl | later := List.mem_cons.1 mem
        · exact .inl ((by_key _ _).1 beats)
        · obtain less | ⟨le, sub⟩ := ih first d later other
          · exact .inl less
          · exact .inr ⟨le, sub.cons a⟩
      · rename_i not_beaten
        obtain rfl := Option.some.inj best
        have later := (List.mem_cons.1 mem).resolve_left other
        have least : key a ≤ key e := not_lt.1 (mt (by_key _ _).2 not_beaten)
        refine .inr ⟨?_, (List.singleton_sublist.2 later).cons_cons a⟩
        by_cases same : d = e
        · exact same ▸ least
        · obtain less | ⟨le, -⟩ := ih first d later same
          · exact least.trans less.le
          · exact least.trans le

theorem bestBy_none {better : Chan → Chan → Bool} (none : bestBy better l = none) : l = [] := by
  cases l with
  | nil => rfl
  | cons a l =>
    unfold bestBy at none
    split at none
    · cases none
    · split at none <;> cases none

/-- In a list without repetition the order of two entries is that of their places. -/
theorem idxOf_lt_of_sublist (once : l.Nodup) (sub : [d, c].Sublist l) : l.idxOf d < l.idxOf c := by
  have sorted : l.Pairwise fun a b => l.idxOf a < l.idxOf b := by
    rw [List.pairwise_iff_getElem]
    intro i j hi hj less
    rw [once.idxOf_getElem i hi, once.idxOf_getElem j hj]
    exact less
  exact List.pairwise_iff_forall_sublist.1 sorted sub

theorem yieldReaches_iff (s : State) (y : YieldIn) (c : Chan) : s.yieldReaches y c = true ↔
    s.port.image.priority c < y.priority ∧ s.port.image.mask c &&& y.mask ≠ 0 := by
  simp [State.yieldReaches]

theorem candidate_iff (s : State) (y : YieldIn) (c : Chan) : Candidate s y.priority y.mask c ↔
    s.yieldReaches y c = true ∧
      ((s.chan c).state = .starting ∨ ∃ n, (s.chan c).state = .on false n ∧ s.port.image.minOnUs c ≤ n) := by
  rw [yieldReaches_iff]
  unfold Candidate
  cases (s.chan c).state with
  | on m n => cases m <;> simp [and_assoc]
  | _ => simp

theorem Candidate.holds {p : Nat} {mask : BitVec 4} (h : Candidate s p mask c) :
    (s.chan c).state.holdsUnits = true := by
  obtain ⟨-, -, ready⟩ := h
  cases state : (s.chan c).state with
  | starting => rfl
  | on m n => rfl
  | _ => rw [state] at ready; exact ready.elim

theorem onCandidate_iff (s : State) (y : YieldIn) (c : Chan) : s.onCandidate y c = true ↔
    s.yieldReaches y c = true ∧ ∃ n, (s.chan c).state = .on false n ∧ s.port.image.minOnUs c ≤ n := by
  unfold State.onCandidate
  cases (s.chan c).state with
  | on m n => cases m <;> simp [and_comm]
  | _ => simp

/-- The STARTING channels within the yield's reach, nearest the back of the start list first. -/
def State.startingReach (s : State) (y : YieldIn) : List Chan := s.seq.startList.reverse.filter fun c => s.yieldReaches y c

/-- The ON candidates, highest number first. -/
def State.onReach (s : State) (y : YieldIn) : List Chan := allChans.reverse.filter (s.onCandidate y)

theorem mem_startingReach (lists : QueuesMatchStates s) : c ∈ s.startingReach y ↔
    (s.chan c).state = .starting ∧ s.yieldReaches y c = true := by
  rw [State.startingReach, List.mem_filter, List.mem_reverse, ((queuesMatch_iff s).1 lists).starting]

theorem mem_onReach : c ∈ s.onReach y ↔ s.onCandidate y c = true := by
  rw [State.onReach, List.mem_filter, List.mem_reverse]
  exact and_iff_right (mem_allChans c)

/-- The next candidate is a STARTING one, or an ON one where no STARTING one is left. -/
theorem yieldCandidate_cases (h : s.yieldCandidate y = some c) :
    s.startingCandidate y = some c ∨ s.startingReach y = [] ∧ s.nextOnCandidate y = some c := by
  unfold State.yieldCandidate at h
  split at h
  · rename_i starting
    exact .inl (starting.trans h)
  · rename_i none
    exact .inr ⟨bestBy_none none, h⟩

theorem yieldCandidate_candidate (lists : QueuesMatchStates s) (h : s.yieldCandidate y = some c) :
    Candidate s y.priority y.mask c := by
  rw [candidate_iff]
  obtain starting | ⟨-, on⟩ := yieldCandidate_cases h
  · obtain ⟨state, reaches⟩ := (mem_startingReach lists).1 (mem_of_bestBy starting)
    exact ⟨reaches, .inl state⟩
  · obtain ⟨reaches, ready⟩ := (onCandidate_iff s y c).1 (mem_onReach.1 (mem_of_bestBy on))
    exact ⟨reaches, .inr ready⟩

theorem yieldCandidate_none (lists : QueuesMatchStates s) (h : s.yieldCandidate y = none) (c : Chan) :
    ¬ Candidate s y.priority y.mask c := by
  unfold State.yieldCandidate at h
  split at h
  · cases h
  · rename_i none
    rw [candidate_iff]
    rintro ⟨reaches, starting | ready⟩
    · have mem : c ∈ s.startingReach y := (mem_startingReach lists).2 ⟨starting, reaches⟩
      rw [show s.startingReach y = [] from bestBy_none none] at mem
      cases mem
    · have mem : c ∈ s.onReach y := mem_onReach.2 ((onCandidate_iff s y c).2 ⟨reaches, ready⟩)
      rw [show s.onReach y = [] from bestBy_none h] at mem
      cases mem

/-- Among the STARTING candidates the next one has the lowest priority, and stands nearest the back of the start list. -/
theorem startingCandidate_first (h : s.startingCandidate y = some c) (mem : d ∈ s.startingReach y) (other : d ≠ c) :
    s.port.image.priority c < s.port.image.priority d ∨ s.port.image.priority c = s.port.image.priority d ∧
      [d, c].Sublist (s.seq.startList.filter fun k => s.yieldReaches y k) := by
  obtain less | ⟨le, sub⟩ := bestBy_first (fun a b => decide_eq_true_iff) h d mem other
  · exact .inl less
  · obtain less | same := lt_or_eq_of_le le
    · exact .inl less
    · refine .inr ⟨same, ?_⟩
      have back := sub.reverse
      rw [← List.filter_reverse, List.reverse_reverse] at back
      exact back

/-- Among the ON candidates the next one has the lowest priority, then the smallest on-since timer, then the highest
number. -/
theorem nextOnCandidate_first (h : s.nextOnCandidate y = some c) (mem : d ∈ s.onReach y) (other : d ≠ c) :
    s.port.image.priority c < s.port.image.priority d ∨ s.port.image.priority c = s.port.image.priority d ∧
      (onSince s c < onSince s d ∨ onSince s c = onSince s d ∧ d < c) := by
  let key (k : Chan) : Nat ×ₗ Nat := toLex (s.port.image.priority k, onSince s k)
  have by_key (a b : Chan) : (decide (s.port.image.priority a < s.port.image.priority b)
      || (decide (s.port.image.priority a = s.port.image.priority b)
        && decide ((s.chan a).state.onSince < (s.chan b).state.onSince))) = true ↔ key a < key b := by
    rw [Prod.Lex.toLex_lt_toLex]
    simp only [Bool.or_eq_true, Bool.and_eq_true, decide_eq_true_iff]
    rfl
  obtain less | ⟨le, sub⟩ := bestBy_first by_key h d mem other
  · exact (Prod.Lex.toLex_lt_toLex.1 less).imp id fun ⟨same, less⟩ => ⟨same, .inl less⟩
  · obtain less | same := lt_or_eq_of_le le
    · exact (Prod.Lex.toLex_lt_toLex.1 less).imp id fun ⟨same, less⟩ => ⟨same, .inl less⟩
    · obtain ⟨priority, since⟩ := Prod.mk.inj (toLex.injective same)
      have downward : allChans.reverse.Pairwise (· > ·) := by decide
      exact .inr ⟨priority, .inr ⟨since, List.pairwise_iff_forall_sublist.1 downward (sub.trans List.filter_sublist)⟩⟩

/-- The next candidate comes before every other one in the order of R115, told by an earlier state s in which both
channels were as they are and whose start list held the STARTING ones in the same order. -/
theorem yieldCandidate_first (lists : QueuesMatchStates u) (once : s.seq.startList.Nodup)
    (image : u.port.image = s.port.image)
    (order : (u.seq.startList.filter fun k => u.yieldReaches y k).Sublist s.seq.startList)
    (h : u.yieldCandidate y = some c) (candidate : Candidate u y.priority y.mask d) (other : d ≠ c)
    (self : u.chan c = s.chan c) (same : u.chan d = s.chan d) : ShedBefore s c d := by
  obtain ⟨reaches, ready⟩ := (candidate_iff u y d).1 candidate
  obtain next | ⟨none, next⟩ := yieldCandidate_cases h
  · obtain ⟨starting, -⟩ := (mem_startingReach lists).1 (mem_of_bestBy next)
    rw [self] at starting
    rw [ShedBefore, if_pos starting]
    by_cases state : (u.chan d).state = .starting
    · obtain less | ⟨equal, sub⟩ := startingCandidate_first next ((mem_startingReach lists).2 ⟨state, reaches⟩) other
      · exact .inr (.inl (image ▸ less))
      · exact .inr (.inr ⟨image ▸ equal, idxOf_lt_of_sublist once (sub.trans order)⟩)
    · exact .inl (same ▸ state)
  · have on_only (k : Chan) (reaches : u.yieldReaches y k = true) : (u.chan k).state ≠ .starting := fun starting => by
      have mem := (mem_startingReach lists).2 ⟨starting, reaches⟩
      rw [none] at mem
      cases mem
    have mem : d ∈ u.onReach y := mem_onReach.2
      ((onCandidate_iff u y d).2 ⟨reaches, ready.resolve_left (on_only d reaches)⟩)
    have since (k : Chan) (same : u.chan k = s.chan k) : onSince u k = onSince s k := by rw [onSince, onSince, same]
    have before := nextOnCandidate_first next mem other
    rw [image, since c self, since d same] at before
    rw [ShedBefore, if_neg (self ▸ on_only c ((candidate_iff u y c).1 (yieldCandidate_candidate lists h)).1)]
    exact ⟨same ▸ on_only d reaches, before⟩

theorem ShedBefore.asymm (h : ShedBefore s c d) : ¬ ShedBefore s d c := by
  unfold ShedBefore at h ⊢
  by_cases first : (s.chan c).state = .starting
  · rw [if_pos first] at h
    by_cases second : (s.chan d).state = .starting
    · rw [if_pos second]
      have ahead := h.resolve_left (not_not_intro second)
      rintro (away | ahead')
      · exact away first
      · omega
    · rw [if_neg second]
      exact fun ⟨away, _⟩ => away first
  · rw [if_neg first] at h
    obtain ⟨away, ahead⟩ := h
    rw [if_neg away]
    rintro ⟨-, ahead'⟩
    rw [Fin.lt_def] at ahead ahead'
    omega

end

end Sys2Proof.Machine

namespace Sys2Proof.Machine

/-! ### A yield's sheds, one after the other (R114 to R116) -/

/-- The channels that held units in s and hold none in t. -/
def goneBetween (s t : State) : List Chan :=
  allChans.filter fun k => (s.chan k).state.holdsUnits && !(t.chan k).state.holdsUnits

/-- A record that no shed has touched: the channel's own, or its own with the channel turned on. -/
def Unshed (s : State) (c : Chan) (r : ChannelRec) : Prop := r = s.chan c ∨ TurnsOn s c r

/-- What has become of a channel's record since s, while a yield's sheds go on: no shed has touched it; or the channel
waited out of the yield's reach and has been given spares; or the yield has shed it. -/
inductive YieldFate (y : YieldIn) (s : State) (c : Chan) (x : ChannelRec) : Prop
  | unshed (same : Unshed s c x)
  | bound (waits : (s.chan c).state.isWaiting = true) (apart : s.yieldReaches y c = false) (starts : Starts (s.chan c) x)
  | shed (r : ChannelRec) (before : Unshed s c r) (held : r.state.holdsUnits = true)
      (reaches : s.yieldReaches y c = true) (record : YieldRecord s.port.image c r x)

/-- The state u while the sheds of a yield that came in s go on. -/
structure YieldStage (y : YieldIn) (s u : State) : Prop where
  image : u.port.image = s.port.image
  active : u.stn.state = .active
  lists : QueuesMatchStates u
  fences : ∀ c, s.yieldReaches y c = true → u.fenced c = true
  elapsed : u.seq.elapsed ≤ s.seq.elapsed
  order : (u.seq.startList.filter u.fenced).Sublist s.seq.startList
  fate : ∀ c, YieldFate y s c (u.chan c)
  units : ∀ c, (s.chan c).state.holdsUnits = true → ∀ (k : Nat) (r : UnitRec), s.table.recs[k]? = some r →
    r.view = .own c →
    u.table.recs[k]? = some { r with view := if (u.chan c).state.holdsUnits then .own c else .releasing }

/-- Every entry's stagger is still ahead. -/
def StaggersAhead (s : State) : Prop := ∀ c ∈ s.seq.startList, s.seq.elapsed < s.port.image.staggerUs c

/-- The count of the units released, and what holds of the channels gone while it goes up (R115, R116). -/
structure YieldTally (y : YieldIn) (s : State) (released count : Nat) (u : State) : Prop extends YieldStage y s u where
  count : count = released + weights s (goneBetween s u)
  last : goneBetween s u ≠ [] →
    ∃ c ∈ goneBetween s u, released + weights s ((goneBetween s u).filter (· ≠ c)) < y.wanted
  flag : u.port.events.getLsbD 1 = true ↔ s.port.events.getLsbD 1 = true ∨ goneBetween s u ≠ []
  were : StaggersAhead s → ∀ c ∈ goneBetween s u, Candidate s y.priority y.mask c
  first : StaggersAhead s → ∀ c ∈ goneBetween s u, ∀ d, Candidate s y.priority y.mask d → d ∉ goneBetween s u →
    ShedBefore s c d
  needed : StaggersAhead s → ∀ c ∈ goneBetween s u,
    released + weights s ((goneBetween s u).filter fun d => decide (ShedBefore s d c)) < y.wanted

section
variable {y : YieldIn} {s t u : State} {c d : Chan} {r x : ChannelRec} {released count : Nat}

theorem mem_goneBetween : c ∈ goneBetween s t ↔
    (s.chan c).state.holdsUnits = true ∧ (t.chan c).state.holdsUnits = false := by
  rw [goneBetween, List.mem_filter]
  simp [mem_allChans]

theorem goneBetween_nodup (s t : State) : (goneBetween s t).Nodup := allChans_nodup.filter _

theorem weights_mono {l m : List Chan} (once : l.Nodup) (sub : l ⊆ m) : weights s l ≤ weights s m := by
  obtain ⟨k, same, sub⟩ := List.subperm_of_subset once sub
  calc weights s l = weights s k := ((same.map _).sum_eq).symm
    _ ≤ weights s m := (sub.map _).sum_le_sum fun _ _ => Nat.zero_le _

theorem Unshed.holds_iff (h : Unshed s c r) : r.state.holdsUnits = (s.chan c).state.holdsUnits := by
  obtain rfl | ⟨starting, -, rfl⟩ := h
  · rfl
  · rw [starting]
    rfl

theorem Unshed.holds (h : Unshed s c r) (holds : r.state.holdsUnits = true) : (s.chan c).state.holdsUnits = true :=
  h.holds_iff ▸ holds

/-- Where every stagger is ahead, nothing turns on. -/
theorem Unshed.same (h : Unshed s c r) (lists : QueuesMatchStates s) (ahead : StaggersAhead s) : r = s.chan c := by
  obtain same | ⟨starting, passed, -⟩ := h
  · exact same
  · exact absurd passed (Nat.not_le.2 (ahead c ((((queuesMatch_iff s).1 lists).starting c).2 starting)))

theorem waiting_idle (waits : x.state.isWaiting = true) : x.state.holdsUnits = false := (waiting_tests waits).2.1

/-- A channel within the yield's reach that holds units has been left alone. -/
theorem YieldStage.unshed (h : YieldStage y s u) (reaches : s.yieldReaches y c = true)
    (holds : (u.chan c).state.holdsUnits = true) : Unshed s c (u.chan c) := by
  cases h.fate c with
  | unshed same => exact same
  | bound _ apart => rw [reaches] at apart; cases apart
  | shed r _ _ _ record => rw [record.idle] at holds; cases holds

theorem YieldStage.gone (h : YieldStage y s u) (gone : c ∈ goneBetween s u) :
    ∃ r, Unshed s c r ∧ r.state.holdsUnits = true ∧ s.yieldReaches y c = true ∧
      YieldRecord s.port.image c r (u.chan c) := by
  obtain ⟨held, idle⟩ := mem_goneBetween.1 gone
  cases h.fate c with
  | unshed same => rw [same.holds_iff, held] at idle; cases idle
  | bound waits => rw [waiting_idle waits] at held; cases held
  | shed r before held reaches record => exact ⟨r, before, held, reaches, record⟩

theorem YieldStage.kept (h : YieldStage y s u) (kept : c ∉ goneBetween s u)
    (waits : (s.chan c).state.isWaiting = false) : Unshed s c (u.chan c) := by
  cases h.fate c with
  | unshed same => exact same
  | bound waits' => rw [waits] at waits'; cases waits'
  | shed r before held _ record => exact absurd (mem_goneBetween.2 ⟨before.holds held, record.idle⟩) kept

theorem YieldStage.reaches (h : YieldStage y s u) (c : Chan) : u.yieldReaches y c = s.yieldReaches y c :=
  yieldReaches_image h.image

/-- What a turn-on or a binding makes of a channel that another's shed does not touch. -/
theorem YieldStage.fate_drift (h : YieldStage y s u)
    (k : x = u.chan c ∨ TurnsOn u c x ∨ GetsSpares u c x) : YieldFate y s c x := by
  obtain rfl | ⟨starting, passed, rfl⟩ | ⟨waits, free, starts⟩ := k
  · exact h.fate c
  · cases h.fate c with
    | unshed same =>
      obtain same | ⟨-, -, on⟩ := same
      · rw [same] at starting ⊢
        exact .unshed (.inr ⟨starting, by rw [← h.image]; exact passed.trans h.elapsed, rfl⟩)
      · rw [on] at starting
        cases starting
    | bound waits apart starts => exact .bound waits apart (starts.trans (.inr ⟨_, rfl, rfl⟩))
    | shed r _ _ _ record =>
      have idle := record.idle
      rw [starting] at idle
      cases idle
  · have apart : s.yieldReaches y c = false := Bool.eq_false_iff.2 fun reaches => by
      rw [h.fences c reaches] at free
      cases free
    cases h.fate c with
    | unshed same =>
      obtain same | ⟨-, -, on⟩ := same
      · rw [same] at waits starts
        exact .bound waits apart starts
      · rw [on] at waits
        cases waits
    | bound waits apart starts' => exact .bound waits apart (starts'.trans starts)
    | shed r _ _ reaches => rw [reaches] at apart; cases apart

/-- Another's shed takes no channel's units. -/
theorem YieldStage.holds_drift (h : YieldStage y s u) (held : (s.chan c).state.holdsUnits = true)
    (k : x = u.chan c ∨ TurnsOn u c x ∨ GetsSpares u c x) :
    x.state.holdsUnits = (u.chan c).state.holdsUnits := by
  obtain rfl | ⟨starting, -, rfl⟩ | ⟨waits, free, -⟩ := k
  · rfl
  · rw [starting]
    rfl
  · have gone := mem_goneBetween.2 ⟨held, waiting_idle waits⟩
    obtain ⟨-, -, -, reaches, -⟩ := h.gone gone
    rw [h.fences c reaches] at free
    cases free

/-- One shed (R82, R115). -/
theorem YieldStage.shed (h : YieldStage y s u) (reaches : s.yieldReaches y c = true)
    (holds : (u.chan c).state.holdsUnits = true) : YieldStage y s (u.shedChan .yield false c) ∧
      (∀ d, d ∈ goneBetween s (u.shedChan .yield false c) ↔ d = c ∨ d ∈ goneBetween s u) := by
  obtain ⟨back, record⟩ := shedChan_yield h.lists h.active (h.fences c reaches) holds
  have before := h.unshed reaches holds
  have held := before.holds holds
  have fenced := back.toShedKeeps.fenced
  rw [h.image] at record
  have holding (d : Chan) (other : d ≠ c) (held : (s.chan d).state.holdsUnits = true) :=
    h.holds_drift held (back.chan d other)
  refine ⟨⟨by rw [back.port]; exact h.image, by rw [back.stn]; exact h.active,
    queuesMatch_keeps.shedChan h.lists .yield false c, fun d reach => by rw [fenced]; exact h.fences d reach,
    back.elapsed.trans h.elapsed, by rw [fenced]; exact back.list.trans h.order, fun d => ?_,
    fun d held k r unit own => ?_⟩, fun d => ?_⟩
  · by_cases e : d = c
    · subst e
      exact .shed _ before holds reaches record
    · exact h.fate_drift (back.chan d e)
  · have now := h.units d held k r unit own
    by_cases e : d = c
    · subst e
      rw [if_pos holds, ← own] at now
      rw [record.idle]
      exact back.given k r now own
    · rw [holding d e held]
      refine back.units k _ now ?_ fun a told => ?_
      · dsimp only
        split <;> rfl
      · dsimp only at told
        split at told
        · cases told
          exact e
        · cases told
  · rw [mem_goneBetween, mem_goneBetween]
    by_cases e : d = c
    · subst e
      exact ⟨fun _ => .inl rfl, fun _ => ⟨held, record.idle⟩⟩
    · simp only [e, false_or]
      exact and_congr_right fun held => by rw [holding d e held]

/-- A candidate for the next shed: the sheds before it have left it alone. -/
theorem YieldStage.candidate (h : YieldStage y s u) (candidate : Candidate u y.priority y.mask c) :
    s.yieldReaches y c = true ∧ c ∉ goneBetween s u := by
  refine ⟨h.reaches c ▸ ((candidate_iff u y c).1 candidate).1, fun gone => ?_⟩
  have idle := (mem_goneBetween.1 gone).2
  rw [candidate.holds] at idle
  cases idle

theorem candidate_congr {p : Nat} {mask : BitVec 4} (image : u.port.image = s.port.image) (same : u.chan c = s.chan c) :
    Candidate u p mask c ↔ Candidate s p mask c := by
  unfold Candidate
  rw [image, same]

/-- Where nothing turns on, a candidate of s that is still there is one now, and is as it was. -/
theorem YieldStage.still_candidate (h : YieldStage y s u) (lists : QueuesMatchStates s) (ahead : StaggersAhead s)
    (candidate : Candidate s y.priority y.mask d) (kept : d ∉ goneBetween s u) :
    u.chan d = s.chan d ∧ Candidate u y.priority y.mask d := by
  have waits : (s.chan d).state.isWaiting = false := Bool.eq_false_iff.2 fun waits => by
    have idle := waiting_idle waits
    rw [candidate.holds] at idle
    cases idle
  have same := (h.kept kept waits).same lists ahead
  exact ⟨same, (candidate_congr h.image same).2 candidate⟩

/-- The next candidate is shed, and the count goes up by its weight (R115, R116). -/
theorem YieldTally.shed (h : YieldTally y s released count u) (lists : QueuesMatchStates s) (short : count < y.wanted)
    (next : u.yieldCandidate y = some c) :
    YieldTally y s released (count + u.port.image.weight c) ((u.shedChan .yield false c).setEvent .shed) := by
  have candidate := yieldCandidate_candidate h.lists next
  obtain ⟨reaches, fresh⟩ := h.candidate candidate
  obtain ⟨stage, gone⟩ := h.toYieldStage.shed reaches candidate.holds
  let v := (u.shedChan .yield false c).setEvent .shed
  replace stage : YieldStage y s v := ⟨stage.image, stage.active, queuesMatch_keeps.setEvent stage.lists .shed,
    stage.fences, stage.elapsed, stage.order, stage.fate, stage.units⟩
  replace gone (d : Chan) : d ∈ goneBetween s v ↔ d = c ∨ d ∈ goneBetween s u := gone d
  have self : c ∈ goneBetween s v := (gone c).2 (.inl rfl)
  have others (p : Chan → Bool) (not_c : p c = false) :
      weights s ((goneBetween s v).filter p) ≤ weights s ((goneBetween s u).filter p) := by
    refine weights_mono ((goneBetween_nodup s v).filter p) fun d mem => ?_
    obtain ⟨mem, test⟩ := List.mem_filter.1 mem
    refine List.mem_filter.2 ⟨((gone d).1 mem).resolve_left ?_, test⟩
    rintro rfl
    rw [not_c] at test
    cases test
  have all (p : Chan → Bool) : weights s ((goneBetween s u).filter p) ≤ weights s (goneBetween s u) :=
    weights_mono ((goneBetween_nodup s u).filter p) (List.filter_subset_self _)
  have below (p : Chan → Bool) (not_c : p c = false) :
      released + weights s ((goneBetween s v).filter p) < y.wanted := by
    have fewer := others p not_c
    have most := all p
    have counted := h.count
    omega
  have same (ahead : StaggersAhead s) : u.chan c = s.chan c := (h.unshed reaches candidate.holds).same lists ahead
  have order : (u.seq.startList.filter fun k => u.yieldReaches y k).Sublist s.seq.startList :=
    (List.monotone_filter_right _ fun k reach => h.fences k (h.reaches k ▸ reach)).trans h.order
  have ahead_of (ahead : StaggersAhead s) (d : Chan) (candidate : Candidate s y.priority y.mask d) (other : d ≠ c)
      (kept : d ∉ goneBetween s u) : ShedBefore s c d := by
    obtain ⟨still, now⟩ := h.still_candidate lists ahead candidate kept
    exact yieldCandidate_first h.lists ((queuesMatch_iff s).1 lists).startNodup h.image order next now other
      (same ahead) still
  have was (ahead : StaggersAhead s) : Candidate s y.priority y.mask c :=
    (candidate_congr h.image (same ahead)).1 candidate
  refine ⟨stage, ?_, fun _ => ⟨c, self, below _ (by simp)⟩, ?_, fun ahead k mem => ?_, fun ahead k mem d candidate' kept => ?_,
    fun ahead k mem => ?_⟩
  · have perm : (goneBetween s v).Perm (c :: goneBetween s u) :=
      (List.perm_ext_iff_of_nodup (goneBetween_nodup s v) (List.nodup_cons.2 ⟨fresh, goneBetween_nodup s u⟩)).2
        fun d => (gone d).trans List.mem_cons.symm
    have sum : weights s (goneBetween s v) = s.port.image.weight c + weights s (goneBetween s u) :=
      (perm.map _).sum_eq.trans List.sum_cons
    have counted := h.count
    rw [sum, h.image]
    omega
  · exact iff_of_true (setEvent_bit _ .shed) (.inr (List.ne_nil_of_mem self))
  · obtain rfl | before := (gone k).1 mem
    · exact was ahead
    · exact h.were ahead k before
  · obtain ⟨other, there⟩ := not_or.1 (mt (gone d).2 kept)
    obtain rfl | before := (gone k).1 mem
    · exact ahead_of ahead d candidate' other there
    · exact h.first ahead k before d candidate' there
  · obtain rfl | before := (gone k).1 mem
    · exact below _ (decide_eq_false fun less => less.asymm less)
    · have after := h.first ahead k before c (was ahead) fresh
      exact (Nat.add_le_add_left (others _ (decide_eq_false after.asymm)) _).trans_lt (h.needed ahead k before)

/-- Eight channels gone are all of them. -/
theorem goneBetween_all (all : 8 ≤ (goneBetween s t).length) (c : Chan) : c ∈ goneBetween s t := by
  have every : goneBetween s t = allChans := List.filter_sublist.eq_of_length_le all
  rw [every]
  exact mem_allChans c

/-- The sheds end where the count has reached the units wanted, or where no candidate is left. -/
theorem YieldTally.yieldSheds (h : YieldTally y s released count u) (lists : QueuesMatchStates s) (n : Nat)
    (turns : 8 ≤ n + (goneBetween s u).length) :
    ∃ total, YieldTally y s released total (Machine.yieldSheds y n count u) ∧
      (y.wanted ≤ total ∨ ∀ c, ¬ Candidate (Machine.yieldSheds y n count u) y.priority y.mask c) := by
  induction n generalizing u count with
  | zero =>
    rw [Nat.zero_add] at turns
    exact ⟨count, h, .inr fun c candidate => (h.candidate candidate).2 (goneBetween_all turns c)⟩
  | succ n ih =>
    unfold Machine.yieldSheds
    split
    · rename_i reached
      exact ⟨count, h, .inl reached⟩
    · rename_i short
      split
      · rename_i none
        exact ⟨count, h, .inr (yieldCandidate_none h.lists none)⟩
      · rename_i c next
        refine ih (h.shed lists (not_le.1 short) next) ?_
        have candidate := yieldCandidate_candidate h.lists next
        obtain ⟨reaches, fresh⟩ := h.candidate candidate
        have more : (c :: goneBetween s u).length ≤
            (goneBetween s ((u.shedChan .yield false c).setEvent .shed)).length := by
          refine (List.subperm_of_subset (List.nodup_cons.2 ⟨fresh, goneBetween_nodup s u⟩) fun d mem => ?_).length_le
          exact ((h.toYieldStage.shed reaches candidate.holds).2 d).2 (List.mem_cons.1 mem)
        rw [List.length_cons] at more
        omega

end

end Sys2Proof.Machine

namespace Sys2Proof.Machine

/-! ### The beginning and the end of a yield's sheds (R87, R113 to R116) -/

section
variable {y : YieldIn} {s t : State} {c : Chan} {n : StoredNotice} {released count : Nat}

/-- A notice that arrives sets no SHED. -/
theorem received_shedFlag (s : State) (n : StoredNotice) :
    (s.received n).port.events.getLsbD 1 = s.port.events.getLsbD 1 := by
  unfold State.received State.ringAppend
  dsimp only
  split
  · split
    · rw [setEvent_events, BitVec.getLsbD_or]
      exact Bool.or_false _
    · rfl
  · rw [setEvent_events, BitVec.getLsbD_or]
    exact Bool.or_false _

/-- A channel within the yield's reach is fenced by the fence it writes (R87, R88). -/
theorem yieldStart_fenced (s : State) (reaches : s.yieldReaches y c = true) : (s.yieldStart y).fenced c = true := by
  have fences : (s.yieldStart y).chans.fences = writeFence s.chans.fences
      { sender := y.sender, priority := y.priority, mask := y.mask, left := s.port.image.holdoffUs } := rfl
  obtain ⟨lower, shared⟩ := (yieldReaches_iff s y c).1 reaches
  rw [fenced_iff]
  unfold Fenced
  rw [fences, writeFence]
  rw [BitVec.and_comm] at shared
  exact ⟨_, List.mem_append_right _ (List.mem_singleton_self _), lower, shared⟩

/-- The spares that a yield releases are counted as the model counts them (R41). -/
theorem sparesIn_length (x : UnitTable) (mask : BitVec 4) : (x.sparesIn mask).length =
    x.recs.countP fun r => r.view.isSpare && r.window.any fun w => mask.getLsbD w.val := by
  rw [UnitTable.sparesIn, length_unitsWhere]
  refine List.countP_congr fun r _ => ?_
  unfold UnitRec.spareIn
  cases r.window <;> rfl

theorem yieldStart_lists (lists : QueuesMatchStates s) : QueuesMatchStates (s.yieldStart y) := by
  have fenced : QueuesMatchStates (s.fenceFor y) :=
    queuesMatch_keeps.still lists ⟨rfl, rfl, rfl, rfl, fun _ => rfl, rfl, rfl, rfl, rfl, .of_eq rfl⟩
  exact queuesMatch_keeps.setTable (queuesMatch_keeps.setEvent fenced .yieldIn) _

theorem received_lists (lists : QueuesMatchStates s) : QueuesMatchStates (s.received n) := by
  obtain ⟨-, chans, seq, stn, image, -⟩ := received_blocks s n
  rw [queuesMatch_iff] at lists ⊢
  exact lists.restated chans (congrArg Sequencer.startList seq) image fun config => by rw [← stn]; exact config

/-- Releasing the mask's spares touches no OWN unit (R41). -/
theorem yieldStart_own {k : Nat} {r : UnitRec} (record : s.table.recs[k]? = some r) (own : r.view = .own c) :
    (s.yieldStart y).table.recs[k]? = some r := by
  have out : k ∉ s.table.sparesIn y.mask := fun mem => by
    obtain ⟨r', record', spare⟩ := (mem_unitsWhere _ _ k).1 mem
    obtain rfl := Option.some.inj (record.symm.trans record')
    rw [UnitRec.spareIn, own] at spare
    cases spare
  have views : (s.yieldStart y).table.recs[k]? = (s.table.recs[k]?).map fun r =>
      { r with view := if k ∈ s.table.sparesIn y.mask then .releasing else r.view } :=
    mapViews_record s.table (fun k v => if k ∈ s.table.sparesIn y.mask then .releasing else v) k
  rw [views, record]
  simp [out]

/-- The sheds begin with nobody gone. -/
theorem yieldTally_start (lists : QueuesMatchStates s) (active : s.stn.state = .active) (released : Nat) :
    YieldTally y s released released ((s.received n).yieldStart y) := by
  obtain ⟨table, chans, seq, stn, image, -⟩ := received_blocks s n
  let u := (s.received n).yieldStart y
  have chan (c : Chan) : u.chan c = s.chan c := received_chan s n c
  have list : u.seq = s.seq := seq
  have nobody : goneBetween s u = [] := List.eq_nil_iff_forall_not_mem.2 fun c mem => by
    obtain ⟨held, idle⟩ := mem_goneBetween.1 mem
    rw [chan, held] at idle
    cases idle
  have stage : YieldStage y s u := by
    refine ⟨image, (congrArg StationCtl.state stn).trans active, yieldStart_lists (received_lists lists),
      fun c reaches => yieldStart_fenced _ ((yieldReaches_image image).trans reaches), by rw [list],
      by rw [list]; exact List.filter_sublist, fun c => .unshed (.inl (chan c)), fun c held k r record own => ?_⟩
    rw [chan, if_pos held, ← own]
    exact yieldStart_own (by rw [table]; exact record) own
  have none {P : Chan → Prop} : ∀ c ∈ goneBetween s u, P c := by rw [nobody]; nofun
  refine ⟨stage, ?_, fun some => absurd nobody some, ?_, fun _ => none, fun _ => none, fun _ => none⟩
  · rw [nobody]
    rfl
  · have flag : u.port.events.getLsbD 1 = s.port.events.getLsbD 1 := by
      change ((s.received n).port.events ||| Event.yieldIn.word).getLsbD 1 = _
      rw [BitVec.getLsbD_or, received_shedFlag]
      exact Bool.or_false _
    rw [flag, nobody]
    simp

/-- What a yield's sheds have made of a channel that is gone, where nothing turns on (R82). -/
theorem YieldStage.gone_record (h : YieldStage y s t) (lists : QueuesMatchStates s) (ahead : StaggersAhead s)
    (gone : c ∈ goneBetween s t) : YieldRecord s.port.image c (s.chan c) (t.chan c) := by
  obtain ⟨r, before, -, -, record⟩ := h.gone gone
  rw [before.same lists ahead] at record
  exact record

/-- A YIELD notice received whole by an ACTIVE station is tallied to its end. -/
theorem handleYield_tally (lists : QueuesMatchStates s) (active : s.stn.state = .active) (mask : y.mask ≠ 0) :
    ∃ total, YieldTally y s (s.table.sparesIn y.mask).length total ((s.received n).handleYield y) ∧
      (y.wanted ≤ total ∨ ∀ c, ¬ Candidate ((s.received n).handleYield y) y.priority y.mask c) := by
  rw [handleYield_masked mask, (received_blocks s n).1]
  exact (yieldTally_start lists active _).yieldSheds lists 8 (Nat.le_add_right 8 _)

end

/-- Settles O27: the tally of the sheds, from the spares released to the last shed, with the record of each channel that is
gone. -/
theorem yieldShedsCandidates : Obligations.YieldShedsCandidates := by
  unfold Obligations.YieldShedsCandidates
  intro s id h p c priority wanted released mask lists active flag peer claimed recv good header sum clean
    priority_eq mask_eq named wanted_eq released_eq
  subst priority_eq mask_eq wanted_eq
  let y := readYield id h.data p.data
  have taken : s.takeNoticeEnd .complete = (s.received (storedNotice .complete id [h, p, c])).handleYield y :=
    takeNoticeEnd_yield active flag peer claimed recv good header
      (storedYield_valid header sum clean)
  have count : (s.table.sparesIn y.mask).length = released := (sparesIn_length s.table y.mask).trans released_eq.symm
  obtain ⟨total, tally, ended⟩ := handleYield_tally (y := y) (n := storedNotice .complete id [h, p, c]) lists active named
  rw [count, ← taken] at tally
  rw [← taken] at ended
  let t := s.takeNoticeEnd .complete
  have chan (k : Chan) : t.settle.chan k = t.chan k := settle_chan t k
  have gone : goneBetween s t.settle = goneBetween s t := by simp only [goneBetween, chan]
  refine ⟨t.settle, goneBetween s t, rfl, gone.symm, ?_, tally.last, ?_, fun ahead => ⟨fun k mem => ?_,
    tally.first ahead, tally.needed ahead, fun k kept waits => ?_⟩⟩
  · refine ended.imp (fun reached => tally.count ▸ reached) fun none k candidate => none k ?_
    exact (candidate_congr (congrArg LocalPort.image (settle_port t)) (chan k)).1 candidate
  · rw [settle_port]
    exact tally.flag
  · have record := tally.gone_record lists ahead mem
    obtain ⟨held, idle⟩ := mem_goneBetween.1 mem
    rw [chan, settle_table]
    refine ⟨tally.were ahead k mem, record.cause, record.idle, fun m n on => ⟨?_, record.cools (by rw [on]; rfl)⟩,
      fun starting => ?_, fun goes => ?_, fun j r unit own => ?_⟩
    · rw [record.off, on]
      rfl
    · rw [record.off, starting]
      rfl
    · obtain ⟨waits, off⟩ := record.goes goes
      split
      · rename_i demand
        exact waits ((demand_iff s k).1 demand)
      · rename_i none
        exact off (mt (demand_iff s k).2 none)
    · have now := tally.units k held j r unit own
      rw [idle] at now
      exact now
  · rw [chan]
    exact (tally.kept kept waits).same lists ahead

end Sys2Proof.Machine

namespace Sys2Proof.Machine

/-! ### What the hand-off of a received notice touches (R113 to R116, R132, R133) -/

/-- A hand-off leaves the Notice Unit but for the yield slot, and every flag but SHED, SKEW and YIELD_IN. -/
structure HandFrame (s t : State) : Prop where
  notice : t.notice = { s.notice with slot := t.notice.slot }
  flags : ∀ k, k ≠ Event.shed.bit → k ≠ Event.skew.bit → k ≠ Event.yieldIn.bit →
    t.port.events.getLsbD k = s.port.events.getLsbD k

section
variable {s t u : State} {c : Chan}

theorem HandFrame.refl (s : State) : HandFrame s s := ⟨rfl, fun _ _ _ _ => rfl⟩

theorem HandFrame.trans (h : HandFrame s t) (k : HandFrame t u) : HandFrame s u := by
  refine ⟨?_, fun i shed skew yieldIn => (k.flags i shed skew yieldIn).trans (h.flags i shed skew yieldIn)⟩
  have second := k.notice
  rw [h.notice] at second
  exact second

/-- Loads may change beside the slot. -/
theorem LoadFrame.hands (h : LoadFrame s t) (notice : t.notice = { s.notice with slot := t.notice.slot }) :
    HandFrame s t :=
  ⟨notice, fun _ _ _ _ => by rw [h.port]⟩

theorem setEvent_hands (s : State) {e : Event} (own : e = .shed ∨ e = .skew ∨ e = .yieldIn) :
    HandFrame s (s.setEvent e) := by
  refine ⟨rfl, fun k shed skew yieldIn => ?_⟩
  have other : k ≠ e.bit := by
    obtain rfl | rfl | rfl := own
    · exact shed
    · exact skew
    · exact yieldIn
  rw [setEvent_events, BitVec.getLsbD_or, Event.word, BitVec.getLsbD_twoPow]
  simp [other.symm]

theorem checkHead_hands (s : State) : HandFrame s s.checkHead := by
  refine (checkHead_load s).hands ?_
  unfold State.checkHead
  split
  · rfl
  · split <;> rfl

theorem bindSpares_hands (s : State) (c : Chan) : HandFrame s (s.bindSpares c) := by
  refine (bindSpares_load s c).hands ?_
  obtain ⟨-, -, -, -, notice, -⟩ :=
    toStarting_blocks (s.bindUnits c ((s.spareUsable c).take (s.port.image.weight c))) c
  unfold State.bindSpares
  rw [notice]
  rfl

theorem spareCheck_hands (s : State) : HandFrame s s.spareCheck :=
  spareCheck_keeps (P := HandFrame s) (fun _ c h _ => h.trans (bindSpares_hands _ c)) (.refl s)

/-- A shed of a station that stays ACTIVE (R82). -/
theorem shedChan_hands (s : State) (c : Chan) : HandFrame s (s.shedChan .yield false c) := by
  have next (v : State) : HandFrame v (v.shedNext c false) := by
    unfold State.shedNext
    split
    · exact ((joinQueue_load v c).hands rfl).trans (spareCheck_hands _)
    · exact .refl v
  cases holds : (s.chan c).state.holdsUnits with
  | false =>
    rw [shedChan_idle (cause := .yield) false holds nofun]
    exact .refl s
  | true =>
    unfold State.shedChan
    obtain starting | ⟨m, n, on⟩ := starting_or_on holds
    · rw [starting]
      dsimp only
      have let_go : HandFrame s (s.shedStarting .yield c) :=
        LoadFrame.hands ((((releaseUnits_load s c).trans (writeCause_load _ c .yield)).trans
          (setChState_load _ c .off)).trans (removeStart_load _ c true)) (by rw [(shedStarting_frame s c .yield).notice])
      refine HandFrame.trans ?_ (next _)
      obtain e | e := removeStart_cases (((s.releaseUnits c).writeCause c .yield).setChState c .off) c false
      all_goals rw [e]
      · exact let_go
      · exact let_go.trans (checkHead_hands _)
    · rw [on]
      dsimp only
      have let_go (x : ChState) : HandFrame s ((s.shedOn .yield c).setChState c x) :=
        ((shedOn_load s .yield c).trans (setChState_load _ c x)).hands rfl
      rw [if_neg nofun]
      split
      · exact let_go .cooldown
      · exact (let_go .off).trans (next _)

theorem yieldSheds_hands (y : YieldIn) (n count : Nat) (s : State) : HandFrame s (yieldSheds y n count s) := by
  induction n generalizing count s with
  | zero => exact .refl s
  | succ n ih =>
    unfold yieldSheds
    split
    · exact .refl s
    · split
      · exact .refl s
      · exact ((shedChan_hands s _).trans (setEvent_hands _ (.inl rfl))).trans (ih _ _)

theorem handleYield_hands (s : State) (y : YieldIn) : HandFrame s (s.handleYield y) := by
  by_cases mask : y.mask = 0
  · rw [show s.handleYield y = s.setEvent .yieldIn from if_pos mask]
    exact setEvent_hands s (.inr (.inr rfl))
  · rw [handleYield_masked mask]
    have fence : HandFrame s (s.fenceFor y) := (setChans_load s _).hands rfl
    have spares : HandFrame ((s.fenceFor y).setEvent .yieldIn) (s.yieldStart y) := (releaseSpares_load _ _).hands rfl
    exact ((fence.trans (setEvent_hands _ (.inr (.inr rfl)))).trans spares).trans (yieldSheds_hands y 8 _ _)

theorem comparePresence_hands (s : State) (payload : List Byte) : HandFrame s (s.comparePresence payload) := by
  unfold State.comparePresence
  split
  · exact .refl s
  · exact setEvent_hands s (.inr (.inl rfl))

theorem handOff_hands (s : State) (n : StoredNotice) : HandFrame s (s.handOff n) := by
  unfold State.handOff
  split
  · split
    · exact .refl s
    · split
      · exact comparePresence_hands s _
      · split
        · exact handleYield_hands s _
        · exact .refl s
      · exact .refl s
  · exact .refl s

end

/-! ### A notice end that is due (R130 to R132) -/

section
variable {s : State} {form : NoticeForm} {id : BitVec 6} {chars : List RxChar} {n : StoredNotice}

theorem endFits_iff : s.endFits form chars = true ↔ NoticeDue s form chars := by
  unfold State.endFits NoticeDue
  cases form with
  | complete =>
    cases s.roll.header with
    | none => simp
    | some h => cases h <;> simp
  | cut =>
    cases s.roll.header with
    | none => simp
    | some h => cases h <;> simp [and_assoc]
  | damaged => simp [and_assoc]
  | stuck => simp

/-- The Roll Tracker goes where the form takes it, the receive record is used up, and the stored notice is disposed of. -/
theorem takeNoticeEnd_due (flag : s.roll.flag = some .dominant)
    (recv : s.notice.recv = some { sender := some id, chars := chars }) (due : NoticeDue s form chars) :
    s.takeNoticeEnd form = ((s.setRoll (s.roll.noticeEnd form)).setNotice { s.notice with recv := none }).dispose
      (storedNotice form id chars) := by
  unfold State.takeNoticeEnd
  rw [recv]
  exact if_pos ⟨flag, endFits_iff.2 due⟩

/-- A peer's notice at a listening station arrives at the ring and is handed off (R132). -/
theorem takeNoticeEnd_peer (flag : s.roll.flag = some .dominant)
    (recv : s.notice.recv = some { sender := some id, chars := chars }) (due : NoticeDue s form chars)
    (peer : id ≠ s.ownId) (hears : s.listens = true) : s.takeNoticeEnd form =
      ((s.setRoll (s.roll.noticeEnd form)).received (storedNotice form id chars)).handOff (storedNotice form id chars) := by
  rw [takeNoticeEnd_due flag recv due]
  refine if_neg ?_
  rintro (own | deaf)
  · exact peer own
  · exact Bool.false_ne_true (deaf.symm.trans hears)

/-- The station's own notice, or one at a station that does not listen, goes no further (R132). -/
theorem takeNoticeEnd_discarded (flag : s.roll.flag = some .dominant)
    (recv : s.notice.recv = some { sender := some id, chars := chars }) (due : NoticeDue s form chars)
    (discards : id = s.ownId ∨ s.listens = false) :
    s.takeNoticeEnd form = (s.setRoll (s.roll.noticeEnd form)).setNotice { s.notice with recv := none } := by
  rw [takeNoticeEnd_due flag recv due]
  exact if_pos discards

/-- A notice with an error is handed to no one (R132). -/
theorem handOff_invalid (invalid : n.valid = false) : s.handOff n = s :=
  if_neg fun h => Bool.false_ne_true (invalid.symm.trans h.1)

/-- A cut notice and a stuck one have the CUT error (R131). -/
theorem storedNotice_cut_invalid (ended : form = .cut ∨ form = .stuck) :
    (storedNotice form id chars).valid = false := by
  obtain rfl | rfl := ended <;> simp [StoredNotice.valid, storedNotice, errorSet, cutError]

/-! ### An arrival at the ring (R134, R136) -/

/-- The three ways of an arrival: a full ring, the level reached, the level not reached. -/
theorem ringAppend_cases (s : State) (n : StoredNotice) :
    16 ≤ s.notice.ring.length ∧ s.ringAppend n = s.setEvent .overrun ∨
    s.notice.ring.length < 16 ∧ s.port.image.noticeLevel ≤ s.notice.ring.length + 1 ∧
      s.ringAppend n = (s.setNotice { s.notice with ring := s.notice.ring ++ [n] }).setEvent .noticeLevel ∨
    s.notice.ring.length < 16 ∧ ¬ s.port.image.noticeLevel ≤ s.notice.ring.length + 1 ∧
      s.ringAppend n = s.setNotice { s.notice with ring := s.notice.ring ++ [n] } := by
  unfold State.ringAppend
  dsimp only
  split
  · rename_i room
    split
    · rename_i level
      exact .inr (.inl ⟨room, level, rfl⟩)
    · rename_i level
      exact .inr (.inr ⟨room, level, rfl⟩)
  · rename_i full
    exact .inl ⟨Nat.not_lt.1 full, rfl⟩

theorem ringAppend_notice (s : State) (n : StoredNotice) : (s.ringAppend n).notice =
    { s.notice with ring := if s.notice.ring.length < 16 then s.notice.ring ++ [n] else s.notice.ring } := by
  obtain ⟨full, e⟩ | ⟨room, -, e⟩ | ⟨room, -, e⟩ := ringAppend_cases s n
  · rw [e, if_neg (Nat.not_lt.2 full)]
    rfl
  · rw [e, if_pos room]
    rfl
  · rw [e, if_pos room]
    rfl

/-- OVERRUN at a full ring, else NOTICE_LEVEL where the arrival reaches it. -/
theorem ringAppend_events (s : State) (n : StoredNotice) : (s.ringAppend n).port.events = s.port.events |||
    if 16 ≤ s.notice.ring.length then 0x0800
    else if s.port.image.noticeLevel ≤ s.notice.ring.length + 1 then 0x0400 else 0 := by
  obtain ⟨full, e⟩ | ⟨room, level, e⟩ | ⟨room, level, e⟩ := ringAppend_cases s n
  · rw [e, if_pos full]
    rfl
  · rw [e, if_neg (Nat.not_le.2 room), if_pos level]
    rfl
  · rw [e, if_neg (Nat.not_le.2 room), if_neg level]
    exact BitVec.or_zero.symm

theorem received_notice (s : State) (n : StoredNotice) : (s.received n).notice =
    { s.notice with
      recv := none, ring := if s.notice.ring.length < 16 then s.notice.ring ++ [n] else s.notice.ring } :=
  ringAppend_notice (s.setNotice { s.notice with recv := none }) n

theorem received_events (s : State) (n : StoredNotice) : (s.received n).port.events = s.port.events |||
    if 16 ≤ s.notice.ring.length then 0x0800
    else if s.port.image.noticeLevel ≤ s.notice.ring.length + 1 then 0x0400 else 0 :=
  ringAppend_events (s.setNotice { s.notice with recv := none }) n

theorem received_handOff_ring (s : State) (n : StoredNotice) :
    ((s.received n).handOff n).notice.ring =
      if s.notice.ring.length < 16 then s.notice.ring ++ [n] else s.notice.ring := by
  rw [(handOff_hands (s.received n) n).notice, received_notice]

theorem received_handOff_recv (s : State) (n : StoredNotice) : ((s.received n).handOff n).notice.recv = none := by
  rw [(handOff_hands (s.received n) n).notice, received_notice]

/-- The hand-off takes no part in NOTICE_LEVEL and OVERRUN. -/
theorem received_handOff_flag (s : State) (n : StoredNotice) {k : Nat} (ring : k = 10 ∨ k = 11) :
    ((s.received n).handOff n).port.events.getLsbD k = (s.received n).port.events.getLsbD k := by
  refine (handOff_hands (s.received n) n).flags k ?_ ?_ ?_ <;> obtain rfl | rfl := ring <;> decide

/-! ### The error set (R131) -/

variable {L kind : Nat}

/-- The header's length, named as the statement names it. -/
theorem charsLength_eq (named : ∀ h, chars.head? = some h → L = (h.data &&& 7 : Byte).toNat) (empty : chars = [] → L = 0) :
    charsLength chars = L := by
  cases chars with
  | nil => exact (empty rfl).symm
  | cons h l => exact (named h rfl).symm

theorem headerLength_le (h : Byte) : headerLength h ≤ 7 := by
  unfold headerLength
  revert h
  decide +kernel

theorem lengthFits_false_iff (few : L ≤ 7) :
    lengthFits kind L = false ↔ 3 ≤ kind ∨ kind = 0 ∧ L ≠ 3 ∨ kind = 1 ∧ L ≠ 1 ∨ L = 7 := by
  match kind with
  | 0 => simp [lengthFits]; omega
  | 1 => simp [lengthFits]; omega
  | 2 => simp [lengthFits]; omega
  | k + 3 => simp [lengthFits]

theorem cutError_iff : cutError form chars = true ↔
    form = .cut ∨ form = .stuck ∨ form = .damaged ∧ chars.length < charsLength chars + 2 := by
  cases form <;> simp [cutError]

theorem lengthError_iff (named : ∀ h, chars.head? = some h → L = headerLength h.data ∧ kind = headerKind h.data) :
    lengthError form chars = true ↔ chars ≠ [] ∧
      (3 ≤ kind ∨ kind = 0 ∧ L ≠ 3 ∨ kind = 1 ∧ L ≠ 1 ∨ L = 7 ∨ form = .damaged ∧ L + 2 < chars.length) := by
  cases chars with
  | nil => simp [lengthError]
  | cons h l =>
    obtain ⟨rfl, rfl⟩ := named h rfl
    have fits := lengthFits_false_iff (kind := headerKind h.data) (headerLength_le h.data)
    rw [lengthError, Bool.or_eq_true, Bool.not_eq_true', fits, decide_eq_true_iff]
    simp only [ne_eq, reduceCtorEq, not_false_eq_true, true_and, or_assoc]

theorem checkError_iff : checkError chars = true ↔ charsLength chars ≤ 6 ∧ charsLength chars + 2 ≤ chars.length ∧
    ((chars.take (charsLength chars + 2)).map RxChar.data).foldl (· + ·) 0 ≠ 0xFF := by
  cases chars with
  | nil => simp [checkError]
  | cons h l => simp [checkError, byteSum, and_assoc]

end

end Sys2Proof.Machine

namespace Sys2Proof.Machine

/-! ### The notice end of a peer's notice, stored or not (R131 to R136) -/

/-- Settles O23: the notice end stores the record's notice and hands it off; the hand-off leaves ring, receive record,
Roll Tracker and NOTICE_LEVEL as the arrival has left them. -/
theorem noticeEndStoresNotice : Obligations.NoticeEndStoresNotice := by
  unfold Obligations.NoticeEndStoresNotice
  intro s form id chars L kind flag recv due hears peer room named empty
  let n := storedNotice form id chars
  let w := s.setRoll (s.roll.noticeEnd form)
  have taken : s.takeNoticeEnd form = (w.received n).handOff n := takeNoticeEnd_peer flag recv due peer hears
  have length : charsLength chars = L := charsLength_eq (fun h first => (named h first).1) empty
  have cut := cutError_iff (form := form) (chars := chars)
  have check := checkError_iff (chars := chars)
  rw [length] at cut check
  refine ⟨(s.takeNoticeEnd form).settle, n, rfl, ?_, rfl, rfl, ?_, List.any_eq_true, List.any_eq_true, cut,
    lengthError_iff named, check, ?_, fun ended => ?_, ?_, fun ended => ?_⟩
  · rw [settle_notice, taken, received_handOff_ring]
    exact if_pos room
  · rw [← length, ← List.drop_one]
    rfl
  · rw [settle_notice, taken, received_handOff_recv]
  · rw [settle_roll, taken, (handOff_marks (w.received n) n).roll]
    have roll : (w.received n).roll = s.roll.noticeEnd form := (ringAppend_marks _ n).roll
    rw [roll]
    obtain rfl | rfl := ended <;> exact ⟨rfl, rfl⟩
  · rw [settle_port, taken, received_handOff_flag w n (.inl rfl), received_events]
    have ring : w.notice.ring = s.notice.ring := rfl
    have port : w.port = s.port := rfl
    rw [ring, port, if_neg (Nat.not_le.2 room), BitVec.getLsbD_or]
    by_cases level : s.port.image.noticeLevel ≤ s.notice.ring.length + 1 <;> simp [level]
  · obtain ⟨table, chans, seq, -⟩ := received_blocks w n
    rw [settle_chans, settle_table, settle_startList, taken, handOff_invalid (storedNotice_cut_invalid ended)]
    exact ⟨chans, table, congrArg Sequencer.startList seq⟩

/-- Settles O24: at a full ring the arrival sets OVERRUN alone; a discarded notice takes the receive record with it and
nothing else. -/
theorem noticeNotStored : Obligations.NoticeNotStored := by
  unfold Obligations.NoticeNotStored
  intro s form id chars flag recv due
  let n := storedNotice form id chars
  let w := s.setRoll (s.roll.noticeEnd form)
  refine ⟨fun peer hears full => ⟨(s.takeNoticeEnd form).settle, rfl, ?_⟩,
    fun discards => ⟨(s.takeNoticeEnd form).settle, rfl, ?_⟩⟩
  · have taken : s.takeNoticeEnd form = (w.received n).handOff n := takeNoticeEnd_peer flag recv due peer hears
    have events : (w.received n).port.events = s.port.events ||| 0x0800 := by
      rw [received_events]
      exact congrArg (s.port.events ||| ·) (if_pos (Nat.le_of_eq full.symm))
    rw [settle_notice, settle_port, settle_chans, taken]
    refine ⟨?_, received_handOff_recv w n, ?_, ?_, fun ended => ?_⟩
    · rw [received_handOff_ring]
      exact if_neg (Nat.not_lt.2 (Nat.le_of_eq full.symm))
    · rw [received_handOff_flag w n (.inr rfl), events]
      simp
    · rw [received_handOff_flag w n (.inl rfl), events]
      simp
    · rw [handOff_invalid (storedNotice_cut_invalid ended)]
      exact ⟨(received_blocks w n).2.1, events⟩
  · rw [settle_notice, settle_port, settle_chans, settle_table, takeNoticeEnd_discarded flag recv due discards]
    exact ⟨rfl, rfl, rfl, rfl, rfl⟩

end Sys2Proof.Machine

namespace Sys2Proof.Machine

/-! ### A peer's PRESENCE (R121, R131, R133) -/

section
variable {s : State} {h a b r c : RxChar} {id : BitVec 6} {n : StoredNotice}

theorem presenceHeader_fields : ∀ x : Byte, x &&& 0xE7 = 0x03 → headerKind x = 0 ∧ headerLength x = 3 := by
  decide +kernel

/-- Five good characters of a PRESENCE header make a valid notice. -/
theorem storedPresence_valid (header : h.data &&& 0xE7 = 0x03) (sum : h.data + a.data + b.data + r.data + c.data = 0xFF)
    (clean : ∀ x ∈ [h, a, b, r, c], x.framing = false ∧ x.marker = false) :
    (storedNotice .complete id [h, a, b, r, c]).valid = true := by
  obtain ⟨kind, length⟩ := presenceHeader_fields h.data header
  have framing : [h, a, b, r, c].any RxChar.framing = false :=
    List.any_eq_false.2 fun x mem => Bool.not_eq_true _ ▸ (clean x mem).1
  have marker : [h, a, b, r, c].any RxChar.marker = false :=
    List.any_eq_false.2 fun x mem => Bool.not_eq_true _ ▸ (clean x mem).2
  rw [StoredNotice.valid, storedNotice, errorSet, framing, marker]
  simp [checkError, lengthError, cutError, charsLength, byteSum, kind, length, lengthFits, sum]

theorem storedPresence_payload (header : h.data &&& 0xE7 = 0x03) :
    (storedNotice .complete id [h, a, b, r, c]).payload = [a.data, b.data, r.data] := by
  obtain ⟨-, length⟩ := presenceHeader_fields h.data header
  simp [storedNotice, charsLength, length]

/-- A valid notice of kind 0 is compared, whoever listens (R133). -/
theorem handOff_presence {x : Byte} (valid : n.valid = true) (claimed : n.sender ≠ 63) (header : n.header = some x)
    (kind : headerKind x = 0) : s.handOff n = s.comparePresence n.payload := by
  unfold State.handOff
  rw [if_pos ⟨valid, claimed⟩, header]
  dsimp only
  rw [kind]
  rfl

/-- The three values compared, as numbers of the image (R121). -/
theorem presencePayload_eq_iff {m : Image} (levels : ∀ w, m.reserve w ≤ 3) (x y z : Byte) :
    [x, y, z] = m.presencePayload ↔ x = byteOf m.units ∧
      y = byteOf ((allWins.map fun w => m.winFirst w + m.winLast w + m.reserve w).sum) ∧
      z = byteOf (m.reserve 0 + 4 * m.reserve 1 + 16 * m.reserve 2 + 64 * m.reserve 3) := by
  unfold Image.presencePayload byteOf
  rw [windowSum_eq, reserveByte_eq levels]
  simp

theorem comparePresence_events (s : State) (payload : List Byte) : (s.comparePresence payload).port.events =
    s.port.events ||| if payload = s.port.image.presencePayload then 0 else 0x0080 := by
  unfold State.comparePresence
  split
  · exact BitVec.or_zero.symm
  · rfl

theorem comparePresence_blocks (s : State) (payload : List Byte) : (s.comparePresence payload).chans = s.chans ∧
    (s.comparePresence payload).table = s.table ∧ (s.comparePresence payload).notice = s.notice := by
  unfold State.comparePresence
  split <;> exact ⟨rfl, rfl, rfl⟩

end

/-- Settles O25: the notice arrives at the ring and is then compared, byte by byte. -/
theorem presenceComparesPlans : Obligations.PresenceComparesPlans := by
  unfold Obligations.PresenceComparesPlans
  intro s id h a b r c hears flag peer claimed recv good header sum clean levels
  let n := storedNotice .complete id [h, a, b, r, c]
  have valid : n.valid = true := storedPresence_valid header sum clean
  have taken : s.takeNoticeEnd .complete = (s.received n).comparePresence [a.data, b.data, r.data] := by
    have arrived := takeNoticeEnd_peer (form := .complete) flag recv ⟨3, good, rfl⟩ peer hears
    rw [← storedPresence_payload (id := id) (h := h) (a := a) (b := b) (r := r) (c := c) header]
    exact arrived.trans (handOff_presence valid claimed rfl (presenceHeader_fields h.data header).1)
  obtain ⟨chans, table, notice⟩ := comparePresence_blocks (s.received n) [a.data, b.data, r.data]
  obtain ⟨table', chans', -, -, image, -⟩ := received_blocks s n
  refine ⟨(s.takeNoticeEnd .complete).settle, rfl, ?_⟩
  rw [settle_chans, settle_table, settle_notice, settle_port, taken, notice, comparePresence_events, received_notice,
    received_events, image]
  refine ⟨chans.trans chans', table.trans table', ?_, ?_⟩
  · dsimp only
    split
    · exact List.length_append
    · rfl
  · simp only [presencePayload_eq_iff levels]

end Sys2Proof.Machine

namespace Sys2Proof.Machine

/-! ### SEND and YIELD at the port (R110, R122, R123, R164 to R166) -/

section
variable {s : State} {priority length p m w : Byte} {payload : List Byte}

/-- A SEND with as many payload bytes as its length operand announces, none for a length above 6 (R164). -/
theorem send_exactly (count : length.toNat ≤ 6 ∧ payload.length = length.toNat ∨ 6 < length.toNat ∧ payload = []) :
    (whole (priority :: length :: payload)).exactly (2 + sendLength (priority :: length :: payload)) = true := by
  obtain ⟨fits, count⟩ | ⟨long, rfl⟩ := count
  · simp [Operands.exactly, whole, sendLength, fits, count]
    omega
  · simp [Operands.exactly, whole, sendLength, Nat.not_le.2 long]

theorem writeCommand_taken {t : Operands} {n : Nat} {v : Reply} {e : State → State} (count : t.exactly n = true)
    (verdict : v = .accepted) : s.writeCommand t n v e = (e s).finishWrite .accepted := by
  rw [verdict]
  exact writeCommand_accepted s t n e count

/-- A SEND of the right count is refused with its verdict. -/
theorem exec_send_refused {v : Reply}
    (count : length.toNat ≤ 6 ∧ payload.length = length.toNat ∨ 6 < length.toNat ∧ payload = [])
    (verdict : s.sendVerdict priority length = v) (refused : v ≠ .accepted) :
    ∃ t, exec (.send (whole (priority :: length :: payload))) s = .next t ∧ RepliedOnly s t v := by
  subst verdict
  exact ⟨_, congrArg Host.Outcome.next (writeCommand_refused s _ _ _ _ (send_exactly count) refused),
    finishWrite_repliedOnly s _⟩

theorem exec_yield_refused {v : Reply} (verdict : s.yieldVerdict p m w = v) (refused : v ≠ .accepted) :
    ∃ t, exec (.yield (whole [p, m, w])) s = .next t ∧ RepliedOnly s t v := by
  subst verdict
  exact ⟨_, congrArg Host.Outcome.next (writeCommand_refused s _ 3 _ _ rfl refused), finishWrite_repliedOnly s _⟩

/-- What an accepted command leaves that writes the Notice Unit alone: the conditions follow, and the reply is stored. -/
def State.noticeCommanded (s : State) (x : NoticeUnit) : State := (s.setNotice x).settle.finishWrite .accepted

theorem exec_send_accepted (fits : length.toNat ≤ 6) (count : payload.length = length.toNat)
    (verdict : s.sendVerdict priority length = .accepted) : exec (.send (whole (priority :: length :: payload))) s =
      .next (s.noticeCommanded { s.notice with
        tx := s.notice.tx ++ [{ priority := priority.toNat, payload := payload }] }) :=
  congrArg Host.Outcome.next (writeCommand_taken (send_exactly (.inl ⟨fits, count⟩)) verdict)

theorem exec_yield_accepted (verdict : s.yieldVerdict p m w = .accepted) : exec (.yield (whole [p, m, w])) s =
    .next (s.noticeCommanded { s.notice with slot := some (portRequest p m w) }) :=
  congrArg Host.Outcome.next (writeCommand_taken rfl verdict)

/-- Such a command sets no event and touches no load; in ACTIVE the open-wish flag is set where the Notice Unit now asks
for a roll (R15). -/
theorem noticeCommanded_blocks (s : State) (x : NoticeUnit) : (s.noticeCommanded x).notice = x ∧
    (s.noticeCommanded x).port.reply = .accepted ∧ (s.noticeCommanded x).port.events = s.port.events ∧
    (s.noticeCommanded x).chans = s.chans ∧ (s.noticeCommanded x).table = s.table ∧
    (s.stn.state = .active → Wishes (s.setNotice x) → (s.noticeCommanded x).roll.openWish = true) := by
  have events : (s.setNotice x).settle.port.events = s.port.events := congrArg LocalPort.events (settle_port _)
  have roll := settle_roll (s.setNotice x)
  unfold State.noticeCommanded
  rw [finishWrite_accepted]
  refine ⟨settle_notice _, rfl, events, settle_chans _, settle_table _, fun active wishes => ?_⟩
  rw [State.setPort_roll, roll, State.setNotice_stn, active]
  exact (wishes_iff _).2 wishes

/-! #### The verdicts in their order (R166) -/

theorem sendVerdict_range (hears : s.listens = true) (long : 6 < length.toNat) :
    s.sendVerdict priority length = .range := by
  simp [State.sendVerdict, sendInRange, hears, long]

/-- A SEND within its ranges is judged by the room in the queue (R122). -/
theorem sendVerdict_inRange (hears : s.listens = true) (level : priority.toNat ≤ 3) (fits : length.toNat ≤ 6) :
    s.sendVerdict priority length = if 4 ≤ s.notice.tx.length then .full else .accepted := by
  have range : sendInRange priority length = true := by simp [sendInRange, level, fits]
  unfold State.sendVerdict
  rw [hears, range]
  rfl

theorem yieldInRange_iff : yieldInRange p m w = true ↔
    p.toNat ≤ 3 ∧ 1 ≤ m.toNat ∧ m.toNat ≤ 15 ∧ 1 ≤ w.toNat ∧ w.toNat ≤ 8 := by
  simp [yieldInRange, and_assoc]

theorem yieldVerdict_inactive (out : s.stn.state ≠ .active) : s.yieldVerdict p m w = .state :=
  if_pos (Bool.eq_false_iff.2 (mt (isActive_iff s).1 out))

theorem yieldVerdict_range (active : s.stn.state = .active) (out : ¬ yieldInRange p m w = true) :
    s.yieldVerdict p m w = .range := by
  simp [State.yieldVerdict, (isActive_iff s).2 active, out]

/-- A YIELD within its ranges is judged by the slot (R110). -/
theorem yieldVerdict_inRange (active : s.stn.state = .active) (range : yieldInRange p m w = true) :
    s.yieldVerdict p m w = if s.notice.slot.isSome then .busy else .accepted := by
  simp [State.yieldVerdict, (isActive_iff s).2 active, range]

end

/-- Settles O43: each verdict in its order, and the Notice Unit alone written by an accepted command. -/
theorem sendAndYieldCommands : Obligations.SendAndYieldCommands := by
  unfold Obligations.SendAndYieldCommands
  refine ⟨fun s priority length payload level => ?_, fun s p m w => ?_⟩
  · rw [← listens_iff]
    refine ⟨fun deaf count => ?_, fun hears long => ?_, fun hears fits count full => ?_, fun hears fits count room => ?_⟩
    · exact exec_send_refused count (if_pos (listens_of_deaf deaf)) nofun
    · exact exec_send_refused (.inr ⟨long, rfl⟩) (sendVerdict_range hears long) nofun
    · exact exec_send_refused (.inl ⟨fits, count⟩) ((sendVerdict_inRange hears level fits).trans (if_pos full)) nofun
    · have verdict := (sendVerdict_inRange hears level fits).trans (if_neg (Nat.not_le.2 room))
      obtain ⟨notice, reply, events, chans, table, wish⟩ := noticeCommanded_blocks s
        { s.notice with tx := s.notice.tx ++ [{ priority := priority.toNat, payload := payload }] }
      refine ⟨_, exec_send_accepted fits count verdict, notice, reply, events, chans, table, fun active => ?_⟩
      exact wish active (.inr (.inr (.inr (.inr (List.append_ne_nil_of_right_ne_nil _ (List.cons_ne_nil _ _))))))
  · refine ⟨fun out => exec_yield_refused (yieldVerdict_inactive out) nofun, fun active out => ?_,
      fun active level named mask least most => ?_⟩
    · exact exec_yield_refused (yieldVerdict_range active (mt yieldInRange_iff.1 out)) nofun
    · have verdict := yieldVerdict_inRange active (yieldInRange_iff.2 ⟨level, named, mask, least, most⟩)
      refine ⟨fun filled => ?_, fun empty => ?_⟩
      · exact exec_yield_refused (verdict.trans (if_pos (Option.isSome_iff_ne_none.2 filled))) nofun
      · obtain ⟨notice, reply, events, chans, table, wish⟩ := noticeCommanded_blocks s
          { s.notice with slot := portRequest p m w }
        rw [empty] at verdict
        refine ⟨_, exec_yield_accepted verdict, notice, reply, events, ?_, chans, table⟩
        exact wish active (.inr (.inr (.inr (.inl (Option.some_ne_none _)))))

end Sys2Proof.Machine

namespace Sys2Proof.Machine

/-! ### Lock flag, flagless positions, station state and incident record (R139, R142, R158, R163, R169) -/

/-- The lock flag stays, and so does what reads 0 at the positions without a flag. The station keeps its state, or goes
from a state after LOCK to another one, to ACTIVE only where that is granted; an incident record written anew names a
state that records one. -/
structure RecordsMove (opens : Prop) (s t : State) : Prop where
  locked : t.port.locked = s.port.locked
  flagless : FlaglessClear s → FlaglessClear t
  state : t.stn.state = s.stn.state ∨
    s.stn.state ≠ .config ∧ t.stn.state ≠ .config ∧ (t.stn.state = .active → opens)
  incident : t.stn.incident = s.stn.incident ∨ IncidentStates t

section
variable {opens wider : Prop} {s t u : State}

theorem RecordsMove.refl (s : State) : RecordsMove opens s s := ⟨rfl, id, .inl rfl, .inl rfl⟩

theorem RecordsMove.trans (h : RecordsMove opens s t) (k : RecordsMove opens t u) : RecordsMove opens s u where
  locked := k.locked.trans h.locked
  flagless := k.flagless ∘ h.flagless
  state := by
    obtain e | ⟨first, -, -⟩ := h.state
    · rw [← e]
      exact k.state
    · obtain e | ⟨-, away⟩ := k.state
      · rw [e]
        exact h.state
      · exact .inr ⟨first, away⟩
  incident := by
    obtain e | written := k.incident
    · unfold IncidentStates
      rw [e]
      exact h.incident
    · exact .inr written

theorem RecordsMove.mono (h : RecordsMove opens s t) (weaker : opens → wider) : RecordsMove wider s t :=
  ⟨h.locked, h.flagless, h.state.imp id fun ⟨a, b, c⟩ => ⟨a, b, weaker ∘ c⟩, h.incident⟩

/-- Neither the lock flag, nor an event or enable word, nor the station state and the incident record are written. -/
theorem RecordsMove.of_same (port : t.port.locked = s.port.locked ∧ t.port.events = s.port.events ∧
    t.port.enables = s.port.enables) (stn : t.stn.state = s.stn.state ∧ t.stn.incident = s.stn.incident) :
    RecordsMove opens s t := by
  obtain ⟨locked, events, enables⟩ := port
  obtain ⟨state, incident⟩ := stn
  refine ⟨locked, fun clear => ?_, .inl state, .inl incident⟩
  unfold FlaglessClear
  rw [events, enables]
  exact clear

/-- A row that may not come now changes nothing (log 2). -/
theorem ite_records {p : Prop} [Decidable p] (h : RecordsMove opens s t) : RecordsMove opens s (if p then t else s) := by
  split
  · exact h
  · exact .refl s

theorem LoadFrame.records (h : LoadFrame s t) : RecordsMove opens s t :=
  .of_same (by rw [h.port]; exact ⟨rfl, rfl, rfl⟩) (by rw [h.stn]; exact ⟨rfl, rfl⟩)

/-- Two words that read 0 at some positions read 0 there together. -/
theorem or_clear {a b m : Word} (h : a &&& m = 0) (k : b &&& m = 0) : (a ||| b) &&& m = 0 := by
  refine BitVec.eq_of_getLsbD_eq fun i _ => ?_
  have first := congrArg (·.getLsbD i) h
  have second := congrArg (·.getLsbD i) k
  simp only [BitVec.getLsbD_and, BitVec.getLsbD_or] at first second ⊢
  rw [Bool.and_or_distrib_right, first, second, Bool.or_self]

/-- No flag stands at a position without one (R169). -/
theorem Event.word_flagless (e : Event) : e.word &&& 0xE000 = 0 := by cases e <;> decide

theorem setEvent_records (s : State) (e : Event) : RecordsMove opens s (s.setEvent e) :=
  ⟨rfl, fun ⟨events, enables⟩ => ⟨or_clear events e.word_flagless, enables⟩, .inl rfl, .inl rfl⟩

theorem LoadFrame.event (h : LoadFrame s t) (e : Event) : RecordsMove opens s (t.setEvent e) :=
  h.records.trans (setEvent_records t e)

theorem setRoll_records (s : State) (x : RollTracker) : RecordsMove opens s (s.setRoll x) :=
  .of_same ⟨rfl, rfl, rfl⟩ ⟨rfl, rfl⟩

theorem setStn_records (s : State) (x : StationCtl) (state : x.state = s.stn.state)
    (incident : x.incident = s.stn.incident) : RecordsMove opens s (s.setStn x) :=
  .of_same ⟨rfl, rfl, rfl⟩ ⟨state, incident⟩

end

/-! ### Departures and station states (R142, R143, R158) -/

section
variable {opens : Prop} {s t : State}

theorem enterState_records {x : StationState} (live : s.stn.state ≠ .config) (away : x ≠ .config ∧ x ≠ .active) :
    RecordsMove opens s (s.enterState x) := by
  have frame := enterState_frame s x
  have state := (enterState_stn s x).1
  obtain ⟨after, inactive⟩ := away
  refine ⟨by rw [frame.port], fun clear => ?_, .inr ⟨live, ?_, fun active => ?_⟩, .inl (by cases x <;> rfl)⟩
  · unfold FlaglessClear
    rw [frame.port]
    exact clear
  · rw [state]
    exact after
  · exact absurd (state.symm.trans active) inactive

theorem depart_records (cause : ShedCause) {x : StationState} (live : s.stn.state ≠ .config)
    (away : x ≠ .config ∧ x ≠ .active) : RecordsMove opens s (s.depart cause x) := by
  have keep := depart_keep s cause x
  have state := depart_stn_state s cause x
  obtain ⟨after, inactive⟩ := away
  refine ⟨keep.locked, fun ⟨events, enables⟩ => ⟨?_, by rw [keep.enables]; exact enables⟩,
    .inr ⟨live, ?_, fun active => ?_⟩, .inl (depart_incident s cause x)⟩
  · rw [depart_events]
    unfold shedFlag
    split
    · exact or_clear events (by decide)
    · exact events
  · rw [state]
    exact after
  · exact absurd (state.symm.trans active) inactive

/-- An incident record is written in a state that records one, before a departure (R158). -/
theorem incident_depart_records (i : IncidentCause) (c : Option Chan) (cause : ShedCause) {x : StationState}
    (live : s.stn.state ∈ [.joining, .active, .quiet, .left]) (away : x ≠ .config ∧ x ≠ .active) :
    RecordsMove opens s ((s.writeIncident i c).depart cause x) := by
  have config : s.stn.state ≠ .config := fun e => by simp [e] at live
  have written : RecordsMove opens s (s.writeIncident i c) := by
    refine ⟨rfl, id, .inl rfl, .inr fun r h => ?_⟩
    obtain rfl := Option.some.inj h
    exact live
  exact written.trans (depart_records (s := s.writeIncident i c) cause config away)

theorem incident_records (i : IncidentCause) (c : Option Chan) (cause : ShedCause) {x : StationState} (e : Event)
    (live : s.stn.state ∈ [.joining, .active, .quiet, .left]) (away : x ≠ .config ∧ x ≠ .active) :
    RecordsMove opens s (((s.writeIncident i c).depart cause x).setEvent e) :=
  (incident_depart_records i c cause live away).trans (setEvent_records _ e)

theorem faultClash_records (live : s.stn.state ∈ [.joining, .active, .quiet, .left]) :
    RecordsMove opens s s.faultClash :=
  incident_records .clash none .clash .fault live (by decide)

theorem faultDrive_records (live : s.stn.state ∈ [.joining, .active, .quiet, .left]) (c : Option Chan) :
    RecordsMove opens s (s.faultDrive c) :=
  incident_records .drive c .drive .fault live (by decide)

theorem actRequest_records (live : s.stn.state ≠ .config) (q : Request) : RecordsMove opens s (s.actRequest q) := by
  cases q with
  | leave => exact depart_records .leave live (by decide)
  | quiet => exact depart_records .quiet live (by decide)

theorem joinOrHalt_away (s : State) : s.joinOrHalt ≠ .config ∧ s.joinOrHalt ≠ .active := by
  unfold State.joinOrHalt
  split <;> decide

theorem listens_records (h : s.listens = true) : s.stn.state ∈ [.joining, .active, .quiet, .left] := by
  unfold State.listens at h
  cases state : s.stn.state <;> simp [state] at h ⊢

theorem active_records (h : s.stn.state = .active) : s.stn.state ∈ [.joining, .active, .quiet, .left] := by
  simp [h]

theorem settle_records (s : State) : RecordsMove opens s s.settle :=
  .of_same (by rw [settle_port]; exact ⟨rfl, rfl, rfl⟩) (by rw [settle_stn]; exact ⟨rfl, rfl⟩)

theorem LoadFrame.settled (h : LoadFrame s t) : RecordsMove opens s t.settle := h.records.trans (settle_records t)

end

/-! ### Received notices and the sheds of a roll (R32 to R37, R113 to R116, R132 to R136) -/

section
variable {opens : Prop} (s : State)

theorem yieldSheds_records (y : YieldIn) (n count : Nat) (s : State) :
    RecordsMove opens s (yieldSheds y n count s) := by
  induction n generalizing count s with
  | zero => exact .refl s
  | succ n ih =>
    unfold yieldSheds
    split
    · exact .refl s
    · split
      · exact .refl s
      · exact ((shedChan_load s _ _ _).event _).trans (ih _ _)

theorem handOff_records (n : StoredNotice) : RecordsMove opens s (s.handOff n) := by
  have compared (l : List Byte) : RecordsMove opens s (s.comparePresence l) := by
    unfold State.comparePresence
    split
    · exact .refl s
    · exact setEvent_records s _
  have handled (y : YieldIn) : RecordsMove opens s (s.handleYield y) := by
    unfold State.handleYield
    split
    · exact setEvent_records s _
    · exact (((setChans_load s _).event _).trans (releaseSpares_load _ _).records).trans (yieldSheds_records y 8 _ _)
  unfold State.handOff
  split
  · split
    · exact .refl s
    · split
      · exact compared _
      · split
        · exact handled _
        · exact .refl s
      · exact .refl s
  · exact .refl s

theorem dispose_records (n : StoredNotice) : RecordsMove opens s (s.dispose n) := by
  have stored : RecordsMove opens s (s.ringAppend n) := by
    have appended := setNotice_load s { s.notice with ring := s.notice.ring ++ [n] }
    obtain ⟨-, e⟩ | ⟨-, -, e⟩ | ⟨-, -, e⟩ := ringAppend_cases s n
    all_goals rw [e]
    · exact setEvent_records s _
    · exact appended.event _
    · exact appended.records
  unfold State.dispose
  split
  · exact .refl s
  · exact stored.trans (handOff_records _ n)

theorem takeNoticeEnd_records (form : NoticeForm) : RecordsMove opens s (s.takeNoticeEnd form) := by
  unfold State.takeNoticeEnd
  split
  · split
    · exact ((setRoll_records s _).trans (setNotice_load _ _).records).trans (dispose_records _ _)
    · exact .refl s
  · exact .refl s

theorem markSkew_records (units : List Nat) : RecordsMove opens s (s.markSkew units) := by
  unfold State.markSkew
  split
  · exact (setTable_load s _).event _
  · exact .refl s

theorem takeByPeer_records (units : List Nat) : RecordsMove opens s (s.takeByPeer units) := by
  have marked : RecordsMove opens s (if s.overlaps units then s.setEvent .overlap else s) := by
    split
    · exact setEvent_records s _
    · exact .refl s
  have shed := (setTable_load (if s.overlaps units then s.setEvent .overlap else s)
    ((if s.overlaps units then s.setEvent .overlap else s).table.mapViews (takeView units))).trans
      (foldl_load _ (fun u c => shedChan_load u c .overlap false) (s.overlapped units) _)
  unfold State.takeByPeer
  dsimp only
  split
  · exact marked.trans (shed.event _)
  · exact marked.trans shed.records

theorem takeByWinner_records (units : List Nat) : RecordsMove opens s (s.takeByWinner units) := by
  unfold State.takeByWinner
  split
  · split
    · exact (setTable_load s _).records.trans (takeByPeer_records _ _)
    · split
      · exact ((bindUnits_load s _ _).trans (toStarting_load _ _)).records
      · exact (setTable_load s _).records
  · split
    · exact takeByPeer_records s _
    · exact .refl s
  · exact takeByPeer_records s _

/-! ### The rows of a roll and of the line (R4 to R20, R30 to R37, R53, R54, R59, R62) -/

theorem takeRollStart_records : RecordsMove opens s s.takeRollStart := by
  unfold State.takeRollStart
  split
  · exact .of_same ⟨rfl, rfl, rfl⟩ ⟨rfl, rfl⟩
  · exact .refl s

theorem takeHoldComplete_records (units : List Nat) : RecordsMove opens s (s.takeHoldComplete units) := by
  have bid (u : State) : RecordsMove opens u u.formBid := .of_same ⟨rfl, rfl, rfl⟩ ⟨rfl, rfl⟩
  unfold State.takeHoldComplete
  split
  · refine .trans (t := s.toPosition s.numUnits) (setRoll_records s _) (.trans ?_ (bid _))
    split
    · exact (markSkew_records _ units).trans (setTable_load _ _).records
    · exact .refl _
  · exact .refl s

theorem takeClaimResolved_records (word : BitVec 10) : RecordsMove opens s (s.takeClaimResolved word) := by
  have settled : RecordsMove opens s ((s.toPosition (s.numUnits + 10)).settleClaim word) :=
    .of_same ⟨rfl, rfl, rfl⟩ ⟨rfl, rfl⟩
  unfold State.takeClaimResolved
  split
  · dsimp only
    split
    · rename_i twin
      unfold State.seesTwin at twin
      simp only [Bool.and_eq_true] at twin
      obtain ⟨⟨listens, -⟩, -⟩ := twin
      exact settled.trans (faultClash_records (listens_records listens))
    · exact settled
  · exact .refl s

theorem takeTakeComplete_records (units : List Nat) : RecordsMove opens s (s.takeTakeComplete units) := by
  unfold State.takeTakeComplete
  split
  · refine .trans (t := s.toPosition (2 * s.numUnits + 10)) (setRoll_records s _) ?_
    dsimp only
    split
    · refine (markSkew_records _ units).trans ?_
      split
      · exact takeByWinner_records _ units
      · exact takeByPeer_records _ units
    · exact .refl _
  · exact .refl s

theorem takeDriveReport_records (phase : Phase) (q : Nat) : RecordsMove opens s (s.takeDriveReport phase q) := by
  obtain ⟨-, stn, -, -, -, port, -⟩ := driveReported_blocks s phase
  unfold State.takeDriveReport
  split
  · rename_i may
    have live : s.stn.state ∈ [.joining, .active, .quiet, .left] := by
      unfold State.mayReportDrive at may
      cases state : s.stn.state <;> simp [state] at may ⊢
    have reported : RecordsMove opens s (s.driveReported phase) :=
      .of_same (by rw [port]; exact ⟨rfl, rfl, rfl⟩) (by rw [stn]; exact ⟨rfl, rfl⟩)
    exact reported.trans (faultDrive_records (by rw [stn]; exact live) _)
  · exact .refl s

theorem takeConflict_records (phase : OwnPhase) : RecordsMove opens s (s.takeConflict phase) := by
  have effects : RecordsMove opens s (s.conflictEffects phase) :=
    (setEvent_records s .conflict).trans (.of_same ⟨rfl, rfl, rfl⟩ ⟨rfl, rfl⟩)
  unfold State.takeConflict
  split
  · rename_i fits
    obtain ⟨-, takes, -⟩ := fits
    unfold State.takesPart at takes
    simp only [Bool.and_eq_true] at takes
    obtain ⟨⟨active, -⟩, -⟩ := takes
    have active' : (s.conflictEffects phase).stn.state = .active := (isActive_iff s).1 active
    dsimp only
    split
    · exact effects.trans (faultClash_records (active_records active'))
    · exact effects
  · exact .refl s

theorem takeStuckLine_records : RecordsMove opens s s.takeStuckLine := by
  have disarmed : RecordsMove opens s s.disarmed := .of_same ⟨rfl, rfl, rfl⟩ ⟨rfl, rfl⟩
  have report (u : State) : RecordsMove opens u u.stuckReport := by
    have uncounted : RecordsMove opens u ((u.setStn { u.stn with joinCount := 0 }).setEvent .stuck) :=
      .trans (t := u.setStn { u.stn with joinCount := 0 }) (setStn_records u _ rfl rfl) (setEvent_records _ .stuck)
    unfold State.stuckReport
    split
    · rename_i active
      exact incident_records .stuck none .stuck .stuck (active_records active) (by decide)
    · exact uncounted
    · exact uncounted
    · exact setEvent_records u _
    · exact setEvent_records u _
    · exact setEvent_records u _
    · exact .refl u
  have tracked (u : State) : RecordsMove opens u u.stuckTracker := .of_same ⟨rfl, rfl, rfl⟩ ⟨rfl, rfl⟩
  unfold State.takeStuckLine
  split
  · exact (disarmed.trans (report _)).trans (tracked _)
  · exact .refl s

theorem takeBusLossExpiry_records : RecordsMove opens s s.takeBusLossExpiry := by
  unfold State.takeBusLossExpiry
  split
  · rename_i runs
    exact incident_records .busLoss none .busLoss .busLoss (active_records ((isActive_iff s).1 runs.1)) (by decide)
  · exact .refl s

theorem takeKillnLow_records : RecordsMove opens s s.takeKillnLow := by
  have sampled : RecordsMove opens s s.killnSampled := by
    rw [killnSampled_eq]
    exact .of_same ⟨rfl, rfl, rfl⟩ ⟨rfl, rfl⟩
  have state : s.killnSampled.stn.state = s.stn.state := by
    rw [killnSampled_eq]
    rfl
  by_cases live : s.stn.state ∈ [.joining, .active, .quiet, .left]
  · rw [takeKillnLow_halts s live]
    exact sampled.trans (incident_depart_records .kill none .kill (by rw [state]; exact live) (by decide))
  · have out : s.stn.state ∈ [.config, .halted, .faulted] := by
      cases e : s.stn.state <;> simp [e] at live ⊢
    rw [takeKillnLow_stays s out]
    exact sampled

theorem takeKillnHigh_records : RecordsMove opens s s.takeKillnHigh := by
  have sampled : RecordsMove opens s (s.setStn { s.stn with killnLow := false }) := setStn_records s _ rfl rfl
  rw [takeKillnHigh_eq]
  split
  · rename_i halted
    exact sampled.trans (enterState_records (by rw [State.setStn_stn, halted]; decide) (by decide))
  · exact sampled

/-! ### The roll end (R62, R127, R140, R142, R145) -/

theorem endSend_records : RecordsMove opens s s.endSend := by
  have completed (r : SendRecord) : RecordsMove opens s (s.completeSource r) := by
    have sent : RecordsMove opens s
        ((s.setNotice { s.notice with holdoff := s.port.image.holdoffUs }).setEvent .yieldOut) :=
      (setNotice_load s _).event _
    unfold State.completeSource
    split
    · exact (setNotice_load s _).records
    · exact (setNotice_load s _).records
    · dsimp only
      split
      · split
        · exact sent.trans (emptySlot_load _).records
        · exact sent
      · exact sent
  unfold State.endSend
  split
  · dsimp only
    split
    · exact (completed _).trans (setNotice_load _ _).records
    · exact (setNotice_load s _).records
  · exact .refl s

/-- The Station Controller's part enters ACTIVE out of JOINING alone (R142). -/
theorem endStation_records (valid : Bool) : RecordsMove (s.stn.state = .joining) s (s.endStation valid) := by
  have cleared {opens : Prop} (u : State) : RecordsMove opens u u.clearMark := setStn_records u _ rfl rfl
  have timed : RecordsMove (s.stn.state = .joining) s (s.restartBusLoss valid) := by
    unfold State.restartBusLoss
    split
    · exact setStn_records s _ rfl rfl
    · exact .refl s
  have state : (s.restartBusLoss valid).stn.state = s.stn.state := by
    unfold State.restartBusLoss
    split <;> rfl
  unfold State.endStation
  split
  · rename_i joining
    have counted (n : Nat) : RecordsMove (s.stn.state = .joining) s
        (s.setStn { s.stn with joinCount := n, countable := false }) := setStn_records s _ rfl rfl
    have entered (u : State) (live : u.stn.state = .joining) : RecordsMove (s.stn.state = .joining) u u.enterActive :=
      ⟨rfl, (setEvent_records (opens := False) u .joined).flagless,
        .inr ⟨by rw [live]; decide, nofun, fun _ => joining⟩, .inl rfl⟩
    unfold State.endJoining
    dsimp only
    split
    · exact (counted _).trans (entered _ joining)
    · exact counted _
  · rename_i active
    refine .trans ?_ (cleared _)
    unfold State.endActive
    dsimp only
    split
    · exact timed.trans (actRequest_records (by rw [state, active]; decide) _)
    · exact timed
  all_goals exact cleared s

theorem noticeAtEnd_records (cause : RollEndCause) : RecordsMove opens s (s.noticeAtEnd cause) := by
  cases cause with
  | check => exact takeNoticeEnd_records s _
  | stuck => exact takeNoticeEnd_records s _
  | flag => exact .refl s
  | trailing => exact .refl s

/-- The state that the blocks of a roll end find: the notices completed, the Roll Tracker out of the roll, the silence
timer at 0 (R5, R14, R127). -/
def State.rollEnded (s : State) (cause : RollEndCause) : State :=
  (s.endNotices.setRoll (s.endNotices.roll.finish s.inFlight cause (s.endValid cause))).setStn
    { s.endNotices.stn with silence := 0 }

theorem takeRollEnd_eq {cause : RollEndCause} (order : RollEndOrder) (occurs : s.endOccurs cause = true) :
    s.takeRollEnd cause order = (s.rollEnded cause).endBlocks cause (s.endValid cause) order := if_pos occurs

theorem rollEnded_stn (cause : RollEndCause) : (s.rollEnded cause).stn = { s.stn with silence := 0 } := by
  unfold State.rollEnded
  rw [State.setStn_stn, (endNotices_ground s).stn]

theorem rollEnded_records (cause : RollEndCause) : RecordsMove opens s (s.rollEnded cause) := by
  have run : RecordsMove opens s s.endConflictRun := by
    unfold State.endConflictRun
    split
    · exact .of_same ⟨rfl, rfl, rfl⟩ ⟨rfl, rfl⟩
    · exact .refl s
  have notices : RecordsMove opens s s.endNotices := (run.trans (endSend_records _)).trans (endRecv_load _).records
  exact notices.trans (.of_same ⟨rfl, rfl, rfl⟩ ⟨rfl, rfl⟩)

theorem takeRollEnd_records (cause : RollEndCause) (order : RollEndOrder) :
    RecordsMove (s.stn.state = .joining) s (s.takeRollEnd cause order) := by
  cases occurs : s.endOccurs cause with
  | false =>
    rw [show s.takeRollEnd cause order = s from if_neg (by rw [occurs]; exact Bool.false_ne_true)]
    exact .refl s
  | true =>
    have ended : (s.rollEnded cause).stn.state = s.stn.state := by rw [rollEnded_stn]
    have station (u : State) (state : u.stn = (s.rollEnded cause).stn) :
        RecordsMove (s.stn.state = .joining) u (u.endStation (s.endValid cause)) :=
      (endStation_records u _).mono fun joining => by rw [← ended, ← state]; exact joining
    have check := spareCheck_load (s.rollEnded cause)
    rw [takeRollEnd_eq s order occurs]
    refine (rollEnded_records s cause).trans ?_
    cases order with
    | checkFirst => exact check.records.trans (station _ check.stn)
    | requestFirst => exact (station _ rfl).trans (spareCheck_load _).records
    | noticeBetween =>
      exact (check.records.trans (noticeAtEnd_records _ cause)).trans
        (station _ ((noticeAtEnd_marks _ cause).stn.trans check.stn))

end

end Sys2Proof.Machine

namespace Sys2Proof.Machine

/-! ### The local port (R144 to R148, R153, R157, R159, R161 to R166, R170) -/

section
variable {opens : Prop} (s : State)

theorem errorFor_records (r : Reply) : RecordsMove opens s (s.errorFor r) := by
  unfold State.errorFor
  split
  · exact setEvent_records s _
  · exact .refl s

theorem finishWrite_records (r : Reply) : RecordsMove opens s (s.finishWrite r) := by
  have replied : RecordsMove opens s (s.setPort { s.port with reply := r }) := .of_same ⟨rfl, rfl, rfl⟩ ⟨rfl, rfl⟩
  exact (replied.trans (errorFor_records _ r)).trans (.of_same ⟨rfl, rfl, rfl⟩ ⟨rfl, rfl⟩)

theorem writeCommand_records (x : Operands) (n : Nat) (v : Reply) (e : State → State)
    (effect : v = .accepted → RecordsMove opens s (e s)) : RecordsMove opens s (s.writeCommand x n v e) := by
  unfold State.writeCommand
  split
  · split
    · exact (effect ‹_›).trans (finishWrite_records _ _)
    · exact finishWrite_records s _
  · exact finishWrite_records s _

theorem readCommand_records (x : Operands) (n : Nat) (v : Reply) (data : List Byte) (e : State → State)
    (effect : RecordsMove opens s (e s)) : RecordsMove opens s (s.readCommand x n v data e) := by
  have staged (u : State) (w : Reply) (bytes : List Byte) : RecordsMove opens u (u.stageData w bytes) :=
    .of_same ⟨rfl, rfl, rfl⟩ ⟨rfl, rfl⟩
  unfold State.readCommand
  split
  · split
    · exact effect.trans (staged _ _ _)
    · exact (errorFor_records s _).trans (staged _ _ _)
  · exact finishWrite_records s _

theorem takeCfgWrite_records (x : Operands) : RecordsMove opens s (s.takeCfgWrite x) := by
  refine writeCommand_records s x _ _ _ fun _ => ?_
  unfold State.storeItem
  split
  · exact .of_same ⟨rfl, rfl, rfl⟩ ⟨rfl, rfl⟩
  · exact .refl s

/-- A flag is cleared, and none comes to stand at a position without one (R170). -/
theorem takeClearEvents_records (x : Operands) : RecordsMove opens s (s.takeClearEvents x) := by
  refine writeCommand_records s x _ _ _ fun _ => ⟨rfl, fun ⟨events, enables⟩ => ⟨?_, enables⟩, .inl rfl, .inl rfl⟩
  change (s.port.events &&& ~~~ x.word) &&& 0xE000 = 0
  rw [BitVec.and_assoc, BitVec.and_comm (~~~ x.word), ← BitVec.and_assoc, events]
  exact BitVec.zero_and

/-- The enable word is masked before it is stored (R170). -/
theorem takeSetEnables_records (x : Operands) : RecordsMove opens s (s.takeSetEnables x) := by
  refine writeCommand_records s x _ _ _ fun _ => ⟨rfl, fun ⟨events, _⟩ => ⟨events, ?_⟩, .inl rfl, .inl rfl⟩
  change (x.word &&& 0x1FFF) &&& 0xE000 = 0
  rw [BitVec.and_assoc]
  exact BitVec.and_zero

theorem request_records (live : s.stn.state ≠ .config) (q : Request) : RecordsMove opens s (s.request q) := by
  unfold State.request
  split
  · exact setStn_records s _ rfl rfl
  · exact actRequest_records live q

theorem takeLeave_records (x : Operands) : RecordsMove opens s (s.takeLeave x) := by
  refine writeCommand_records s x _ _ _ fun accepted => .trans ?_ (settle_records _)
  have live : s.stn.state ≠ .config := fun config => by simp [State.leaveVerdict, config] at accepted
  unfold State.leaveEffect
  split
  · exact request_records s live _
  · exact depart_records _ live (by decide)

theorem takeQuiet_records (x : Operands) : RecordsMove opens s (s.takeQuiet x) := by
  refine writeCommand_records s x _ _ _ fun accepted => .trans ?_ (settle_records _)
  have live : s.stn.state ≠ .config := fun config => by simp [State.quietVerdict, config] at accepted
  unfold State.quietEffect
  split
  · exact request_records s live _
  · exact enterState_records live (by decide)

theorem takeJoin_records (x : Operands) : RecordsMove opens s (s.takeJoin x) := by
  refine writeCommand_records s x _ _ _ fun accepted => .trans (enterState_records ?_ (by decide)) (settle_records _)
  exact fun config => by simp [State.joinVerdict, config] at accepted

theorem takeClearFault_records (x : Operands) : RecordsMove opens s (s.takeClearFault x) := by
  refine writeCommand_records s x _ _ _ fun accepted =>
    .trans (enterState_records ?_ (joinOrHalt_away s)) (settle_records _)
  exact fun config => by simp [State.clearFaultVerdict, config] at accepted

theorem takeSoftReset_records (x : Operands) : RecordsMove opens s (s.takeSoftReset x) := by
  refine writeCommand_records s x _ _ _ fun accepted => ?_
  have live : s.stn.state ≠ .config := fun config => by simp [State.afterLock, State.inConfig, config] at accepted
  have values (u : State) : RecordsMove opens u u.softValues :=
    ⟨rfl, fun ⟨_, enables⟩ => ⟨BitVec.zero_and, enables⟩, .inl rfl, .inl rfl⟩
  exact ((depart_records .reset live (joinOrHalt_away s)).trans (values _)).trans (settle_records _)

theorem takeReadIncident_records (x : Operands) : RecordsMove opens s (s.takeReadIncident x) :=
  readCommand_records s x _ _ _ _ ⟨rfl, id, .inl rfl, .inr nofun⟩

/-- Every command of the local port but LOCK. -/
theorem runCommand_records (k : Command) (x : Operands) (other : k ≠ .lock) :
    RecordsMove opens s (s.runCommand k x) := by
  have reads (n : Nat) (v : Reply) (data : List Byte) : RecordsMove opens s (s.readCommand x n v data id) :=
    readCommand_records s x n v data id (.refl s)
  have masks (f : State → Chan → State) (each : ∀ u c, LoadFrame u (f u c)) : RecordsMove opens s
      (s.writeCommand x 1 s.afterLock fun u => ((chansIn (x.byte 0)).foldl f u).settle) :=
    writeCommand_records s x 1 _ _ fun _ => (foldl_load f each _ s).settled
  cases k with
  | lock => exact absurd rfl other
  | cfgWrite => exact takeCfgWrite_records s x
  | cfgRead =>
    change RecordsMove opens s (s.takeCfgRead x)
    unfold State.takeCfgRead
    split <;> exact reads _ _ _
  | readUnit =>
    change RecordsMove opens s (s.takeReadUnit x)
    unfold State.takeReadUnit
    split <;> exact reads _ _ _
  | readChannel =>
    change RecordsMove opens s (s.takeReadChannel x)
    unfold State.takeReadChannel
    split <;> exact reads _ _ _
  | readQueue => exact reads 0 .accepted s.queueBytes
  | readStation => exact reads 0 .accepted s.stationBytes
  | readEvents => exact reads 0 .accepted [(s.port.events >>> 8).setWidth 8, s.port.events.setWidth 8]
  | readIncident => exact takeReadIncident_records s x
  | pop =>
    exact readCommand_records s x 0 s.popVerdict s.popData
      (fun u => u.setNotice { u.notice with ring := u.notice.ring.tail }) (setNotice_load s _).records
  | demandSet => exact masks (State.writeSoft true) fun u c => writeInputs_load u c _
  | demandClear => exact masks (State.writeSoft false) fun u c => writeInputs_load u c _
  | park => exact masks State.parkChan parkChan_load
  | unpark => exact masks State.unparkChan unparkChan_load
  | send =>
    exact writeCommand_records s x _ _ (fun u => (u.appendTx (x.byte 0) (x.bytes.drop 2)).settle) fun _ =>
      (setNotice_load s _).settled
  | yield =>
    exact writeCommand_records s x _ _
      (fun u => (u.setSlot (some (portRequest (x.byte 0) (x.byte 1) (x.byte 2)))).settle) fun _ => (setSlot_load s _).settled
  | clearEvents => exact takeClearEvents_records s x
  | setEnables => exact takeSetEnables_records s x
  | join => exact takeJoin_records s x
  | leave => exact takeLeave_records s x
  | quiet => exact takeQuiet_records s x
  | clearFault => exact takeClearFault_records s x
  | softReset => exact takeSoftReset_records s x

theorem takeUnknown_records (code : Byte) : RecordsMove opens s (s.takeUnknown code) := by
  unfold State.takeUnknown
  split
  · exact finishWrite_records s _
  · exact .refl s

/-- The rise of CSN, where the command that it ends is not LOCK. -/
theorem takeCsnRise_records (other : s.port.rx.code ≠ 0x12) : RecordsMove opens s s.takeCsnRise := by
  have idle (u : State) : RecordsMove opens u u.rxIdle := .of_same ⟨rfl, rfl, rfl⟩ ⟨rfl, rfl⟩
  have closed : RecordsMove opens s s.closeTransaction := by
    unfold State.closeTransaction
    split
    · exact takeUnknown_records s _
    · rename_i k named
      split
      · exact finishWrite_records s _
      · exact runCommand_records s k _ fun lock => other (code_of_lock (lock ▸ named))
  unfold State.takeCsnRise
  split
  · exact closed.trans (idle _)
  · exact closed.trans (idle _)
  all_goals exact idle s

end

end Sys2Proof.Machine

namespace Sys2Proof.Machine

/-! ### Every row (R139, R142) -/

/-- The rows that the doors of CONFIG stand open to: POR, RESET, and LOCK as a command or carried by a CSN rise (R139). -/
def State.opensConfig (s : State) (i : Instr) : Prop :=
  i = .por ∨ i = .reset ∨ (∃ x, i = .lock x) ∨ i = .csnRise ∧ s.port.rx.code = 0x12

/-- The row that may take the station to ACTIVE: a roll end out of JOINING (R142). -/
def State.activates (s : State) (i : Instr) : Prop := s.stn.state = .joining ∧ ∃ cause order, i = .rollEnd cause order

theorem fire_records (s : State) (i : Instr) (closed : ¬ s.opensConfig i) : RecordsMove (s.activates i) s (s.fire i) := by
  have commands (k : Command) (x : Operands) (row : i = k.toInstr x) : RecordsMove (s.activates i) s (s.fire i) := by
    rw [row, fire_toInstr]
    refine runCommand_records s k x fun lock => closed (.inr (.inr (.inl ⟨x, ?_⟩)))
    rw [row, lock]
    rfl
  cases i with
  | por => exact absurd (.inl rfl) closed
  | reset => exact absurd (.inr (.inl rfl)) closed
  | killnLow => exact (takeKillnLow_records s).trans (settle_records _)
  | killnHigh => exact (takeKillnHigh_records s).trans (settle_records _)
  | filteredLevelChange pins => exact (takeLevelChange_load s pins).settled
  | rollStart => exact (takeRollStart_records s).trans (settle_records _)
  | holdComplete units => exact (takeHoldComplete_records s units).trans (settle_records _)
  | claimResolved word => exact (takeClaimResolved_records s word).trans (settle_records _)
  | takeComplete units => exact (takeTakeComplete_records s units).trans (settle_records _)
  | noticeEnd form => exact (takeNoticeEnd_records s form).trans (settle_records _)
  | rollEnd cause order =>
    exact ((takeRollEnd_records s cause order).mono fun joining => ⟨joining, _, _, rfl⟩).trans (settle_records _)
  | driveReport phase q => exact (takeDriveReport_records s phase q).trans (settle_records _)
  | conflict phase => exact (takeConflict_records s phase).trans (settle_records _)
  | stuckLine => exact (takeStuckLine_records s).trans (settle_records _)
  | busLossExpiry => exact (takeBusLossExpiry_records s).trans (settle_records _)
  | lingerExpiry unit => exact (setTable_load s _).settled
  | waitTimerExpiry c => exact (takeWaitExpiry_load s c).settled
  | minOnExpiry c => exact (takeMinOnExpiry_load s c).settled
  | minOffExpiry c => exact (takeMinOffExpiry_load s c).settled
  | fenceExpiry sender => exact (setChans_load s _).records
  | yieldHoldoffExpiry => exact (setNotice_load s _).records
  | staggerReached => exact (takeStaggerReached_load s).settled
  | statusCapture => exact .of_same ⟨rfl, rfl, rfl⟩ ⟨rfl, rfl⟩
  | unknownCommand code => exact takeUnknown_records s code
  | csnRise => exact takeCsnRise_records s fun code => closed (.inr (.inr (.inr ⟨rfl, code⟩)))
  | settlingEnd => exact ite_records (.of_same ⟨rfl, rfl, rfl⟩ ⟨rfl, rfl⟩)
  | openRoll => exact ite_records (.of_same ⟨rfl, rfl, rfl⟩ ⟨rfl, rfl⟩)
  | malformedOpen => exact ite_records (.of_same ⟨rfl, rfl, rfl⟩ ⟨rfl, rfl⟩)
  | arbitrationLost bit => exact ite_records (.of_same ⟨rfl, rfl, rfl⟩ ⟨rfl, rfl⟩)
  | flagReading level => exact ite_records (.of_same ⟨rfl, rfl, rfl⟩ ⟨rfl, rfl⟩)
  | noticeCharacter index data framing marker => exact ite_records (.of_same ⟨rfl, rfl, rfl⟩ ⟨rfl, rfl⟩)
  | silenceTimerExpiry => exact ite_records (.of_same ⟨rfl, rfl, rfl⟩ ⟨rfl, rfl⟩)
  | candidateOpen => exact ite_records (.of_same ⟨rfl, rfl, rfl⟩ ⟨rfl, rfl⟩)
  | openNoise run => exact ite_records (.of_same ⟨rfl, rfl, rfl⟩ ⟨rfl, rfl⟩)
  | cfgWrite x => exact commands .cfgWrite x rfl
  | cfgRead x => exact commands .cfgRead x rfl
  | lock x => exact commands .lock x rfl
  | demandSet x => exact commands .demandSet x rfl
  | demandClear x => exact commands .demandClear x rfl
  | park x => exact commands .park x rfl
  | unpark x => exact commands .unpark x rfl
  | send x => exact commands .send x rfl
  | yield x => exact commands .yield x rfl
  | pop x => exact commands .pop x rfl
  | readUnit x => exact commands .readUnit x rfl
  | readChannel x => exact commands .readChannel x rfl
  | readQueue x => exact commands .readQueue x rfl
  | readStation x => exact commands .readStation x rfl
  | readIncident x => exact commands .readIncident x rfl
  | readEvents x => exact commands .readEvents x rfl
  | clearEvents x => exact commands .clearEvents x rfl
  | setEnables x => exact commands .setEnables x rfl
  | join x => exact commands .join x rfl
  | leave x => exact commands .leave x rfl
  | quiet x => exact commands .quiet x rfl
  | clearFault x => exact commands .clearFault x rfl
  | softReset x => exact commands .softReset x rfl

/-! ### The records through every step (R139, R158, R163, R169, R170, R174) -/

/-- Lock flag, flagless positions and incident record are legal. -/
def RecordsLegal (s : State) : Prop := LockFlag s ∧ FlaglessClear s ∧ IncidentStates s

section
variable {opens : Prop} {s t : State}

theorem RecordsMove.legal (h : RecordsMove opens s t) (legal : RecordsLegal s) : RecordsLegal t := by
  obtain ⟨flag, clear, incident⟩ := legal
  refine ⟨?_, h.flagless clear, ?_⟩
  · unfold LockFlag at flag ⊢
    rw [h.locked, flag]
    obtain e | ⟨before, after, -⟩ := h.state
    · rw [e]
    · exact iff_of_true before after
  · obtain e | written := h.incident
    · unfold IncidentStates
      rw [e]
      exact incident
    · exact written

/-- LOCK sets the flag and leaves CONFIG (R163). -/
theorem RecordsLegal.lockBlocks (legal : RecordsLegal s) : RecordsLegal s.lockBlocks := by
  obtain ⟨-, clear, incident⟩ := legal
  obtain ⟨away, -⟩ := joinOrHalt_away s
  exact ⟨iff_of_true rfl away, clear, incident⟩

theorem RecordsLegal.takeLock (legal : RecordsLegal s) (x : Operands) : RecordsLegal (s.takeLock x) := by
  have finished {u : State} (k : RecordsLegal u) (r : Reply) : RecordsLegal (u.finishWrite r) :=
    (finishWrite_records (opens := False) u r).legal k
  unfold State.takeLock State.writeCommand
  split
  · split
    · exact finished legal.lockBlocks _
    · exact finished legal _
  · exact finished legal _

/-- The rise of CSN that ends a LOCK. -/
theorem RecordsLegal.lockRise (legal : RecordsLegal s) (code : s.port.rx.code = 0x12) : RecordsLegal s.takeCsnRise := by
  have idle {u : State} (k : RecordsLegal u) : RecordsLegal u.rxIdle := k
  have closed : RecordsLegal s.closeTransaction := by
    unfold State.closeTransaction
    rw [code]
    exact legal.takeLock _
  unfold State.takeCsnRise
  split
  · exact idle closed
  · exact idle closed
  all_goals exact idle legal

theorem RecordsLegal.fire (legal : RecordsLegal s) (i : Instr) : RecordsLegal (s.fire i) := by
  by_cases door : s.opensConfig i
  · obtain rfl | rfl | ⟨x, rfl⟩ | ⟨rfl, code⟩ := door
    · exact ⟨iff_of_false nofun (not_not.2 rfl), ⟨BitVec.zero_and, BitVec.zero_and⟩, nofun⟩
    · obtain ⟨-, -, incident⟩ := legal
      exact ⟨iff_of_false nofun (not_not.2 rfl), ⟨BitVec.zero_and, BitVec.zero_and⟩, incident⟩
    · exact legal.takeLock x
    · exact legal.lockRise code
  · exact (fire_records s i door).legal legal

theorem recordsLegal_tickKeeps : TickKeeps RecordsLegal where
  fire i legal := legal.fire i
  write {s t} legal write := by
    obtain ⟨-, -, -, -, -, stn, port, -⟩ := write
    refine RecordsMove.legal (opens := False) (.of_same ?_ ?_) legal
    · rw [port]
      exact ⟨rfl, rfl, rfl⟩
    · rw [stn]
      exact ⟨rfl, rfl⟩
  advanceTimers legal := legal
  sampleFilters legal := legal

end

/-- Settles O54: a row moves the records legally or is one of the four that open CONFIG, and a CLK period is made of
rows and of writes that touch no record. -/
theorem recordsStayLegal : Obligations.RecordsStayLegal := by
  unfold Obligations.RecordsStayLegal
  intro s t legal taken
  unfold step at taken
  split at taken
  · obtain rfl := Host.Outcome.next.inj taken
    exact recordsLegal_tickKeeps.tick legal
  · rename_i c rest _
    rw [exec_eq_fire] at taken
    obtain rfl := Host.Outcome.next.inj taken
    have popped : RecordsLegal (s.setPending rest) := legal
    exact popped.fire c

/-! ### The doors of ACTIVE and of CONFIG (R139, R142) -/

section
variable (s : State)

/-- What LOCK does to the station state: it leaves CONFIG, or it is refused. -/
def State.locksTo (s : State) (x : StationState) : Prop := x = s.stn.state ∨ s.stn.state = .config ∧ x = s.joinOrHalt

theorem finishWrite_stn (r : Reply) : (s.finishWrite r).stn = s.stn := by rw [finishWrite_eq]

theorem takeLock_state (x : Operands) : s.locksTo (s.takeLock x).stn.state := by
  unfold State.takeLock State.writeCommand
  split
  · split
    · rename_i accepted
      refine .inr ⟨inConfig_of_lock accepted, ?_⟩
      rw [finishWrite_stn]
      rfl
    · exact .inl (by rw [finishWrite_stn])
  · exact .inl (by rw [finishWrite_stn])

theorem lockRise_state (code : s.port.rx.code = 0x12) : s.locksTo s.takeCsnRise.stn.state := by
  have closed : s.locksTo s.closeTransaction.stn.state := by
    unfold State.closeTransaction
    rw [code]
    exact takeLock_state s _
  unfold State.takeCsnRise
  split
  · exact closed
  · exact closed
  all_goals exact .inl rfl

end

/-- Settles O52: the rows that move the records keep CONFIG and enter ACTIVE by a roll end alone; POR and RESET enter
CONFIG, and LOCK leaves it, as a command or carried by a CSN rise. -/
theorem activeAndConfigDoors : Obligations.ActiveAndConfigDoors := by
  unfold Obligations.ActiveAndConfigDoors
  intro c s t taken
  rw [exec_eq_fire] at taken
  obtain rfl := Host.Outcome.next.inj taken
  by_cases door : s.opensConfig c
  · have entry : c = .por ∨ c = .reset ∨ s.locksTo (s.fire c).stn.state ∧
        ((∃ x, c = .lock x) ∨ c = .csnRise ∧ s.port.rx.code = 0x12) := by
      obtain por | reset | ⟨x, rfl⟩ | ⟨rfl, code⟩ := door
      · exact .inl por
      · exact .inr (.inl reset)
      · exact .inr (.inr ⟨takeLock_state s x, .inl ⟨x, rfl⟩⟩)
      · exact .inr (.inr ⟨lockRise_state s code, .inr ⟨rfl, code⟩⟩)
    obtain rfl | rfl | ⟨lands, lock⟩ := entry
    · exact ⟨fun _ => nofun, fun _ left => absurd rfl left, fun _ _ => .inl rfl⟩
    · exact ⟨fun _ => nofun, fun _ left => absurd rfl left, fun _ _ => .inr rfl⟩
    · obtain ⟨away, inactive⟩ := joinOrHalt_away s
      refine ⟨fun other active => ?_, fun _ _ => lock, fun other config => ?_⟩
      · obtain e | ⟨-, e⟩ := lands
        · exact absurd (e.symm.trans active) other
        · exact absurd (e.symm.trans active) inactive
      · obtain e | ⟨before, -⟩ := lands
        · exact absurd (e.symm.trans config) other
        · exact absurd before other
  · have moved := (fire_records s c door).state
    refine ⟨fun other active => ?_, fun config left => ?_, fun other config => ?_⟩
    · obtain e | ⟨-, -, entered⟩ := moved
      · exact absurd (e.symm.trans active) other
      · exact entered active
    · obtain e | ⟨before, -⟩ := moved
      · exact absurd (e.trans config) left
      · exact absurd config before
    · obtain e | ⟨-, after, -⟩ := moved
      · exact absurd (e.symm.trans config) other
      · exact absurd config after

end Sys2Proof.Machine

namespace Sys2Proof.Machine

/-! ### The bus-loss expiry (R143, R155, R158) -/

/-- Settles O32: the expiry is an incident record, a departure into JOINING, where the count starts anew, and its event. -/
theorem busLossExpiryRejoins : Obligations.BusLossExpiryRejoins := by
  unfold Obligations.BusLossExpiryRejoins
  intro s n active runs
  have taken : s.takeBusLossExpiry = ((s.writeIncident .busLoss none).depart .busLoss .joining).setEvent .busLoss :=
    if_pos ⟨(isActive_iff s).2 active, by rw [runs]; rfl⟩
  have incident := incident_departs_settled s .busLoss none .busLoss .joining .busLoss nofun nofun
  rw [← taken] at incident
  refine ⟨_, rfl, incident.departed, ?_, ?_, ?_, incident.events, incident.runs⟩
  · rw [settle_stn, taken]
    rfl
  · rw [settle_stn, taken]
    rfl
  · rw [incident.incident, active]

end Sys2Proof.Machine

namespace Sys2Proof.Machine

/-! ### Commands without operands (R165, R166) -/

section
variable {s t : State} {v : Reply} {e : State → State} {cause : ShedCause} {x : StationState}

/-- A command without operands is refused with its verdict, and nothing else happens. -/
theorem plain_refused (verdict : v = .state) : ∃ t, Host.Outcome.next (s.writeCommand (whole []) 0 v e) =
    (.next t : Out) ∧ RepliedOnly s t .state := by
  subst verdict
  exact ⟨_, congrArg _ (writeCommand_refused s _ 0 _ e rfl nofun), finishWrite_repliedOnly s _⟩

/-- A command without operands takes its effect and is answered. -/
theorem plain_accepted (verdict : v = .accepted) :
    (.next (s.writeCommand (whole []) 0 v e) : Out) = .next ((e s).finishWrite .accepted) :=
  congrArg _ (writeCommand_taken rfl verdict)

/-- The answer to a command is no part of a departure. -/
theorem Departed.finishWrite (h : Departed s t cause x) (r : Reply) : Departed s (t.finishWrite r) cause x := by
  rw [finishWrite_eq]
  exact ⟨h.state, h.request, h.busLoss, h.views, h.sets, h.windows, h.latch, h.loads, h.causes, h.inputs, h.line,
    h.fences, h.slot, h.presence, h.ring, h.claim, h.send⟩

end

/-! ### JOIN, CLEAR_FAULT, LEAVE and QUIET (R140, R144 to R148, R153) -/

section
variable (s : State) (x : StationState) (cause : ShedCause) (q : Request)

/-- What a command leaves that takes the station to another state without a shed (R146 to R148, R153). -/
def State.entered : State := (s.enterState x).settle.finishWrite .accepted

theorem entered_blocks : (s.entered x).stn.state = x ∧ (s.entered x).stn.incident = s.stn.incident ∧
    (s.entered x).chans = s.chans ∧ (s.entered x).table = s.table ∧ (s.entered x).port.reply = .accepted ∧
    (s.entered x).port.events = s.port.events ∧ (s.entered x).line.drive = none := by
  have frame := enterState_frame s x
  have incident : (s.enterState x).stn.incident = s.stn.incident := by cases x <;> rfl
  unfold State.entered
  rw [finishWrite_accepted]
  refine ⟨?_, ?_, ?_, ?_, rfl, ?_, ?_⟩
  · rw [State.setPort_stn, settle_state, (enterState_stn s x).1]
  · rw [State.setPort_stn, settle_stn, incident]
  · rw [State.setPort_chans, settle_chans, frame.chans]
  · rw [State.setPort_table, settle_table, frame.table]
  · rw [State.setPort_port, settle_port, frame.port]
  · rw [State.setPort_line, settle_line, frame.drive]

/-- Into JOINING: join count 0, no mark, and the open-wish flag by the silence timer (R140, R141). -/
theorem entered_joining : (s.entered .joining).stn.joinCount = 0 ∧ (s.entered .joining).stn.countable = false ∧
    ((s.entered .joining).roll.openWish = true ↔ 512 ≤ s.stn.silence) := by
  unfold State.entered
  rw [finishWrite_accepted]
  refine ⟨?_, ?_, ?_⟩
  · rw [State.setPort_stn, settle_stn]
    rfl
  · rw [State.setPort_stn, settle_stn]
    rfl
  · rw [State.setPort_roll, settle_roll]
    exact decide_eq_true_iff

/-- What a command leaves that departs (R143, R144). -/
def State.departedBy : State := (s.depart cause x).settle.finishWrite .accepted

theorem departedBy_departed (park : cause ≠ .park) (away : x ≠ .active) :
    Departed s (s.departedBy x cause) cause x :=
  (departed_settle s cause x (u := s.depart cause x) park away rfl rfl rfl rfl (by rw [depart_line])
    (depart_stn_state s cause x) (depart_stn_request s cause x)).finishWrite .accepted

/-- A cause that sets no SHED leaves the events (R83). -/
theorem shedFlag_silent (silent : cause.setsShed = false) : shedFlag s cause = s.port.events := by
  unfold shedFlag
  rw [silent]
  exact if_neg fun h => Bool.false_ne_true h.2

theorem departedBy_events (silent : cause.setsShed = false) : (s.departedBy x cause).port.events = s.port.events := by
  unfold State.departedBy
  rw [finishWrite_accepted, settle_port]
  exact (depart_events s cause x).trans (shedFlag_silent s cause silent)

/-- What a command leaves that makes a request pending (R144). -/
def State.asked : State := (s.setStn { s.stn with request := some q }).settle.finishWrite .accepted

theorem asked_blocks : (s.asked q).stn.request = some q ∧ (s.asked q).stn.state = s.stn.state ∧
    (s.asked q).chans = s.chans ∧ (s.asked q).table = s.table ∧ (s.asked q).cont = s.cont ∧
    (s.asked q).notice = s.notice ∧ (s.asked q).port.reply = .accepted := by
  unfold State.asked
  rw [finishWrite_accepted]
  refine ⟨?_, settle_state _, settle_chans _, settle_table _, settle_cont _, settle_notice _, rfl⟩
  rw [State.setPort_stn, settle_stn]
  rfl

variable {s}

/-- In ACTIVE a request is pending while a roll is in flight, and acts at once without one (R144). -/
theorem request_pends (flight : s.roll.state ∈ [.inRoll, .trailing]) :
    s.request q = s.setStn { s.stn with request := some q } := if_pos ((inFlight_iff s).2 flight)

theorem request_acts (still : s.roll.state ∉ [.inRoll, .trailing]) : s.request q = s.actRequest q :=
  if_neg (mt (inFlight_iff s).1 still)

theorem leaveEffect_active (active : s.stn.state = .active) : s.leaveEffect = s.request .leave :=
  if_pos ((isActive_iff s).2 active)

theorem leaveEffect_elsewhere (away : s.stn.state ≠ .active) : s.leaveEffect = s.depart .leave .left :=
  if_neg (mt (isActive_iff s).1 away)

theorem quietEffect_active (active : s.stn.state = .active) : s.quietEffect = s.request .quiet :=
  if_pos ((isActive_iff s).2 active)

theorem quietEffect_elsewhere (away : s.stn.state ≠ .active) : s.quietEffect = s.enterState .quiet :=
  if_neg (mt (isActive_iff s).1 away)

/-! #### The verdicts by station state (R148) -/

theorem joinVerdict_eq (s : State) : s.joinVerdict = if s.stn.state ∈ [.quiet, .left] then .accepted else .state := by
  unfold State.joinVerdict
  cases s.stn.state <;> rfl

theorem clearFaultVerdict_eq (s : State) :
    s.clearFaultVerdict = if s.stn.state = .faulted then .accepted else .state := by
  unfold State.clearFaultVerdict
  cases s.stn.state <;> rfl

theorem leaveVerdict_eq (s : State) :
    s.leaveVerdict = if s.stn.state ∈ [.joining, .active, .quiet] then .accepted else .state := by
  unfold State.leaveVerdict
  cases s.stn.state <;> rfl

theorem quietVerdict_eq (s : State) :
    s.quietVerdict = if s.stn.state ∈ [.joining, .active] then .accepted else .state := by
  unfold State.quietVerdict
  cases s.stn.state <;> rfl

/-- LEAVE where it is taken. -/
theorem exec_leave (taken : s.stn.state ∈ [.joining, .active, .quiet]) :
    exec (.leave (whole [])) s = .next (s.leaveEffect.settle.finishWrite .accepted) :=
  plain_accepted ((leaveVerdict_eq s).trans (if_pos taken))

theorem exec_quiet (taken : s.stn.state ∈ [.joining, .active]) :
    exec (.quiet (whole [])) s = .next (s.quietEffect.settle.finishWrite .accepted) :=
  plain_accepted ((quietVerdict_eq s).trans (if_pos taken))

end

/-- Settles O48: each command by its verdict in the station state, and the effect of an accepted one. -/
theorem stationCommandsByState : Obligations.StationCommandsByState := by
  unfold Obligations.StationCommandsByState
  intro s
  refine ⟨fun away => ?_, fun here => ?_, fun faulted => ?_, fun sound => ?_, fun active flight => ?_,
    fun active still => ?_, fun present => ?_, fun joining => ?_, fun out => ?_, fun out => ?_⟩
  · obtain ⟨state, incident, chans, table, reply, -, -⟩ := entered_blocks s .joining
    obtain ⟨count, mark, wish⟩ := entered_joining s
    exact ⟨_, plain_accepted ((joinVerdict_eq s).trans (if_pos away)), state, count, mark, reply, chans, table,
      incident, wish⟩
  · exact plain_refused ((joinVerdict_eq s).trans (if_neg here))
  · obtain ⟨state, incident, chans, table, reply, events, -⟩ := entered_blocks s s.joinOrHalt
    exact ⟨_, plain_accepted ((clearFaultVerdict_eq s).trans (if_pos faulted)), state, reply, incident, events, chans,
      table⟩
  · exact plain_refused ((clearFaultVerdict_eq s).trans (if_neg sound))
  · have pends (q : Request) := asked_blocks s q
    simp only [active] at pends
    have leave := exec_leave (s := s) (by rw [active]; decide)
    have quiet := exec_quiet (s := s) (by rw [active]; decide)
    rw [leaveEffect_active active, request_pends .leave flight] at leave
    rw [quietEffect_active active, request_pends .quiet flight] at quiet
    exact ⟨⟨_, leave, pends .leave⟩, ⟨_, quiet, pends .quiet⟩⟩
  · have leave := exec_leave (s := s) (by rw [active]; decide)
    have quiet := exec_quiet (s := s) (by rw [active]; decide)
    rw [leaveEffect_active active, request_acts .leave still] at leave
    rw [quietEffect_active active, request_acts .quiet still] at quiet
    exact ⟨⟨_, leave, departedBy_departed s _ _ nofun nofun, departedBy_events s _ _ rfl⟩,
      ⟨_, quiet, departedBy_departed s _ _ nofun nofun, departedBy_events s _ _ rfl⟩⟩
  · have away : s.stn.state ≠ .active := fun active => by simp [active] at present
    have leave := exec_leave (s := s) (by
      cases state : s.stn.state <;> simp [state] at present ⊢)
    rw [leaveEffect_elsewhere away] at leave
    exact ⟨_, leave, departedBy_departed s _ _ nofun nofun⟩
  · have quiet := exec_quiet (s := s) (by rw [joining]; decide)
    rw [quietEffect_elsewhere (by rw [joining]; decide)] at quiet
    obtain ⟨state, -, chans, table, reply, -, drive⟩ := entered_blocks s .quiet
    exact ⟨_, quiet, state, table, chans, drive, reply⟩
  · refine plain_refused ((leaveVerdict_eq s).trans (if_neg ?_))
    cases state : s.stn.state <;> simp [state] at out ⊢
  · refine plain_refused ((quietVerdict_eq s).trans (if_neg ?_))
    cases state : s.stn.state <;> simp [state] at out ⊢

end Sys2Proof.Machine

namespace Sys2Proof.Machine

/-! ### What a station-level shed leaves of queue, filters and off-since timers (R80, R82, R84) -/

/-- A shed leaves a channel's filter, and the off-since timer of one that is not ON. -/
structure RecordRests (r r' : ChannelRec) : Prop where
  run : r'.run = r.run
  off : r.state.isOn = false → r'.state.isOn = false ∧ r'.offSince = r.offSince

/-- No queue entry goes, and the channels' filters and off-since timers rest. -/
structure ShedRests (s t : State) : Prop where
  queue : s.chans.queue.Sublist t.chans.queue
  chan : ∀ c, RecordRests (s.chan c) (t.chan c)

section
variable {s t u : State} {c : Chan}

theorem RecordRests.refl (r : ChannelRec) : RecordRests r r := ⟨rfl, fun off => ⟨off, rfl⟩⟩

theorem RecordRests.trans {a b r : ChannelRec} (h : RecordRests a b) (k : RecordRests b r) : RecordRests a r := by
  refine ⟨k.run.trans h.run, fun off => ?_⟩
  obtain ⟨off, first⟩ := h.off off
  obtain ⟨off, second⟩ := k.off off
  exact ⟨off, second.trans first⟩

theorem ShedRests.trans (h : ShedRests s t) (k : ShedRests t u) : ShedRests s u :=
  ⟨h.queue.trans k.queue, fun c => (h.chan c).trans (k.chan c)⟩

theorem ShedRests.of_chans (recs : t.chans.recs = s.chans.recs) (queue : t.chans.queue = s.chans.queue) :
    ShedRests s t := by
  refine ⟨by rw [queue], fun c => ?_⟩
  rw [State.chan, State.chan, recs]
  exact .refl _

/-- One channel's record is written, and rests. -/
theorem ShedRests.of_one (queue : s.chans.queue.Sublist t.chans.queue) (self : RecordRests (s.chan c) (t.chan c))
    (others : ∀ d, d ≠ c → t.chan d = s.chan d) : ShedRests s t := by
  refine ⟨queue, fun d => ?_⟩
  by_cases e : d = c
  · rw [e]
    exact self
  · rw [others d e]
    exact .refl _

theorem sublist_insertQueue (priority : Chan → Nat) (c : Chan) (l : List Chan) :
    l.Sublist (insertQueue priority c l) := by
  induction l with
  | nil => exact List.nil_sublist _
  | cons d rest ih =>
    unfold insertQueue
    split
    · exact ih.cons_cons d
    · exact List.sublist_cons_self c _

theorem shedNext_leaving_rests (s : State) (c : Chan) : ShedRests s (s.shedNext c true) := by
  obtain e | e := shedNext_leaving_cases s c
  all_goals rw [e]
  · exact .of_chans rfl rfl
  · refine .of_one (c := c) (sublist_insertQueue _ c _) ?_ fun d other => joinQueue_chan_other s c d other
    rw [joinQueue_chan_self]
    exact ⟨rfl, fun _ => ⟨rfl, rfl⟩⟩

theorem shedChan_leaving_rests (s : State) {cause : ShedCause} (park : cause ≠ .park) (c : Chan) :
    ShedRests s (s.shedChan cause true c) := by
  have letGo (x : ChState) (on : (s.chan c).state.isOn = true) : ShedRests s ((s.shedOn cause c).setChState c x) := by
    refine .of_one (c := c) (List.Sublist.refl _) ?_ fun d other => ?_
    · rw [chan_setChState_self, shedOn_chan_self]
      exact ⟨rfl, fun off => absurd (on.symm.trans off) nofun⟩
    · rw [chan_setChState_other _ _ _ _ other, shedOn_chan_other s c d cause other]
  obtain ⟨on, e | e⟩ | ⟨starting, e⟩ | ⟨-, e⟩ := shedChan_leaving_cases s c cause park
  all_goals rw [e]
  · exact letGo .cooldown on
  · exact (letGo .off on).trans (shedNext_leaving_rests _ c)
  · refine .trans (.of_one (c := c) ?_ ?_ fun d other => shedStarting_chan_other s c d cause other)
      (shedNext_leaving_rests _ c)
    · unfold State.shedStarting
      rw [removeStart_leaving]
      exact List.Sublist.refl _
    · rw [shedStarting_chan_self]
      exact ⟨rfl, fun _ => ⟨rfl, rfl⟩⟩
  · exact .of_chans rfl rfl

theorem stationShed_rests (s : State) {cause : ShedCause} (park : cause ≠ .park) :
    ShedRests s (s.stationShed cause) := by
  have shed (l : List Chan) (u : State) : ShedRests u (l.foldl (fun u c => u.shedChan cause true c) u) := by
    induction l generalizing u with
    | nil => exact .of_chans rfl rfl
    | cons c l ih => exact (shedChan_leaving_rests u park c).trans (ih _)
  obtain e | e := stationShed_cases s cause
  all_goals rw [e]
  · exact shed allChans s
  · exact (shed allChans s).trans (.of_chans (by rw [setEvent_chans]) (by rw [setEvent_chans]))

/-- The wait timer of the slot's requester starts again, and no other timer (R105). -/
theorem departNotice_rests (s : State) : ShedRests s s.departNotice := by
  have sent : ShedRests s s.abandonSend := by
    rw [abandonSend_notice_only]
    exact .of_chans rfl rfl
  have restarted (u : State) (c : Chan) : ShedRests u (u.restartWait c) := by
    unfold State.restartWait
    split
    · refine .of_one (c := c) (List.Sublist.refl _) ?_ fun d other => chan_setChState_other _ _ _ _ other
      rw [chan_setChState_self]
      exact ⟨rfl, fun _ => ⟨rfl, rfl⟩⟩
    · exact .of_chans rfl rfl
  have freed (u : State) : ShedRests u u.freeRequester := by
    unfold State.freeRequester
    split
    · split
      · exact restarted u _
      · exact .of_chans rfl rfl
    · exact .of_chans rfl rfl
  exact (sent.trans (freed _)).trans (.of_chans rfl rfl)

theorem depart_rests (s : State) {cause : ShedCause} (park : cause ≠ .park) (x : StationState) :
    ShedRests s (s.depart cause x) := by
  have claimed (u : State) : ShedRests u u.abandonClaim := by
    rw [abandonClaim_cont_only]
    exact .of_chans rfl rfl
  have frame := depart_frame s cause x
  have dropped : ShedRests s (s.stationShed cause).dropPicture :=
    (stationShed_rests s park).trans (.of_chans rfl rfl)
  have departing : ShedRests s (s.departing cause) :=
    ((dropped.trans (claimed _)).trans (departNotice_rests _)).trans (.of_chans rfl rfl)
  exact departing.trans (.of_chans (by rw [frame.chans]) (by rw [frame.chans]))

end

/-! ### SOFT_RESET (R157) -/

section
variable (s : State)

/-- The departure's silence timer (R141). -/
theorem depart_silence (cause : ShedCause) (x : StationState) : (s.depart cause x).stn.silence = s.stn.silence := by
  have same : (s.depart cause x).stn.silence = (s.departing cause).stn.silence := by cases x <;> rfl
  rw [same, departing_stn]

theorem abandonSend_holdoff : s.abandonSend.notice.holdoff = s.notice.holdoff := by
  unfold State.abandonSend
  split
  · split <;> rfl
  · rfl

/-- The values that SOFT_RESET clears beside a departure take nothing back that it has left (R157). -/
theorem Departed.softValues {s d : State} {cause : ShedCause} {x : StationState} (left : Departed s d.settle cause x)
    (away : x ≠ .active) : Departed s d.softValues.settle cause x := by
  have state : d.softValues.stn.state = x := (settle_state d).symm.trans left.state
  have request : d.softValues.settle.stn.request = d.settle.stn.request := by
    rw [settle_stn, settle_stn]
    rfl
  have inactive : d.softValues.isActive = false := by
    refine Bool.eq_false_iff.2 fun active => away ?_
    rw [← state]
    exact (isActive_iff _).1 active
  have table : d.softValues.settle.table = d.settle.table := by
    rw [settle_table, settle_table]
    rfl
  have chans : d.softValues.settle.chans = d.settle.chans := by
    rw [settle_chans, settle_chans]
    rfl
  have line : d.softValues.settle.line = d.settle.line := by
    rw [settle_line, settle_line]
    rfl
  have notice : d.softValues.settle.notice = { d.settle.notice with tx := [], send := none } := by
    rw [settle_notice, settle_notice]
    rfl
  have cont : d.softValues.settle.cont = { d.settle.cont with lossRun := 0, conflictRun := 0 } := by
    rw [settle_cont, settle_cont]
    rfl
  have chan (c : Chan) : d.softValues.settle.chan c = d.settle.chan c := by
    rw [State.chan, State.chan, chans]
  constructor
  case state => rw [settle_state, state]
  case request => rw [request]; exact left.request
  case busLoss => rw [settle_stn]; simp [State.busLossRuns, inactive]
  case views => rw [table]; exact left.views
  case sets => rw [table]; exact left.sets
  case windows => rw [table]; exact left.windows
  case latch => exact settle_latch _ (.inl inactive)
  case loads => exact fun c => by rw [chan]; exact left.loads c
  case causes => exact fun c => by rw [chan]; exact left.causes c
  case inputs => exact fun c => by rw [chan]; exact left.inputs c
  case line => rw [line]; exact left.line
  case fences => rw [chans]; exact left.fences
  case slot => rw [notice]; exact left.slot
  case presence => rw [notice]; exact left.presence
  case ring => rw [notice]; exact left.ring
  case claim => rw [cont]; exact left.claim
  case send => rw [notice]; exact fun _ => nofun

/-- The blocks beside the station's that SOFT_RESET's values leave. -/
theorem softValues_blocks (d : State) : d.softValues.chans = d.chans ∧ d.softValues.roll = d.roll :=
  ⟨rfl, rfl⟩

/-- The state that SOFT_RESET settles: the departure, and the values beside it (R157). -/
def State.resetParts : State := (s.depart .reset s.joinOrHalt).softValues

theorem resetParts_departed : Departed s s.resetParts.settle .reset s.joinOrHalt := by
  obtain ⟨-, away⟩ := joinOrHalt_away s
  refine Departed.softValues ?_ away
  exact departed_settle s .reset s.joinOrHalt (u := s.depart .reset s.joinOrHalt) nofun away rfl rfl rfl rfl
    (by rw [depart_line]) (depart_stn_state s _ _) (depart_stn_request s _ _)

/-- Transmit queue and send record are empty; holdoff and receive record stay. -/
theorem resetParts_notice : s.resetParts.settle.notice.tx = [] ∧ s.resetParts.settle.notice.send = none ∧
    s.resetParts.settle.notice.holdoff = s.notice.holdoff ∧ s.resetParts.settle.notice.recv = s.notice.recv := by
  have notice := depart_notice s .reset s.joinOrHalt nofun
  rw [settle_notice]
  exact ⟨rfl, rfl, (congrArg NoticeUnit.holdoff notice).trans (abandonSend_holdoff s),
    (congrArg NoticeUnit.recv notice).trans (abandonSend_recv s)⟩

/-- The demand queue's entries, the filters and the off-since timers stay. -/
theorem resetParts_chans : s.chans.queue.Sublist s.resetParts.settle.chans.queue ∧
    ∀ c, (s.resetParts.settle.chan c).run = (s.chan c).run ∧
      ((s.chan c).state.isOn = false → (s.resetParts.settle.chan c).offSince = (s.chan c).offSince) := by
  have rests := depart_rests s (cause := .reset) nofun s.joinOrHalt
  have chans : s.resetParts.settle.chans = (s.depart .reset s.joinOrHalt).chans := by
    rw [settle_chans, State.resetParts, (softValues_blocks _).1]
  refine ⟨by rw [chans]; exact rests.queue, fun c => ?_⟩
  obtain ⟨run, off⟩ := rests.chan c
  rw [State.chan, chans]
  exact ⟨run, fun idle => (off idle).2⟩

/-- The runs are 0, and the last claim stays. -/
theorem resetParts_cont : s.resetParts.settle.cont.lossRun = 0 ∧ s.resetParts.settle.cont.conflictRun = 0 ∧
    s.resetParts.settle.cont.last = s.cont.last := by
  obtain ⟨-, -, last⟩ := depart_runs s .reset s.joinOrHalt
  rw [settle_cont]
  exact ⟨rfl, rfl, last⟩

/-- Join count and mark are cleared; incident record and silence timer stay. -/
theorem resetParts_stn : s.resetParts.settle.stn.joinCount = 0 ∧ s.resetParts.settle.stn.countable = false ∧
    s.resetParts.settle.stn.incident = s.stn.incident ∧ s.resetParts.settle.stn.silence = s.stn.silence := by
  rw [settle_stn]
  exact ⟨rfl, rfl, depart_incident s .reset s.joinOrHalt, depart_silence s .reset s.joinOrHalt⟩

/-- Every flag is cleared; image, lock and enables stay. -/
theorem resetParts_port : s.resetParts.settle.port.events = 0 ∧
    s.resetParts.settle.port.image = s.port.image ∧ s.resetParts.settle.port.locked = s.port.locked ∧
    s.resetParts.settle.port.enables = s.port.enables := by
  have keep := depart_keep s .reset s.joinOrHalt
  rw [settle_port]
  exact ⟨rfl, keep.image, keep.locked, keep.enables⟩

/-- The Roll Tracker stays in its place. -/
theorem resetParts_roll : s.resetParts.settle.roll.state = s.roll.state ∧
    s.resetParts.settle.roll.position = s.roll.position ∧ s.resetParts.settle.roll.valid = s.roll.valid := by
  rw [settle_roll, State.resetParts, (softValues_blocks _).2, depart_roll]
  exact ⟨rfl, rfl, rfl⟩

end

/-- Settles O49: the departure with cause RESET, and block by block what SOFT_RESET clears and what it leaves. -/
theorem softResetClearsStation : Obligations.SoftResetClearsStation := by
  unfold Obligations.SoftResetClearsStation
  intro s
  refine ⟨fun live => ?_, fun config => ?_⟩
  · have verdict : s.afterLock = .accepted := if_neg (by simpa [State.inConfig] using live)
    obtain ⟨tx, send, holdoff, recv⟩ := resetParts_notice s
    obtain ⟨queue, records⟩ := resetParts_chans s
    obtain ⟨lossRun, conflictRun, last⟩ := resetParts_cont s
    obtain ⟨count, mark, incident, silence⟩ := resetParts_stn s
    obtain ⟨events, image, locked, enables⟩ := resetParts_port s
    obtain ⟨state, position, valid⟩ := resetParts_roll s
    refine ⟨s.resetParts.settle.finishWrite .accepted, plain_accepted verdict,
      (resetParts_departed s).finishWrite .accepted, ?_⟩
    rw [finishWrite_accepted]
    exact ⟨tx, send, holdoff, recv, queue, records, lossRun, conflictRun, last, count, mark,
      (settle_elapsed _).trans rfl, events, image, locked, enables, rfl, incident, silence, state, position, valid⟩
  · exact plain_refused (if_pos (by simpa [State.inConfig] using config))

end Sys2Proof.Machine

namespace Sys2Proof.Machine

/-! ### What a roll end leaves before a pending request acts (R81, R111, R127, R145) -/

/-- No STARTING or ON channel gives up its units. -/
def LoadsStay (s t : State) : Prop :=
  ∀ c, (s.chan c).state.holdsUnits = true → (t.chan c).state.holdsUnits = true

section
variable {s t u : State} {r : SendRecord}

theorem LoadsStay.trans (h : LoadsStay s t) (k : LoadsStay t u) : LoadsStay s u := fun c holds => k c (h c holds)

theorem LoadsStay.of_chans (chans : t.chans = s.chans) : LoadsStay s t := fun c holds => by
  rw [State.chan, chans]
  exact holds

theorem restartWait_loads (s : State) (d : Chan) : LoadsStay s (s.restartWait d) := by
  unfold State.restartWait
  split
  · rename_i e w waiting
    intro c holds
    have other : c ≠ d := fun same => by
      rw [same, waiting] at holds
      cases holds
    rw [chan_setChState_other _ _ _ _ other]
    exact holds
  · exact fun _ => id

theorem emptySlot_loads (s : State) : LoadsStay s s.emptySlot := by
  have freed : LoadsStay s s.freeRequester := by
    unfold State.freeRequester
    split
    · split
      · exact restartWait_loads s _
      · exact fun _ => id
    · exact fun _ => id
  exact freed.trans (.of_chans rfl)

theorem completeSource_loads (s : State) (r : SendRecord) : LoadsStay s (s.completeSource r) := by
  have sent : LoadsStay s s.yieldSent := .of_chans rfl
  unfold State.completeSource
  split
  · exact .of_chans rfl
  · exact .of_chans rfl
  · dsimp only
    split
    · split
      · exact sent.trans (emptySlot_loads _)
      · exact sent
    · exact sent

/-- Bindings of spares and turn-ons give channels units (R40, R94). -/
theorem spareCheck_loads (s : State) : LoadsStay s s.spareCheck := by
  intro c holds
  obtain ⟨same | ⟨state, after, changed⟩, -⟩ := (spareCheck_advances (within_all s)).chan c
  · rw [same]
    exact holds
  · rw [changed]
    exact after

/-- A yield sent whole: YIELD_OUT is set and the holdoff starts, whether or not the slot still holds its request (R106,
R111). -/
theorem completeSource_yieldOut (source : r.source = .yieldSlot) :
    (s.completeSource r).port.events.getLsbD 9 = true ∧
      (s.completeSource r).notice.holdoff = s.port.image.holdoffUs := by
  have sent : s.yieldSent.port.events.getLsbD 9 = true := setEvent_bit _ .yieldOut
  have emptied : s.yieldSent.emptySlot.port = s.yieldSent.port := (emptySlot_load _).port
  unfold State.completeSource
  rw [source]
  dsimp only
  split
  · split
    · change s.yieldSent.emptySlot.port.events.getLsbD 9 = true ∧ s.yieldSent.emptySlot.notice.holdoff = _
      rw [emptied, emptySlot_notice]
      exact ⟨sent, rfl⟩
    · exact ⟨sent, rfl⟩
  · exact ⟨sent, rfl⟩

/-- A roll end with nothing sent completes nothing. -/
theorem endNotices_unsent (unsent : s.notice.send = none) : s.endNotices.port = s.port ∧
    s.endNotices.chans = s.chans ∧ s.endNotices.notice.send = none := by
  have run := endConflictRun_parts s
  have idle : s.endConflictRun.endSend = s.endConflictRun := by
    unfold State.endSend
    rw [run.notice, unsent]
  unfold State.endNotices State.endRecv
  rw [idle]
  split
  · exact ⟨run.port, run.chans, by rw [run.notice, unsent]⟩
  · exact ⟨run.port, run.chans, (congrArg NoticeUnit.send run.notice).trans unsent⟩

theorem endNotices_send (s : State) : s.endNotices.notice.send = none := by
  cases sent : s.notice.send with
  | none => exact (endNotices_unsent sent).2.2
  | some r =>
    obtain ⟨-, -, x, notice⟩ := endNotices_sent sent
    rw [notice]

theorem endNotices_loads (s : State) : LoadsStay s s.endNotices := by
  cases sent : s.notice.send with
  | none =>
    obtain ⟨-, chans, -⟩ := endNotices_unsent sent
    exact .of_chans chans
  | some r =>
    obtain ⟨chans, -, -⟩ := endNotices_sent sent
    have run : LoadsStay s s.endConflictRun := .of_chans (endConflictRun_parts s).chans
    have completed : LoadsStay s (s.completed r) := by
      unfold State.completed
      split
      · exact run.trans (completeSource_loads _ r)
      · exact run
    exact completed.trans (.of_chans chans)

/-- A yield driven whole completes with its roll end (R111, R112). -/
theorem endNotices_yieldOut (sent : s.notice.send = some r) (source : r.source = .yieldSlot)
    (whole : r.driven = r.payload.length + 2) : s.endNotices.port.events.getLsbD 9 = true ∧
      s.endNotices.notice.holdoff = s.port.image.holdoffUs := by
  obtain ⟨-, port, x, notice⟩ := endNotices_sent sent
  obtain ⟨out, holdoff⟩ := completeSource_yieldOut (s := s.endConflictRun) source
  rw [completed_whole whole] at port notice
  rw [port, notice]
  exact ⟨out, holdoff.trans (by rw [(endConflictRun_parts s).port])⟩

/-- A notice end touches neither the send record nor the holdoff (R130, R132). -/
theorem takeNoticeEnd_sources (s : State) (form : NoticeForm) :
    (s.takeNoticeEnd form).notice.send = s.notice.send ∧ (s.takeNoticeEnd form).notice.holdoff = s.notice.holdoff := by
  have disposed (u : State) (n : StoredNotice) :
      (u.dispose n).notice.send = u.notice.send ∧ (u.dispose n).notice.holdoff = u.notice.holdoff := by
    unfold State.dispose
    split
    · exact ⟨rfl, rfl⟩
    · have handed := (handOff_hands (u.ringAppend n) n).notice
      rw [handed, ringAppend_notice]
      exact ⟨rfl, rfl⟩
  unfold State.takeNoticeEnd
  split
  · split
    · exact disposed _ _
    · exact ⟨rfl, rfl⟩
  · exact ⟨rfl, rfl⟩

end

/-! ### The request acts at the roll end (R143 to R145) -/

/-- The shed cause of a request, and the state it leads to (R144). -/
def Request.cause : Request → ShedCause
  | .leave => .leave
  | .quiet => .quiet

def Request.target : Request → StationState
  | .leave => .left
  | .quiet => .quiet

/-- What the roll end's own blocks may make of a state before the request acts: flags are set and loads change, but what
is being sent stays. -/
structure MeetsRequest (s t : State) : Prop extends MarkFrame s t where
  send : t.notice.send = s.notice.send
  holdoff : t.notice.holdoff = s.notice.holdoff

section
variable {s t u : State} {q : Request} {cause : RollEndCause} {order : RollEndOrder} {valid : Bool}

theorem MeetsRequest.refl (s : State) : MeetsRequest s s := ⟨.refl s, rfl, rfl⟩

theorem MeetsRequest.trans (h : MeetsRequest s t) (k : MeetsRequest t u) : MeetsRequest s u :=
  ⟨h.toMarkFrame.trans k.toMarkFrame, k.send.trans h.send, k.holdoff.trans h.holdoff⟩

theorem spareCheck_meets (s : State) : MeetsRequest s s.spareCheck := by
  have notice := (spareCheck_hands s).notice
  exact ⟨(spareCheck_load s).marks, by rw [notice], by rw [notice]⟩

theorem noticeAtEnd_meets (s : State) (cause : RollEndCause) : MeetsRequest s (s.noticeAtEnd cause) := by
  have ended (form : NoticeForm) := takeNoticeEnd_sources s form
  refine ⟨noticeAtEnd_marks s cause, ?_, ?_⟩
  · cases cause with
    | check => exact (ended .complete).1
    | stuck => exact (ended .stuck).1
    | flag => rfl
    | trailing => rfl
  · cases cause with
    | check => exact (ended .complete).2
    | stuck => exact (ended .stuck).2
    | flag => rfl
    | trailing => rfl

theorem actRequest_eq (s : State) (q : Request) : s.actRequest q = s.depart q.cause q.target := by cases q <;> rfl

/-- The Station Controller's part of a roll end with a request pending (R145, R154). -/
def State.acted (s : State) (q : Request) (valid : Bool) : State :=
  ((s.restartBusLoss valid).depart q.cause q.target).clearMark

theorem restartBusLoss_stn_only (s : State) (valid : Bool) : s.restartBusLoss valid =
    s.setStn { s.stn with busLoss := (s.restartBusLoss valid).stn.busLoss } := by
  unfold State.restartBusLoss
  split <;> rfl

theorem endStation_acts (active : s.stn.state = .active) (asked : s.stn.request = some q) :
    s.endStation valid = s.acted q valid := by
  have pending : (s.restartBusLoss valid).stn.request = some q := by
    rw [restartBusLoss_stn_only]
    exact asked
  unfold State.endStation State.endActive
  rw [active]
  dsimp only
  rw [pending]
  dsimp only
  rw [actRequest_eq]
  rfl

/-- The request ends the station's ACTIVE state. -/
theorem target_away (q : Request) : q.target ≠ .active := by cases q <;> nofun

theorem cause_not_park (q : Request) : q.cause ≠ .park := by cases q <;> nofun

theorem cause_silent (q : Request) : q.cause.setsShed = false := by cases q <;> rfl

theorem acted_state (s : State) (q : Request) (valid : Bool) : (s.acted q valid).stn.state = q.target :=
  depart_stn_state _ _ _

/-- In each order the request acts once, on a state in which nothing sent is lost (R112, R145). -/
theorem endBlocks_acts (active : s.stn.state = .active) (asked : s.stn.request = some q) :
    ∃ b, MeetsRequest s b ∧ (order ≠ .noticeBetween → b.port = s.port ∧ LoadsStay s b) ∧
      s.endBlocks cause valid order = b.acted q valid := by
  have acts {b : State} (meets : MeetsRequest s b) : b.endStation valid = b.acted q valid :=
    endStation_acts (by rw [meets.stn]; exact active) (by rw [meets.stn]; exact asked)
  have check := spareCheck_meets s
  cases order with
  | checkFirst => exact ⟨_, check, fun _ => ⟨(spareCheck_load s).port, spareCheck_loads s⟩, acts check⟩
  | requestFirst =>
    refine ⟨s, .refl s, fun _ => ⟨rfl, fun _ => id⟩, ?_⟩
    have idle : (s.acted q valid).isActive ≠ true := fun h =>
      target_away q ((acted_state s q valid).symm.trans ((isActive_iff _).1 h))
    change (s.endStation valid).spareCheck = _
    rw [acts (.refl s)]
    exact if_neg idle
  | noticeBetween =>
    have meets := check.trans (noticeAtEnd_meets s.spareCheck cause)
    exact ⟨_, meets, fun h => absurd rfl h, acts meets⟩

/-- What the acted request leaves, settled. -/
theorem acted_departed (s : State) (q : Request) (valid : Bool) :
    Departed s (s.acted q valid).settle q.cause q.target := by
  have left := departed_settle (s.restartBusLoss valid) q.cause q.target (u := s.acted q valid) (cause_not_park q)
    (target_away q) rfl rfl rfl rfl (congrArg LineIf.drive (depart_line _ _ _)) (acted_state s q valid)
    (depart_stn_request _ _ _)
  have stn := restartBusLoss_stn_only s valid
  exact left.congr q.cause q.target (by rw [stn]; rfl) (by rw [stn]; rfl) (by rw [stn]; rfl) (by rw [stn]; rfl)
    (by rw [stn]; rfl)

/-- A request's departure leaves incident record, events and holdoff, and no send record where none was. -/
theorem acted_keeps (s : State) (q : Request) (valid : Bool) :
    (s.acted q valid).settle.stn.incident = s.stn.incident ∧ (s.acted q valid).settle.port.events = s.port.events ∧
      (s.acted q valid).settle.notice.holdoff = s.notice.holdoff ∧
      (s.notice.send = none → (s.acted q valid).settle.notice.send = none) := by
  have timed := restartBusLoss_stn_only s valid
  have notice : (s.acted q valid).notice = _ :=
    depart_notice (s.restartBusLoss valid) q.cause q.target (cause_not_park q)
  refine ⟨?_, ?_, ?_, fun unsent => ?_⟩
  · rw [settle_stn]
    refine (depart_incident (s.restartBusLoss valid) q.cause q.target).trans ?_
    rw [timed]
    rfl
  · rw [settle_port]
    refine (depart_events (s.restartBusLoss valid) q.cause q.target).trans ?_
    rw [shedFlag_silent _ _ (cause_silent q), timed]
    rfl
  · rw [settle_notice, notice]
    refine (abandonSend_holdoff _).trans ?_
    rw [timed]
    rfl
  · have none : (s.restartBusLoss valid).notice.send = none := by
      rw [timed]
      exact unsent
    rw [settle_notice, notice]
    unfold State.abandonSend
    rw [none]
    exact none

end

/-- Settles O29: in each order the notices' completion comes first and the request acts once, by its departure. -/
theorem rollEndActsRequest : Obligations.RollEndActsRequest := by
  unfold Obligations.RollEndActsRequest
  intro s cause order q active due asked
  have ended := rollEnded_stn s cause
  obtain ⟨b, meets, alone, acts⟩ := endBlocks_acts (s := s.rollEnded cause) (q := q) (cause := cause) (order := order)
    (valid := s.endValid cause) (by rw [ended]; exact active) (by rw [ended]; exact asked)
  have left := acted_departed b q (s.endValid cause)
  obtain ⟨incident, events, holdoff, unsent⟩ := acted_keeps b q (s.endValid cause)
  have taken : s.takeRollEnd cause order = b.acted q (s.endValid cause) :=
    (takeRollEnd_eq s order (endOccurs_of_due due)).trans acts
  refine ⟨(b.acted q (s.endValid cause)).settle, ?_, ?_, left.request, ?_, left.latch, left.views, left.loads,
    left.fences, left.slot, left.presence, unsent ?_, fun r sent source whole => ?_,
    fun order => ⟨fun c holds => ?_, fun none => ?_⟩⟩
  · rw [← taken]
    rfl
  · rw [left.state]
    cases q <;> rfl
  · rw [incident, meets.stn, ended]
  · exact meets.send.trans (endNotices_send s)
  · obtain ⟨out, started⟩ := endNotices_yieldOut sent source whole
    refine ⟨?_, holdoff.trans (meets.holdoff.trans started)⟩
    rw [events]
    exact meets.events 9 out
  · obtain ⟨-, loads⟩ := alone order
    have still : (b.chan c).state.holdsUnits = true := loads c (endNotices_loads s c holds)
    rw [left.causes c, if_pos still]
    cases q <;> rfl
  · obtain ⟨port, -⟩ := alone order
    rw [events, port]
    exact congrArg LocalPort.events (endNotices_unsent none).1

end Sys2Proof.Machine

namespace Sys2Proof.Machine

/-! ### The command list (R164, R174) -/

section
variable {code : Byte} {k : Command} {bytes : List Byte} {n : Nat}

/-- Every code that names a command stands in the list. -/
theorem code_listed (named : Command.ofCode code = some k) : ∃ e ∈ commandList, e.1 = code := by
  have listed (place : code.toNat ∈ commandList.map fun e => e.1.toNat) : ∃ e ∈ commandList, e.1 = code := by
    obtain ⟨e, mem, same⟩ := List.mem_map.1 place
    exact ⟨e, mem, BitVec.eq_of_toNat_eq same⟩
  refine listed ?_
  unfold Command.ofCode at named
  split at named
  case h_24 => cases named
  all_goals
    rename_i place
    rw [place]
    decide

/-- The operand count by the list, SEND's settled by its second byte. -/
theorem operandCount_listed : ∀ e ∈ commandList, ∀ bytes,
    e.2.2.1 + (if e.2.1 = .send then sendLength bytes else 0) = e.2.1.operandCount bytes := by
  simp [commandList, Command.operandCount]

theorem operandsOf_count (h : OperandsOf k bytes n) : n = k.operandCount bytes := by
  obtain ⟨e, mem, rfl, count⟩ := h
  rw [← operandCount_listed e mem bytes, count]
  rfl

theorem replyCode_eq (r : Reply) : r.code = byteOf (replyNumber r) := by
  cases r with
  | lockFailed i => exact (BitVec.ofNat_add 0x80 i).symm
  | _ => rfl

end

/-! ### One CLK period of the port's pins (R164) -/

section
variable {s : State} {p : Pins} {rest : List Pins}

/-- With RSTN low a period is RESET (R139, R173). -/
theorem step_reset (empty : s.pending = []) (inputs : s.inputs = p :: rest) (low : p.rstn = false) :
    step s = exec .reset { s with pins := p, inputs := rest } := by
  have rstn : ((s.setInputs rest).setPins p).pins.rstn = false := low
  rw [step_empty empty, exec_eq_fire]
  unfold State.tick
  rw [drawPins_given inputs]
  dsimp only
  rw [rstn]
  rfl

/-- With the line still and no microsecond a period takes the port's event alone. -/
theorem step_port (empty : s.pending = []) (inputs : s.inputs = p :: rest) (rstn : p.rstn = true)
    (sub : s.clock.sub + 1 ≠ 4) (still : LineStill s p) :
    step s = .next ((afterPeriod s p rest).takePort ((drawn s p rest).portEvent s.pins)) := by
  have clock : ((drawn s p rest).advanceBit .quiet).clock = s.clock := by
    unfold State.advanceBit
    dsimp only
    split <;> rfl
  have period : ((drawn s p rest).advanceBit .quiet).timeBase = ([], afterPeriod s p rest) := by
    have counted := congrArg (fun u => u.setClock { s.clock with sub := s.clock.sub + 1 })
      (advanceBit_still (rest := rest) still)
    unfold State.timeBase
    rw [clock]
    exact (if_neg sub).trans (congrArg (Prod.mk []) counted)
  have taken (u : State) (e : PortEvent) : u.takeEvents (portRows e) = u.takePort e := by
    unfold portRows
    split
    · rename_i none
      rw [none]
      rfl
    · rfl
  have high : (drawn s p rest).pins.rstn = true := rstn
  rw [step_empty empty]
  unfold State.tick
  rw [drawPins_given inputs]
  change Host.Outcome.next (if (drawn s p rest).pins.rstn = true then (drawn s p rest).clock1 s.pins else _) = _
  rw [if_pos high]
  unfold State.clock1
  rw [show (drawn s p rest).lineEvent s.pins.shr = .quiet from lineEvent_still still]
  dsimp only
  rw [period]
  simp only [State.lineRows, List.nil_append, List.map_nil, List.append_nil]
  rw [taken]

end

/-! ### A bit on SDI (R164, R165) -/

section
variable {s : State} {b : Byte} {k : Command} {n : Nat}

/-- The bits received of the byte in progress, with SDI's. -/
def State.shifted (s : State) : Byte := (s.port.rx.shift <<< 1) ||| (if s.pins.sdi then 1 else 0)

/-- The receive state is written. -/
def State.setRx (s : State) (x : SpiRx) : State := s.setPort { s.port with rx := x }

theorem sckRise_eq (s : State) : s.sckRise =
    if s.port.rx.bits + 1 = 8
    then (s.setRx { s.port.rx with shift := s.shifted, bits := s.port.rx.bits + 1 }).byteIn s.shifted
    else s.setRx { s.port.rx with shift := s.shifted, bits := s.port.rx.bits + 1 } := by
  have bit : (BitVec.ofBool s.pins.sdi).setWidth 8 = if s.pins.sdi then (1 : Byte) else 0 := by
    cases s.pins.sdi <;> rfl
  unfold State.sckRise State.shifted
  rw [bit]
  rfl

/-- The first seven bits of a byte are shifted in. -/
theorem sckRise_within (bits : s.port.rx.bits < 7) :
    s.sckRise = s.setRx { s.port.rx with shift := s.shifted, bits := s.port.rx.bits + 1 } := by
  rw [sckRise_eq, if_neg (by omega)]

/-- The eighth bit ends the byte. -/
theorem sckRise_last (bits : s.port.rx.bits = 7) :
    s.sckRise = (s.setRx { s.port.rx with shift := s.shifted, bits := 8 }).byteIn s.shifted := by
  rw [sckRise_eq, bits, if_pos rfl]

theorem byteIn_command (stage : s.port.rx.stage = .command) : s.byteIn b = s.commandByte b := by
  unfold State.byteIn
  rw [stage]

theorem byteIn_operands (stage : s.port.rx.stage = .operands) : s.byteIn b = s.operandByte b := by
  unfold State.byteIn
  rw [stage]

/-- A byte into DATA is ignored. -/
theorem byteIn_data (stage : s.port.rx.stage = .data) : s.byteIn b = s.setRx { s.port.rx with bits := 0 } := by
  unfold State.byteIn
  rw [stage]
  rfl

/-- A byte into DRAIN is counted. -/
theorem byteIn_drain (stage : s.port.rx.stage = .drain) :
    s.byteIn b = s.setRx { s.port.rx with got := s.port.rx.got ++ [b], bits := 0 } := by
  unfold State.byteIn
  rw [stage]
  rfl

/-- A command byte that names no command: what follows is counted in DRAIN. -/
theorem byteIn_unknown (stage : s.port.rx.stage = .command) (unknown : Command.ofCode b = none) : s.byteIn b =
    s.setRx { s.port.rx with code := b, got := [], bits := 0, stage := .drain } := by
  rw [byteIn_command stage]
  unfold State.commandByte
  rw [unknown]
  rfl

/-- A command byte goes on to OPERANDS, or to DRAIN where there are none; a read without operands acts here. -/
theorem byteIn_named (stage : s.port.rx.stage = .command) (named : Command.ofCode b = some k)
    (count : OperandsOf k [] n) :
    let t := s.setRx { s.port.rx with code := b, got := [], bits := 0, stage := if n = 0 then .drain else .operands }
    (.next (s.byteIn b) : Out) = if n = 0 ∧ k.isRead = true then exec (k.toInstr (whole [])) t else .next t := by
  have count := operandsOf_count count
  dsimp only
  rw [byteIn_command stage, exec_eq_fire, ← apply_ite Host.Outcome.next]
  unfold State.commandByte
  rw [named]
  dsimp only
  rw [← count]
  by_cases none : n = 0
  · simp only [none, if_true, true_and]
    rfl
  · simp only [none, if_false, false_and]
    rfl

/-- An operand byte is collected; the last one ends OPERANDS, and a read acts with it. -/
theorem byteIn_operand (stage : s.port.rx.stage = .operands) (named : Command.ofCode s.port.rx.code = some k)
    (count : OperandsOf k (s.port.rx.got ++ [b]) n) :
    let done : Bool := decide (s.port.rx.got.length + 1 = n)
    let t := s.setRx { s.port.rx with
      got := s.port.rx.got ++ [b], bits := 0, stage := if done then .drain else .operands }
    (.next (s.byteIn b) : Out) =
      if done = true ∧ k.isRead = true then exec (k.toInstr (whole (s.port.rx.got ++ [b]))) t else .next t := by
  have count := operandsOf_count count
  have length : (s.port.rx.got ++ [b]).length = s.port.rx.got.length + 1 := List.length_append
  dsimp only
  rw [byteIn_operands stage, exec_eq_fire, ← apply_ite Host.Outcome.next]
  unfold State.operandByte
  rw [named]
  dsimp only
  rw [← count, length]
  by_cases last : s.port.rx.got.length + 1 = n
  · simp only [last, if_true, decide_true, true_and]
    rfl
  · simp only [last, if_false, decide_false, Bool.false_eq_true, false_and]
    rw [← stage]
    rfl

end

/-! ### A bit on SDO (R164) -/

theorem load_eq (x : SpiRx) : (if x.bits = 0 then x.load else x) =
    { x with outByte := nextOut x, out := if x.bits = 0 ∧ x.stage = .data then x.out.tail else x.out } := by
  obtain ⟨stage, status, replyCap, code, got, bits, shift, out, outByte, sdo⟩ := x
  unfold nextOut SpiRx.load
  dsimp only
  by_cases first : bits = 0
  · rw [← replyCode_eq]
    subst first
    cases stage <;> rfl
  · simp [first]

/-- The byte on its way out and the data behind it, at a falling edge. -/
theorem sckFall_eq (s : State) (bits : s.port.rx.bits ≤ 7) : s.sckFall =
    s.setRx { s.port.rx with
      outByte := nextOut s.port.rx
      out := if s.port.rx.bits = 0 ∧ s.port.rx.stage = .data then s.port.rx.out.tail else s.port.rx.out
      sdo := some ((nextOut s.port.rx).getLsbD (7 - s.port.rx.bits)) } := by
  have msb (b : Byte) : b.getMsbD s.port.rx.bits = b.getLsbD (7 - s.port.rx.bits) := by
    rw [BitVec.getMsbD_eq_getLsbD, decide_eq_true (by omega), Bool.true_and]
  unfold State.sckFall
  rw [load_eq, ← msb]
  rfl

/-! ### The port's event (R164, R165) -/

section
variable {s : State} {before : Pins}

theorem portEvent_select (high : before.csn = true) (low : s.pins.csn = false) :
    s.portEvent before = .select := if_pos ⟨high, low⟩

theorem portEvent_deselect (low : before.csn = false) (high : s.pins.csn = true) :
    s.portEvent before = .deselect := by
  simp [State.portEvent, low, high]

theorem portEvent_unselected (before_high : before.csn = true) (high : s.pins.csn = true) :
    s.portEvent before = .none := by
  simp [State.portEvent, before_high, high]

/-- While the port is selected its event is SCK's edge. -/
theorem portEvent_selected (before_low : before.csn = false) (low : s.pins.csn = false)
    (selected : s.port.rx.stage ≠ .idle) : s.portEvent before =
      if before.sck = false ∧ s.pins.sck = true then .rise
      else if before.sck = true ∧ s.pins.sck = false then .fall else .none := by
  simp [State.portEvent, before_low, low, selected]

end

/-- Settles O51: the command list; the pins' edges; and, byte by byte, the bits in and out. -/
theorem spiShiftsBits : Obligations.SpiShiftsBits := by
  unfold Obligations.SpiShiftsBits
  refine ⟨by decide, fun code unlisted => ?_, fun s p rest empty inputs => ⟨fun low => step_reset empty inputs low,
    fun rstn sub still => ?_⟩, ?_⟩
  · cases named : Command.ofCode code with
    | none => rfl
    | some k =>
      obtain ⟨e, mem, same⟩ := code_listed named
      exact absurd same (unlisted e mem)
  · rw [step_port empty inputs rstn sub still]
    refine ⟨fun high low => ?_, fun low high => ?_, fun before high => ?_⟩
    · rw [portEvent_select high low, exec_eq_fire]
      rfl
    · rw [portEvent_deselect low high, exec_eq_fire]
      rfl
    · rw [portEvent_unselected before high]
      rfl
  · intro s p rest empty inputs rstn low before sub still selected x put b
    have stepped := step_port empty inputs rstn sub still
    rw [portEvent_selected (s := drawn s p rest) before low selected] at stepped
    refine ⟨fun steady => ?_, fun sckLow sckHigh => ?_, fun sckHigh sckLow bits => ?_⟩
    · rw [stepped, show (drawn s p rest).pins.sck = s.pins.sck from steady]
      cases s.pins.sck <;> rfl
    · rw [if_pos ⟨sckLow, sckHigh⟩] at stepped
      change step s = .next (afterPeriod s p rest).sckRise at stepped
      have last (bits : x.bits = 7) : step s = .next ((put { x with shift := b, bits := 8 }).byteIn b) :=
        stepped.trans (congrArg _ (sckRise_last (s := afterPeriod s p rest) bits))
      refine ⟨fun bits => ?_, fun bits stage => ⟨fun unknown => ?_, fun k n named count => ?_⟩,
        fun bits stage k n named count => ?_, fun bits stage => ?_, fun bits stage => ?_⟩
      · exact stepped.trans (congrArg _ (sckRise_within (s := afterPeriod s p rest) bits))
      · exact (last bits).trans (congrArg Host.Outcome.next (byteIn_unknown stage unknown))
      · exact (last bits).trans (byteIn_named stage named count)
      · exact (last bits).trans (byteIn_operand stage named count)
      · exact (last bits).trans (congrArg Host.Outcome.next (byteIn_data stage))
      · exact (last bits).trans (congrArg Host.Outcome.next (byteIn_drain stage))
    · rw [if_neg fun h => Bool.false_ne_true (h.1.symm.trans sckHigh), if_pos ⟨sckHigh, sckLow⟩] at stepped
      exact stepped.trans (congrArg _ (sckFall_eq (afterPeriod s p rest) bits))

end Sys2Proof.Machine

namespace Sys2Proof.Machine

/-! ### A command's answer at the port (R164 to R166) -/

section
variable {s : State} {x : Operands} {n : Nat} {v r : Reply} {data bytes : List Byte} {e : State → State}

/-- A write command of the right count is refused with its verdict, and nothing else happens. -/
theorem write_refused (count : x.exactly n = true) (verdict : v = r) (refused : r ≠ .accepted) :
    ∃ t, (.next (s.writeCommand x n v e) : Out) = .next t ∧ RepliedOnly s t r := by
  subst verdict
  exact ⟨_, congrArg _ (writeCommand_refused s x n v e count refused), finishWrite_repliedOnly s v⟩

/-- An accepted write command that writes the Local Port alone leaves that port with its reply stored. -/
theorem write_port (count : x.exactly n = true) (verdict : v = .accepted) {p : LocalPort} (effect : e s = s.setPort p) :
    (.next (s.writeCommand x n v e) : Out) = .next ((s.setPort p).finishWrite .accepted) :=
  congrArg _ ((writeCommand_taken count verdict).trans (congrArg (State.finishWrite · .accepted) effect))

/-- A read with its operands stages its bytes, and changes what its effect changes. -/
theorem read_accepted (count : n ≤ x.bytes.length) (verdict : v = .accepted) (record : data = bytes) :
    ∃ t, (.next (s.readCommand x n v data e) : Out) = .next t ∧ ReadOnly (e s) t (0x00 :: bytes) := by
  subst verdict record
  exact ⟨_, congrArg _ (readCommand_accepted s x n e data count), rfl, rfl, rfl⟩

/-- A read refused with STATE or RANGE stages its reply alone and sets PORT_ERROR. -/
theorem read_refused (count : n ≤ x.bytes.length) (verdict : v = r) (refused : r = .state ∨ r = .range) :
    ∃ t, (.next (s.readCommand x n v data e) : Out) = .next t ∧ ReadRefused s t r.code := by
  subst verdict
  obtain rfl | rfl := refused
  all_goals exact ⟨_, congrArg _ (readCommand_refused s x n _ e data count nofun), rfl, rfl, rfl⟩

/-- EMPTY is staged alone too, and sets no event. -/
theorem read_empty (count : n ≤ x.bytes.length) (verdict : v = .empty) :
    ∃ t, (.next (s.readCommand x n v data e) : Out) = .next t ∧ ReadOnly s t [0x05] := by
  subst verdict
  exact ⟨_, congrArg _ (readCommand_refused s x n _ e data count nofun), rfl, rfl, rfl⟩

end

end Sys2Proof.Machine

namespace Sys2Proof.Machine

/-! ### The image by index (R160) -/

/-- The place's index in the table of R160. -/
def Place.index : Place → Nat
  | .item i => i.val
  | .field c f => 0x20 + 9 * c.val + f.val

theorem placeOf_index (p : Place) : placeOf p.index = some p := by
  cases p with
  | item i => exact dif_pos i.isLt
  | field c f =>
    have item : ¬ 0x20 + 9 * c.val + f.val < 21 := by omega
    have field : 0x20 ≤ 0x20 + 9 * c.val + f.val ∧ 0x20 + 9 * c.val + f.val < 0x68 := by omega
    have channel : (0x20 + 9 * c.val + f.val - 0x20) / 9 = c.val := by omega
    have rest : (0x20 + 9 * c.val + f.val - 0x20) % 9 = f.val := by omega
    exact ((dif_neg item).trans (dif_pos field)).trans
      (congrArg some (congrArg₂ Place.field (Fin.ext channel) (Fin.ext rest)))

theorem placeOf_eq_some {index : Nat} {p : Place} : placeOf index = some p ↔ p.index = index := by
  refine ⟨fun placed => ?_, fun same => same ▸ placeOf_index p⟩
  unfold placeOf at placed
  split at placed
  · cases placed
    rfl
  · split at placed
    · cases placed
      dsimp only [Place.index]
      omega
    · cases placed

theorem holds_iff (m : Image) (index : Nat) (b : Byte) :
    Holds m index b ↔ ∃ p, placeOf index = some p ∧ m.read p = b := by
  constructor
  · rintro (⟨i, rfl, rfl⟩ | ⟨c, f, rfl, rfl⟩)
    · exact ⟨.item i, placeOf_index (.item i), rfl⟩
    · exact ⟨.field c f, placeOf_index (.field c f), rfl⟩
  · rintro ⟨p, placed, rfl⟩
    obtain rfl := placeOf_eq_some.1 placed
    cases p with
    | item i => exact .inl ⟨i, rfl, rfl⟩
    | field c f => exact .inr ⟨c, f, rfl, rfl⟩

theorem placeOf_of_holds_none {m : Image} {index : Nat} (free : ∀ b, ¬ Holds m index b) : placeOf index = none := by
  by_contra placed
  obtain ⟨p, placed⟩ := Option.ne_none_iff_exists'.1 placed
  exact free _ ((holds_iff m index _).2 ⟨p, placed, rfl⟩)

/-- A byte written is read back at its place, and no other place changes. -/
theorem read_write (m : Image) (p q : Place) (b : Byte) :
    (m.write p b).read q = if q = p then b else m.read q := by
  cases p with
  | item i =>
    cases q with
    | item j => simp [Image.read, Image.write, Vector.getElem_set, Fin.ext_iff, eq_comm]
    | field c f => rfl
  | field c f =>
    cases q with
    | item j => rfl
    | field d g =>
      by_cases same : d = c
      · subst same
        simp [Image.read, Image.write, Vector.getElem_set, Fin.ext_iff, eq_comm]
      · simp [Image.read, Image.write, Fin.val_inj, same, Ne.symm same]

theorem holds_write_same (m : Image) (p : Place) (b : Byte) : Holds (m.write p b) p.index b :=
  (holds_iff _ _ _).2 ⟨p, placeOf_index p, by rw [read_write, if_pos rfl]⟩

theorem holds_write_other (m : Image) {p : Place} (b : Byte) {j : Nat} (other : j ≠ p.index) (a : Byte) :
    Holds (m.write p b) j a ↔ Holds m j a := by
  rw [holds_iff, holds_iff]
  refine exists_congr fun q => and_congr_right fun placed => ?_
  have apart : q ≠ p := fun same => other (same ▸ (placeOf_eq_some.1 placed).symm)
  rw [read_write, if_neg apart]

/-! ### The write ranges (R160, R161) -/

theorem inWriteRange_iff (p : Place) (b : Byte) :
    inWriteRange p b = true ↔ (writeRange p).1 ≤ b.toNat ∧ b.toNat ≤ (writeRange p).2 := by
  simp [inWriteRange]

theorem writable_item (i : Fin 21) {v : Nat} (byte : v ≤ 255) : Writable (Place.item i).index v ↔
    (writeRange (.item i)).1 ≤ v ∧ v ≤ (writeRange (.item i)).2 := by
  unfold Writable Place.index
  fin_cases i <;> simp [writeRange] <;> omega

theorem writable_field (c : Chan) (f : Fin 9) {v : Nat} (byte : v ≤ 255) : Writable (Place.field c f).index v ↔
    (writeRange (.field c f)).1 ≤ v ∧ v ≤ (writeRange (.field c f)).2 := by
  have number := c.isLt
  unfold Writable Place.index
  refine ⟨fun writable => ?_, fun range => ?_⟩
  · simp only [List.mem_cons, List.not_mem_nil, or_false] at writable
    obtain item | item | item | item | item | item | ⟨n, -, field⟩ := writable
    case inr.inr.inr.inr.inr.inr => fin_cases f <;> simp [writeRange] at field ⊢ <;> omega
    all_goals omega
  · refine .inr (.inr (.inr (.inr (.inr (.inr ⟨c.val, number, ?_⟩)))))
    fin_cases f <;> simp [writeRange] at range ⊢ <;> omega

/-- No index but those of the table is writable. -/
theorem writable_named {index v : Nat} (writable : Writable index v) : ∃ p, placeOf index = some p := by
  have named : index < 21 ∨ 0x20 ≤ index ∧ index < 0x68 := by
    unfold Writable at writable
    simp only [List.mem_cons, List.not_mem_nil, or_false] at writable
    obtain item | item | item | item | item | item | ⟨n, below, field⟩ := writable
    all_goals omega
  unfold placeOf
  obtain item | field := named
  · exact ⟨_, dif_pos item⟩
  · exact ⟨_, (dif_neg (by omega)).trans (dif_pos field)⟩

/-- The write range of the statement is the model's. -/
theorem writable_iff (index value : Byte) : Writable index.toNat value.toNat ↔
    ∃ p, placeOf index.toNat = some p ∧ inWriteRange p value = true := by
  have range (p : Place) : Writable p.index value.toNat ↔ inWriteRange p value = true := by
    have byte : value.toNat ≤ 255 := Nat.le_of_lt_succ value.isLt
    rw [inWriteRange_iff]
    cases p with
    | item i => exact writable_item i byte
    | field c f => exact writable_field c f byte
  constructor
  · intro writable
    obtain ⟨p, placed⟩ := writable_named writable
    exact ⟨p, placed, (range p).1 ((placeOf_eq_some.1 placed).symm ▸ writable)⟩
  · rintro ⟨p, placed, within⟩
    exact placeOf_eq_some.1 placed ▸ (range p).2 within

section
variable {s : State} {index value : Byte}

theorem inConfig_iff : s.inConfig = true ↔ s.stn.state = .config := beq_iff_eq

theorem cfgWriteVerdict_outside (out : s.stn.state ≠ .config) : s.cfgWriteVerdict index value = .state := by
  simp [State.cfgWriteVerdict, State.inConfig, out]

theorem cfgWriteVerdict_refused (config : s.stn.state = .config) (not : ¬ Writable index.toNat value.toNat) :
    s.cfgWriteVerdict index value = .range := by
  rw [writable_iff] at not
  rw [State.cfgWriteVerdict, if_pos (inConfig_iff.2 config)]
  split
  · rename_i p placed
    exact if_neg fun within => not ⟨p, placed, within⟩
  · rfl

theorem cfgWriteVerdict_accepted (config : s.stn.state = .config) {p : Place} (placed : placeOf index.toNat = some p)
    (within : inWriteRange p value = true) : s.cfgWriteVerdict index value = .accepted := by
  rw [State.cfgWriteVerdict, if_pos (inConfig_iff.2 config), placed]
  exact if_pos within

theorem storeItem_placed {p : Place} (placed : placeOf index.toNat = some p) :
    s.storeItem index value = s.setPort { s.port with image := s.port.image.write p value } := by
  rw [State.storeItem, placed]

end

end Sys2Proof.Machine

namespace Sys2Proof.Machine

/-! ### The rows that write no item of the image (R160, R161) -/

section
variable {s u : State}

theorem TimerKept.settled_image (h : TimerKept s u) : u.settle.port.image = s.port.image :=
  (settle_keep u).image.trans h.image

theorem LoadFrame.settled_image (h : LoadFrame s u) : u.settle.port.image = s.port.image := h.timer.settled_image

theorem writeCommand_image (x : Operands) (n : Nat) (v : Reply) (e : State → State)
    (effect : (e s).port.image = s.port.image) : (s.writeCommand x n v e).port.image = s.port.image := by
  unfold State.writeCommand
  split
  · split
    · exact (finishWrite_same _ _).image.trans effect
    · exact (finishWrite_same s _).image
  · exact (finishWrite_same s _).image

/-- A command that takes the channels of its mask one after the other. -/
theorem maskCommand_image (x : Operands) {f : State → Chan → State} (load : ∀ u c, LoadFrame u (f u c)) :
    (s.writeCommand x 1 s.afterLock fun u => ((chansIn (x.byte 0)).foldl f u).settle).port.image = s.port.image :=
  writeCommand_image x 1 _ (fun u => ((chansIn (x.byte 0)).foldl f u).settle) (foldl_load f load _ s).settled_image

theorem softValues_timer (s : State) : TimerKept s s.softValues := ⟨rfl, rfl⟩

/-- Every command of the local port but CFG_WRITE. -/
theorem runCommand_image (k : Command) (x : Operands) (other : k ≠ .cfgWrite) :
    (s.runCommand k x).port.image = s.port.image := by
  cases k with
  | cfgWrite => exact absurd rfl other
  | lock => exact writeCommand_image x 0 s.lockVerdict State.lockBlocks rfl
  | demandSet => exact maskCommand_image x (f := State.writeSoft true) fun u c => writeInputs_load u c _
  | demandClear => exact maskCommand_image x (f := State.writeSoft false) fun u c => writeInputs_load u c _
  | park => exact maskCommand_image x parkChan_load
  | unpark => exact maskCommand_image x unparkChan_load
  | send =>
    exact writeCommand_image x _ _ (fun u => (u.appendTx (x.byte 0) (x.bytes.drop 2)).settle)
      (setNotice_load s _).settled_image
  | yield =>
    exact writeCommand_image x _ _ (fun u => (u.setSlot (some (portRequest (x.byte 0) (x.byte 1) (x.byte 2)))).settle)
      (setSlot_load s _).settled_image
  | clearEvents => exact writeCommand_image x 2 .accepted (fun u => u.setPort { u.port with events := _ }) rfl
  | setEnables => exact writeCommand_image x 2 .accepted (fun u => u.setPort { u.port with enables := _ }) rfl
  | join =>
    exact writeCommand_image x 0 _ (fun u => (u.enterState .joining).settle) (enterState_timer s _).settled_image
  | leave => exact writeCommand_image x 0 _ (fun u => u.leaveEffect.settle) (leaveEffect_timer s).settled_image
  | quiet => exact writeCommand_image x 0 _ (fun u => u.quietEffect.settle) (quietEffect_timer s).settled_image
  | clearFault =>
    exact writeCommand_image x 0 _ (fun u => (u.enterState u.joinOrHalt).settle) (enterState_timer s _).settled_image
  | softReset =>
    exact writeCommand_image x 0 _ State.softReset ((depart_timer s _ _).trans (softValues_timer _)).settled_image
  | cfgRead => exact (takeCfgRead_same s x).image
  | pop => exact (takePop_same s x).image
  | readUnit => exact (takeReadUnit_same s x).image
  | readChannel => exact (takeReadChannel_same s x).image
  | readQueue => exact (takeReadQueue_same s x).image
  | readStation => exact (takeReadStation_same s x).image
  | readIncident => exact (takeReadIncident_same s x).image
  | readEvents => exact (takeReadEvents_same s x).image

theorem code_of_cfgWrite {b : Byte} (h : Command.ofCode b = some .cfgWrite) : b = 0x10 := by
  unfold Command.ofCode at h
  split at h
  case h_1 e => exact BitVec.eq_of_toNat_eq e
  all_goals cases h

/-- The rise of CSN, where the command that it ends is not CFG_WRITE. -/
theorem takeCsnRise_image (other : s.port.rx.code ≠ 0x10) : s.takeCsnRise.port.image = s.port.image := by
  have closed : s.closeTransaction.port.image = s.port.image := by
    unfold State.closeTransaction
    split
    · exact (takeUnknown_same s _).image
    · rename_i k named
      split
      · exact (finishWrite_same s _).image
      · exact runCommand_image k _ fun write => other (code_of_cfgWrite (write ▸ named))
  unfold State.takeCsnRise
  split
  · exact closed
  · exact closed
  all_goals rfl

/-- Every row but POR, RESET and CFG_WRITE, also as carried by a CSN rise. -/
theorem fire_image (i : Instr) (por : i ≠ .por) (reset : i ≠ .reset) (write : ∀ x, i ≠ .cfgWrite x)
    (rise : ¬ (i = .csnRise ∧ s.port.rx.code = 0x10)) : (s.fire i).port.image = s.port.image := by
  cases i with
  | por => exact absurd rfl por
  | reset => exact absurd rfl reset
  | killnLow => exact (takeKillnLow_timer s).settled_image
  | killnHigh => exact (takeKillnHigh_timer s).settled_image
  | filteredLevelChange pins => exact (takeLevelChange_load s pins).settled_image
  | settlingEnd => exact (takeSettlingEnd_same s).image
  | openRoll => exact (takeOpenRoll_same s).image
  | rollStart => exact (takeRollStart_timer s).settled_image
  | malformedOpen => exact (takeMalformedOpen_same s).image
  | holdComplete units => exact (takeHoldComplete_timer s units).settled_image
  | arbitrationLost bit => exact (takeArbitrationLost_same s bit).image
  | claimResolved word => exact (takeClaimResolved_timer s word).settled_image
  | takeComplete units => exact (takeTakeComplete_timer s units).settled_image
  | flagReading level => exact (takeFlagReading_same s level).image
  | noticeCharacter index data framing marker => exact (takeNoticeCharacter_same s index data framing marker).image
  | noticeEnd form => exact (takeNoticeEnd_timer s form).settled_image
  | rollEnd cause order => exact (settle_keep _).image.trans (takeRollEnd_restarts s cause order).image
  | driveReport phase position => exact (takeDriveReport_timer s phase position).settled_image
  | conflict phase => exact (takeConflict_timer s phase).settled_image
  | stuckLine => exact (takeStuckLine_timer s).settled_image
  | silenceTimerExpiry => exact (takeSilenceExpiry_same s).image
  | busLossExpiry => exact (takeBusLossExpiry_timer s).settled_image
  | lingerExpiry unit => exact (setTable_load s _).settled_image
  | waitTimerExpiry c => exact (takeWaitExpiry_load s c).settled_image
  | minOnExpiry c => exact (takeMinOnExpiry_load s c).settled_image
  | minOffExpiry c => exact (takeMinOffExpiry_load s c).settled_image
  | fenceExpiry sender => rfl
  | yieldHoldoffExpiry => rfl
  | staggerReached => exact (takeStaggerReached_load s).settled_image
  | statusCapture => rfl
  | unknownCommand code => exact (takeUnknown_same s code).image
  | candidateOpen => exact (takeCandidateOpen_same s).image
  | openNoise run => exact (takeOpenNoise_same s run).image
  | csnRise => exact takeCsnRise_image fun code => rise ⟨rfl, code⟩
  | cfgWrite x => exact absurd rfl (write x)
  | cfgRead x => exact runCommand_image .cfgRead x nofun
  | lock x => exact runCommand_image .lock x nofun
  | demandSet x => exact runCommand_image .demandSet x nofun
  | demandClear x => exact runCommand_image .demandClear x nofun
  | park x => exact runCommand_image .park x nofun
  | unpark x => exact runCommand_image .unpark x nofun
  | send x => exact runCommand_image .send x nofun
  | yield x => exact runCommand_image .yield x nofun
  | pop x => exact runCommand_image .pop x nofun
  | readUnit x => exact runCommand_image .readUnit x nofun
  | readChannel x => exact runCommand_image .readChannel x nofun
  | readQueue x => exact runCommand_image .readQueue x nofun
  | readStation x => exact runCommand_image .readStation x nofun
  | readIncident x => exact runCommand_image .readIncident x nofun
  | readEvents x => exact runCommand_image .readEvents x nofun
  | clearEvents x => exact runCommand_image .clearEvents x nofun
  | setEnables x => exact runCommand_image .setEnables x nofun
  | join x => exact runCommand_image .join x nofun
  | leave x => exact runCommand_image .leave x nofun
  | quiet x => exact runCommand_image .quiet x nofun
  | clearFault x => exact runCommand_image .clearFault x nofun
  | softReset x => exact runCommand_image .softReset x nofun

end

/-- Settles O41: the verdict by the place that the index names, the store at that place alone, and the rows that keep
the image. -/
theorem cfgWriteStoresInRange : Obligations.CfgWriteStoresInRange := by
  unfold Obligations.CfgWriteStoresInRange
  intro s index value
  refine ⟨fun out => ?_, fun config not => ?_, fun config writable => ?_, fun c t taken por reset write rise => ?_⟩
  · exact write_refused (x := whole [index, value]) rfl (cfgWriteVerdict_outside out) nofun
  · exact write_refused (x := whole [index, value]) rfl (cfgWriteVerdict_refused config not) nofun
  · obtain ⟨p, placed, within⟩ := (writable_iff index value).1 writable
    have named := placeOf_eq_some.1 placed
    have stored : exec (.cfgWrite (whole [index, value])) s =
        .next ((s.setPort { s.port with image := s.port.image.write p value }).finishWrite .accepted) :=
      write_port rfl (cfgWriteVerdict_accepted config placed within) (storeItem_placed placed)
    refine ⟨_, stored, finishWrite_repliedOnly _ .accepted, ?_, fun j b other => ?_⟩
    · exact named ▸ holds_write_same s.port.image p value
    · exact holds_write_other s.port.image value (named ▸ other) b
  · rw [exec_eq_fire] at taken
    cases taken
    exact fire_image c por reset write rise

end Sys2Proof.Machine

namespace Sys2Proof.Machine

/-! ### Bits of a byte made of single bits -/

section
variable {n : Nat} (x : BitVec n) (b : Bool)

theorem bit_append_zero : (x ++ BitVec.ofBool b).getLsbD 0 = b := BitVec.getLsbD_concat_zero

theorem bit_append_succ (i : Nat) : (x ++ BitVec.ofBool b).getLsbD (i + 1) = x.getLsbD i :=
  BitVec.getLsbD_concat_succ

theorem extract_append_succ (i w : Nat) : (x ++ BitVec.ofBool b).extractLsb' (i + 1) w = x.extractLsb' i w := by
  ext k
  simp only [BitVec.getElem_extractLsb', Nat.add_right_comm i 1 k, bit_append_succ]

end

/-! ### Codes and bytes of the records (R174) -/

theorem viewCode_eq (v : View) : v.code = byteOf (viewNumber v) := by cases v <;> rfl

theorem channelCode_eq (x : ChState) : x.code = byteOf (channelNumber x) := by cases x <;> rfl

theorem shedCode_eq (x : ShedCause) : x.code = byteOf (causeNumber x) := by cases x <;> rfl

theorem incidentCode_eq (x : IncidentCause) : x.code = byteOf (incidentNumber x) := by cases x <;> rfl

theorem stationCode_eq (x : StationState) : (x.code.setWidth 8 : Byte) = byteOf (stateNumber x) := by cases x <;> rfl

theorem requestCode_eq (r : Option Request) :
    (r.map Request.code).getD 0 = match r with | none => 0 | some .leave => 1 | some .quiet => 2 := by
  obtain _ | _ | _ := r <;> rfl

/-- The last claim's byte: the outcome above, the bit at which it was lost below. -/
theorem claimByte_eq (x : ClaimOutcome) : x.code ++ BitVec.ofNat 4 x.lostBit = byteOf (claimNumber x) := by
  cases x with
  | lost j =>
    have low : BitVec.ofNat 4 j = BitVec.ofNat 4 (j % 16) := BitVec.eq_of_toNat_eq (by simp)
    have byte : ∀ k < 16, (1 : BitVec 4) ++ BitVec.ofNat 4 k = byteOf (0x10 + k) := by decide
    exact (congrArg _ low).trans (byte _ (Nat.mod_lt j (by decide)))
  | _ => rfl

theorem claimWord_high (w : BitVec 10) : (w.setWidth 16 >>> 8).setWidth 8 = byteOf (w.toNat / 256) := by
  refine BitVec.eq_of_toNat_eq ?_
  have width : w.toNat % 65536 = w.toNat := Nat.mod_eq_of_lt (by omega)
  simp [byteOf, width, Nat.shiftRight_eq_div_pow]

theorem errorByte_eq (e : ErrorSet) : e.byte = byteOf (e.framing.toNat + 2 * e.marker.toNat + 4 * e.check.toNat
    + 8 * e.length.toNat + 16 * e.cut.toNat) := by
  obtain ⟨framing, marker, check, length, cut⟩ := e
  revert framing marker check length cut
  decide

/-- The first byte of a ring entry: the sender, and above it whether a header was received. -/
theorem senderByte_eq (sender : BitVec 6) (header : Bool) : BitVec.ofBool header ++ (0 : BitVec 1) ++ sender =
    (sender.setWidth 8 : Byte) ||| (if header then 0x80 else 0x00) := by
  rw [BitVec.append_def, BitVec.or_comm]
  cases header <;> rfl

/-! ### Lists filled up with 00h (R174) -/

theorem padBytes_eq (n : Nat) (l : List Byte) : padBytes n l = (List.range n).map fun i => l.getD i 0 := by
  refine List.ext_getElem (by simp [padBytes]) fun i within _ => ?_
  by_cases short : i < l.length <;> simp [padBytes, List.getElem_append, short]

theorem padBytes_length (n : Nat) (l : List Byte) : (padBytes n l).length = n := by
  simp [padBytes_eq]

theorem padBytes_getElem? {n i : Nat} (l : List Byte) (within : i < n) : (padBytes n l)[i]? = some (l.getD i 0) := by
  simp [padBytes_eq, within]

/-- A place of a list of channel numbers. -/
theorem getD_channels (l : List Chan) (i : Nat) : (l.map fun c => toByte c.val).getD i 0 =
    ((l[i]?).map fun c => byteOf c.val).getD 0 := by
  rw [List.getD_eq_getElem?_getD, List.getElem?_map]
  rfl

end Sys2Proof.Machine

namespace Sys2Proof.Machine

/-! ### POP (R135, R166, R174) -/

section
variable {s : State}

theorem popVerdict_config (config : s.stn.state = .config) : s.popVerdict = .state := if_pos (inConfig_iff.2 config)

theorem popVerdict_empty (out : s.stn.state ≠ .config) (empty : s.notice.ring = []) : s.popVerdict = .empty := by
  rw [State.popVerdict, if_neg (mt inConfig_iff.1 out), empty]
  rfl

/-- With a notice stored its oldest entry is returned and removed. -/
theorem pop_oldest {n : StoredNotice} {rest : List StoredNotice} (out : s.stn.state ≠ .config)
    (ring : s.notice.ring = n :: rest) : ∃ t, exec (.pop (whole [])) s = .next t ∧
      ReadOnly { s with notice := { s.notice with ring := rest } } t (0x00 :: n.entry) := by
  have verdict : s.popVerdict = .accepted := by
    rw [State.popVerdict, if_neg (mt inConfig_iff.1 out), ring]
    rfl
  have oldest : s.popData = n.entry := by rw [State.popData, ring]; rfl
  have others : rest = s.notice.ring.tail := by rw [ring]; rfl
  rw [others]
  exact read_accepted (Nat.le_refl 0) verdict oldest

theorem entry_length (n : StoredNotice) : n.entry.length = 10 := by
  simp [StoredNotice.entry, padBytes_length]

theorem entry_payload (n : StoredNotice) {i : Nat} (within : i < 6) :
    n.entry[4 + i]? = some (n.payload.getD i 0) := by
  unfold StoredNotice.entry
  rw [List.getElem?_append_right (Nat.le_add_right 4 i), ← padBytes_getElem? n.payload within]
  exact congrArg _ (Nat.add_sub_cancel_left 4 i)

end

/-- Settles O44: the verdict by station state and ring, and the entry of the oldest notice byte by byte. -/
theorem popRemovesOldest : Obligations.PopRemovesOldest := by
  unfold Obligations.PopRemovesOldest
  intro s
  refine ⟨fun config => ?_, fun out empty => ?_, fun n rest out ring _ => ?_⟩
  · exact read_refused (Nat.le_refl 0) (popVerdict_config config) (.inl rfl)
  · exact read_empty (Nat.le_refl 0) (popVerdict_empty out empty)
  · obtain ⟨t, taken, popped⟩ := pop_oldest out ring
    refine ⟨t, n.entry, taken, popped, entry_length n, ?_, rfl, ?_, rfl, fun i within => entry_payload n within⟩
    · exact congrArg some (senderByte_eq n.sender n.header.isSome)
    · exact congrArg some (errorByte_eq n.errors)

end Sys2Proof.Machine

namespace Sys2Proof.Machine

/-! ### A channel's record (R66, R174) -/

section
variable {s : State} {c : Chan}

theorem exec_readChannel_named : exec (.readChannel (whole [byteOf c.val])) s =
    .next (s.readCommand (whole [byteOf c.val]) 1 .accepted (s.channelBytes c) id) := by
  have number : (byteOf c.val).toNat = c.val := (BitVec.toNat_ofNat _ _).trans (Nat.mod_eq_of_lt (by omega))
  have below : ((whole [byteOf c.val]).byte 0).toNat < 8 := number.trans_lt c.isLt
  exact congrArg Host.Outcome.next ((dif_pos below).trans
    (congrArg (fun d => s.readCommand _ 1 .accepted (s.channelBytes d) id) (Fin.ext number)))

theorem waitRunning_iff : s.waitRunning c = true ↔ (∃ e w, (s.chan c).state = .waiting e (some w)) ∧
    s.stn.state = .active ∧ ∀ q, s.notice.slot = some q → q.requester ≠ some c := by
  unfold State.waitRunning
  split
  · rename_i e w waiting
    rw [waiting]
    cases s.notice.slot <;> simp [isActive_iff]
  · rename_i other
    exact ⟨nofun, fun ⟨⟨e, w, waiting⟩, _⟩ => (other e w waiting).elim⟩

theorem channelFlags_bits (x : Byte) (flags : s.channelFlags c = x) :
    (x.getLsbD 0 = true ↔ ∃ n, (s.chan c).state = .on true n) ∧
    x.getLsbD 1 = (s.chan c).soft ∧ x.getLsbD 2 = (s.chan c).park ∧
    x.getLsbD 3 = (s.chan c).offSince.isNone ∧
    (x.getLsbD 4 = true ↔ ∃ e w, (s.chan c).state = .waiting e (some w)) ∧
    (x.getLsbD 5 = true ↔ (∃ e w, (s.chan c).state = .waiting e (some w)) ∧ s.stn.state = .active ∧
      ∀ q, s.notice.slot = some q → q.requester ≠ some c) ∧
    x.getLsbD 6 = (s.chan c).level ∧ x.getLsbD 7 = false := by
  subst flags
  unfold State.channelFlags
  simp only [bit_append_zero, bit_append_succ]
  refine ⟨?_, trivial, trivial, trivial, ?_, waitRunning_iff, trivial, rfl⟩
  · cases (s.chan c).state <;> simp
  · cases (s.chan c).state <;> simp [Option.isSome_iff_exists]

theorem channelBytes_eq : s.channelBytes c = s.port.image.channels[c].toList ++
    [byteOf (channelNumber (s.chan c).state), s.channelFlags c, byteOf (s.table.boundUnits c).length] ++
    padBytes 8 ((s.table.boundUnits c).map byteOf) ++
    [byteOf (onSince s c / 1000000), byteOf ((s.chan c).offSince.getD 0 / 1000000),
      match (s.chan c).state with
        | .waiting _ (some w) => stepsLeft 100000 w
        | _ => 0,
      byteOf (causeNumber (s.chan c).lastShed)] := by
  have elapsed : (match (s.chan c).state with | .on _ n => stepsDown Config.second n | _ => 0) =
      byteOf (onSince s c / 1000000) := by
    unfold onSince
    cases (s.chan c).state with
    | on m n => rfl
    | _ => exact congrArg byteOf (Nat.zero_div 1000000).symm
  rw [← elapsed, ← channelCode_eq, ← shedCode_eq]
  rfl

theorem channelBytes_length : (s.channelBytes c).length = 24 := by
  simp [channelBytes_eq, padBytes_length]

theorem channelBytes_config (f : Fin 9) :
    (s.channelBytes c)[f.val]? = some (s.port.image.read (.field c f)) := by
  have within : f.val < 9 := f.isLt
  simp [channelBytes_eq, List.getElem?_append, Image.read, within]

/-- The three bytes behind the channel's fields. -/
theorem channelBytes_run {i : Nat} (within : i < 3) : (s.channelBytes c)[9 + i]? =
    [byteOf (channelNumber (s.chan c).state), s.channelFlags c, byteOf (s.table.boundUnits c).length][i]? := by
  rw [channelBytes_eq, List.append_assoc, List.getElem?_append_left (by simp; omega),
    List.getElem?_append_right (by simp)]
  simp

theorem channelBytes_units {i : Nat} (within : i < 8) :
    (s.channelBytes c)[12 + i]? = some (byteOf ((s.table.boundUnits c).getD i 0)) := by
  rw [← List.getD_map (f := byteOf), show byteOf 0 = 0 from rfl, ← padBytes_getElem? _ within, channelBytes_eq,
    List.getElem?_append_left (by simp [padBytes_length]; omega), List.getElem?_append_right (by simp)]
  simp

/-- The last four bytes: its times and its last shed cause. -/
theorem channelBytes_times (i : Nat) : (s.channelBytes c)[20 + i]? =
    [byteOf (onSince s c / 1000000), byteOf ((s.chan c).offSince.getD 0 / 1000000),
      match (s.chan c).state with
        | .waiting _ (some w) => stepsLeft 100000 w
        | _ => 0,
      byteOf (causeNumber (s.chan c).lastShed)][i]? := by
  rw [channelBytes_eq, List.getElem?_append_right (by simp [padBytes_length])]
  simp [padBytes_length]

/-- The bound units of a channel, lowest first. -/
theorem boundUnits_ascending : (s.table.boundUnits c).Pairwise (· < ·) := List.pairwise_lt_range.filter _

theorem mem_boundUnits (k : Nat) : k ∈ s.table.boundUnits c ↔ ∃ r, s.table.recs[k]? = some r ∧ r.view = .own c := by
  unfold UnitTable.boundUnits
  rw [mem_unitsWhere]
  simp only [beq_iff_eq]

end

/-! ### Queue and fences (R80, R87, R174) -/

section
variable {s : State}

/-- Byte i of fence j stands at place 4j + i of the fences' bytes. -/
theorem fenceBytes_getElem? {i : Nat} (within : i < 4) (l : List Fence) (j : Nat) :
    (l.flatMap Fence.bytes)[4 * j + i]? = (l[j]?).bind fun f => f.bytes[i]? := by
  have length (f : Fence) : f.bytes.length = 4 := rfl
  induction l generalizing j with
  | nil => rfl
  | cons f l ih =>
    rw [List.flatMap_cons]
    cases j with
    | zero =>
      rw [List.getElem?_append_left (by rw [length]; omega), Nat.mul_zero, Nat.zero_add]
      rfl
    | succ j =>
      rw [List.getElem?_append_right (by rw [length]; omega), length, show 4 * (j + 1) + i - 4 = 4 * j + i by omega]
      exact ih j

theorem queueBytes_length : s.queueBytes.length = 26 := by
  simp [State.queueBytes, padBytes_length]

theorem queueBytes_queue {i : Nat} (within : i < 8) :
    s.queueBytes[1 + i]? = some (((s.chans.queue[i]?).map fun c : Chan => byteOf c.val).getD 0) := by
  rw [← getD_channels, ← padBytes_getElem? _ within, Nat.add_comm]
  exact List.getElem?_append_left (by simp [padBytes_length]; omega)

theorem queueBytes_fenceCount : s.queueBytes[9]? = some (byteOf s.chans.fences.length) := by
  simp [State.queueBytes, padBytes_length]
  rfl

/-- A fence's byte, 00h where the list has no such fence. -/
theorem queueBytes_fence {i j : Nat} (byte : i < 4) (place : j < 4) : s.queueBytes[10 + 4 * j + i]? =
    some (((s.chans.fences[j]?).bind fun f => f.bytes[i]?).getD 0) := by
  have padded := padBytes_getElem? (n := 16) (i := 4 * j + i) (s.chans.fences.flatMap Fence.bytes) (by omega)
  rw [List.getD_eq_getElem?_getD, fenceBytes_getElem? byte] at padded
  rw [← padded, show 10 + 4 * j + i = 9 + (4 * j + i + 1) by omega]
  unfold State.queueBytes
  rw [List.getElem?_append_right (by simp [padBytes_length])]
  simp [padBytes_length]

end

/-! ### The station's record (R103, R105, R138, R174) -/

theorem slotBytes_eq (x : Option YieldReq) : slotBytes x = match x with
    | none => [0, 0, 0, 0, 0]
    | some q =>
      [byteOf (1 + 2 * (decide (q.origin = .fromPort)).toNat + 4 * q.requester.isSome.toNat),
       byteOf q.priority, q.mask.setWidth 8, byteOf q.wanted,
       (q.requester.map fun c => byteOf c.val).getD 0] := by
  have first : ∀ a b : Bool, (0 : BitVec 5) ++ BitVec.ofBool b ++ BitVec.ofBool a ++ BitVec.ofBool true =
      byteOf (1 + 2 * a.toNat + 4 * b.toNat) := by decide
  cases x with
  | none => rfl
  | some q => exact congrArg (· :: _) (first _ _)

theorem stationBytes_eq (s : State) : s.stationBytes = [byteOf (stateNumber s.stn.state),
    match s.stn.request with | none => 0 | some .leave => 1 | some .quiet => 2,
    byteOf s.stn.joinCount, stepsLeft 10000 (s.stn.busLoss.getD 0), byteOf s.cont.lossRun,
    byteOf s.cont.conflictRun, byteOf (claimNumber s.cont.last.outcome),
    byteOf (s.cont.last.word.toNat / 256), byteOf s.cont.last.word.toNat,
    byteOf (s.table.recs.countP fun r => r.view.isSpare), s.seq.latch, byteOf s.seq.startList.length] ++
    ((List.range 8).map fun i => ((s.seq.startList[i]?).map fun c : Chan => byteOf c.val).getD 0) ++
    [byteOf (s.seq.elapsed / 10000)] ++
    (match s.notice.slot with
      | none => [0, 0, 0, 0, 0]
      | some q =>
        [byteOf (1 + 2 * (decide (q.origin = .fromPort)).toNat + 4 * q.requester.isSome.toNat),
         byteOf q.priority, q.mask.setWidth 8, byteOf q.wanted,
         (q.requester.map fun c => byteOf c.val).getD 0]) ++
    [stepsLeft 100000 s.notice.holdoff, byteOf s.notice.tx.length, byteOf s.notice.presence.toNat,
     byteOf s.notice.ring.length, byteOf (replyNumber s.port.reply)] := by
  have presence : (BitVec.ofBool s.notice.presence).setWidth 8 = byteOf s.notice.presence.toNat := by
    cases s.notice.presence <;> rfl
  unfold State.stationBytes State.stationHead State.stationStart State.stationTail
  rw [stationCode_eq, requestCode_eq, claimByte_eq, claimWord_high, padBytes_eq, slotBytes_eq, presence, replyCode_eq]
  simp only [getD_channels]
  rfl

/-- Settles O46: each record is cut at the places of its fields, and its flags, codes and times are read there. -/
theorem readsReturnTables : Obligations.ReadsReturnTables := by
  unfold Obligations.ReadsReturnTables
  intro s
  refine ⟨fun c => ?_, ?_, ?_⟩
  · rw [exec_readChannel_named]
    obtain ⟨t, taken, only⟩ := read_accepted (s := s) (x := whole [byteOf c.val]) (n := 1) (data := s.channelBytes c)
      (e := id) (Nat.le_refl 1) rfl rfl
    exact ⟨t, s.channelBytes c, s.table.boundUnits c, taken, only, channelBytes_length, channelBytes_config,
      channelBytes_run (i := 0) (by decide), ⟨_, channelBytes_run (i := 1) (by decide), channelFlags_bits _ rfl⟩,
      boundUnits_ascending, mem_boundUnits, channelBytes_run (i := 2) (by decide),
      fun i within => channelBytes_units within, channelBytes_times 0, channelBytes_times 1, channelBytes_times 2,
      channelBytes_times 3⟩
  · obtain ⟨t, taken, only⟩ := read_accepted (s := s) (x := whole []) (data := s.queueBytes) (e := id)
      (Nat.le_refl 0) rfl rfl
    refine ⟨t, s.queueBytes, taken, only, queueBytes_length, rfl, fun i within => queueBytes_queue within,
      queueBytes_fenceCount, fun j place => ⟨fun f stands => ?_, fun none i byte => ?_⟩⟩
    · have fence (i : Nat) (byte : i < 4) : s.queueBytes[10 + 4 * j + i]? = some ((f.bytes[i]?).getD 0) := by
        rw [queueBytes_fence byte place, stands]
        rfl
      refine ⟨fence 0 (by decide), ?_, ?_, ?_⟩
      · rw [show 11 + 4 * j = 10 + 4 * j + 1 by omega]
        exact fence 1 (by decide)
      · rw [show 12 + 4 * j = 10 + 4 * j + 2 by omega]
        exact fence 2 (by decide)
      · rw [show 13 + 4 * j = 10 + 4 * j + 3 by omega]
        exact fence 3 (by decide)
    · rw [queueBytes_fence byte place, none]
      rfl
  · exact read_accepted (Nat.le_refl 0) rfl (stationBytes_eq s)

end Sys2Proof.Machine

namespace Sys2Proof.Machine

/-! ### Transactions at CSN's edges (R164 to R166, R172) -/

section
variable {s : State} {k : Command} {x : Operands}

/-- A write command of the list is one: its own count, verdict and effect (R165). -/
theorem runCommand_write (s : State) (x : Operands) (written : k.isRead = false) :
    ∃ v e, s.runCommand k x = s.writeCommand x (k.operandCount x.bytes) v e := by
  cases k
  case cfgRead | pop | readUnit | readChannel | readQueue | readStation | readIncident | readEvents => cases written
  all_goals
    dsimp only [State.runCommand, State.takeCfgWrite, State.takeLock, State.takeDemandSet, State.takeDemandClear,
      State.takePark, State.takeUnpark, State.takeSend, State.takeYield, State.takeClearEvents, State.takeSetEnables,
      State.takeJoin, State.takeLeave, State.takeQuiet, State.takeClearFault, State.takeSoftReset]
    exact ⟨_, _, rfl⟩

/-- A write command ends in its reply, whatever it is. -/
theorem writeCommand_finishes (s : State) (x : Operands) (n : Nat) (v : Reply) (e : State → State) :
    ∃ u r, s.writeCommand x n v e = State.finishWrite u r := by
  unfold State.writeCommand
  split
  · split
    · exact ⟨_, _, rfl⟩
    · exact ⟨_, _, rfl⟩
  · exact ⟨_, _, rfl⟩

/-- A reply leaves the receive state in IDLE already (R164). -/
theorem finishWrite_rxIdle (s : State) (r : Reply) : (s.finishWrite r).rxIdle = s.finishWrite r := rfl

theorem runCommand_rxIdle (written : k.isRead = false) : (s.runCommand k x).rxIdle = s.runCommand k x := by
  obtain ⟨v, e, run⟩ := runCommand_write s x written
  obtain ⟨u, r, finished⟩ := writeCommand_finishes s x (k.operandCount x.bytes) v e
  rw [run, finished, finishWrite_rxIdle]

/-- A write command with another count than its own, or with a last byte left incomplete, is discarded (R165). -/
theorem runCommand_wrong_count (written : k.isRead = false)
    (wrong : x.bytes.length ≠ k.operandCount x.bytes ∨ x.tail ≠ 0) : s.runCommand k x = s.finishWrite .count := by
  obtain ⟨v, e, run⟩ := runCommand_write s x written
  rw [run]
  refine writeCommand_wrong_count s x _ v e ?_
  obtain bytes | tail := wrong
  · simp [Operands.exactly, bytes]
  · simp [Operands.exactly, tail]

/-- A read ended before its operand byte is discarded (R165). -/
theorem runCommand_without_operand (operand : k ∈ [Command.cfgRead, .readUnit, .readChannel]) (none : x.bytes = []) :
    s.runCommand k x = s.finishWrite .count := by
  have early (v : Reply) (data : List Byte) : s.readCommand x 1 v data id = s.finishWrite .count :=
    readCommand_wrong_count s x 1 v id data (by rw [none]; exact Nat.one_pos)
  cases k
  case cfgRead =>
    change s.takeCfgRead x = _
    unfold State.takeCfgRead
    split <;> exact early _ _
  case readUnit =>
    change s.takeReadUnit x = _
    unfold State.takeReadUnit
    split <;> exact early _ _
  case readChannel =>
    change s.takeReadChannel x = _
    unfold State.takeReadChannel
    split <;> exact early _ _
  all_goals exact absurd operand (by decide)

/-- What a transaction leaves whose code names no command. -/
theorem takeUnknown_unnamed {code : Byte} (unnamed : Command.ofCode code = none) :
    s.takeUnknown code = s.finishWrite .unknown :=
  if_pos (Option.isNone_iff_eq_none.2 unnamed)

/-- The rise of CSN ends the transaction in OPERANDS and DRAIN (R165). -/
theorem takeCsnRise_closes (stage : s.port.rx.stage ∈ [.operands, .drain]) :
    s.takeCsnRise = s.closeTransaction.rxIdle := by
  unfold State.takeCsnRise
  cases e : s.port.rx.stage <;> simp [e] at stage ⊢

/-- In the other stages it returns the receive state to IDLE alone. -/
theorem takeCsnRise_still (stage : s.port.rx.stage ∈ [.idle, .command, .data]) : s.takeCsnRise = s.rxIdle := by
  unfold State.takeCsnRise
  cases e : s.port.rx.stage <;> simp [e] at stage ⊢

/-- From every stage the receive state returns to IDLE (R164). -/
theorem takeCsnRise_idle (s : State) : s.takeCsnRise.port.rx = SpiRx.reset := by
  unfold State.takeCsnRise
  split <;> rfl

theorem closeTransaction_unnamed (unnamed : Command.ofCode s.port.rx.code = none) :
    s.closeTransaction = s.finishWrite .unknown := by
  unfold State.closeTransaction
  rw [unnamed]
  exact takeUnknown_unnamed unnamed

theorem closeTransaction_read (named : Command.ofCode s.port.rx.code = some k) (read : k.isRead = true) :
    s.closeTransaction = s.finishWrite .count := by
  unfold State.closeTransaction
  rw [named]
  exact if_pos read

theorem closeTransaction_write (named : Command.ofCode s.port.rx.code = some k) (written : k.isRead = false) :
    s.closeTransaction = s.runCommand k { bytes := s.port.rx.got, tail := s.port.rx.bits } := by
  unfold State.closeTransaction
  rw [named]
  exact if_neg (by rw [written]; nofun)

theorem exec_toInstr (s : State) (k : Command) (x : Operands) : exec (k.toInstr x) s = .next (s.runCommand k x) := by
  rw [exec_eq_fire, fire_toInstr]

end

/-- The status byte, field by field (R172, R174). -/
theorem statusByte_bits (s : State) : s.statusByte.extractLsb' 5 3 = s.stn.state.code ∧
    s.statusByte.getLsbD 4 = s.irqLow ∧ (s.statusByte.getLsbD 3 = true ↔ s.notice.ring ≠ []) ∧
    (s.statusByte.getLsbD 2 = true ↔ s.notice.tx.length = 4) ∧
    s.statusByte.getLsbD 1 = s.stn.killnLow ∧ s.statusByte.getLsbD 0 = s.port.locked := by
  unfold State.statusByte
  simp only [extract_append_succ, bit_append_succ, bit_append_zero]
  refine ⟨BitVec.extractLsb'_eq_self, trivial, ?_, decide_eq_true_iff, trivial, trivial⟩
  rw [Bool.not_eq_true', List.isEmpty_eq_false_iff]

/-- Settles O50: the capture at the fall; the rise by stage and by the kind of the command; and the discarded counts. -/
theorem transactionEdges : Obligations.TransactionEdges := by
  unfold Obligations.TransactionEdges
  intro s
  refine ⟨⟨_, rfl, rfl, rfl, rfl, rfl, rfl, rfl, ?_, statusByte_bits s⟩,
    ⟨s.takeCsnRise, rfl, congrArg SpiRx.stage (takeCsnRise_idle s), congrArg SpiRx.sdo (takeCsnRise_idle s),
      fun stage => ?_, fun stage unnamed => ?_, fun k stage named => ⟨fun written => ?_, fun read => ?_⟩⟩,
    fun code unnamed => ⟨_, rfl, ?_⟩, fun x => ⟨fun k listed wrong => ?_, fun k operand none => ?_⟩⟩
  · rfl
  · rw [takeCsnRise_still stage]
    rfl
  · rw [takeCsnRise_closes (by rw [stage]; decide), closeTransaction_unnamed unnamed, finishWrite_rxIdle]
    exact finishWrite_repliedOnly s _
  · rw [takeCsnRise_closes stage, closeTransaction_write named written, runCommand_rxIdle written, exec_toInstr]
  · rw [takeCsnRise_closes stage, closeTransaction_read named read, finishWrite_rxIdle]
    exact finishWrite_repliedOnly s _
  · rw [takeUnknown_unnamed unnamed]
    exact finishWrite_repliedOnly s _
  · have written : k.isRead = false := by
      clear wrong
      revert k
      decide
    exact ⟨_, (exec_toInstr s k x).trans (congrArg _ (runCommand_wrong_count written wrong)),
      finishWrite_repliedOnly s _⟩
  · exact ⟨_, (exec_toInstr s k x).trans (congrArg _ (runCommand_without_operand operand none)),
      finishWrite_repliedOnly s _⟩

end Sys2Proof.Machine

namespace Sys2Proof.Machine

/-! ### The small reads (R44, R159, R160, R167, R168, R174) -/

section
variable {s : State} {k : Byte}

theorem exec_cfgRead_placed {p : Place} (placed : placeOf k.toNat = some p) : exec (.cfgRead (whole [k])) s =
    .next (s.readCommand (whole [k]) 1 .accepted [s.port.image.read p] id) := by
  change Host.Outcome.next (s.takeCfgRead (whole [k])) = _
  unfold State.takeCfgRead
  rw [show (whole [k]).byte 0 = k from rfl, placed]

theorem exec_cfgRead_unplaced (unplaced : placeOf k.toNat = none) : exec (.cfgRead (whole [k])) s =
    .next (s.readCommand (whole [k]) 1 .range [] id) := by
  change Host.Outcome.next (s.takeCfgRead (whole [k])) = _
  unfold State.takeCfgRead
  rw [show (whole [k]).byte 0 = k from rfl, unplaced]

theorem exec_readUnit_record {r : UnitRec} (record : s.table.recs[k.toNat]? = some r) :
    exec (.readUnit (whole [k])) s = .next (s.readCommand (whole [k]) 1 .accepted r.bytes id) := by
  change Host.Outcome.next (s.takeReadUnit (whole [k])) = _
  unfold State.takeReadUnit
  rw [show (whole [k]).byte 0 = k from rfl, record]

theorem exec_readUnit_out (out : s.table.recs[k.toNat]? = none) :
    exec (.readUnit (whole [k])) s = .next (s.readCommand (whole [k]) 1 .range [] id) := by
  change Host.Outcome.next (s.takeReadUnit (whole [k])) = _
  unfold State.takeReadUnit
  rw [show (whole [k]).byte 0 = k from rfl, out]

theorem exec_readChannel_out (out : 8 ≤ k.toNat) :
    exec (.readChannel (whole [k])) s = .next (s.readCommand (whole [k]) 1 .range [] id) :=
  congrArg Host.Outcome.next (dif_neg (Nat.not_lt.2 out))

end

theorem unitBytes_eq (r : UnitRec) : r.bytes = [byteOf (viewNumber r.view),
    (r.window.map fun w => byteOf w.val).getD 0,
    (match r.view with | .own c => byteOf c.val | _ => 0),
    (match r.view with | .spare n => stepsLeft 100000 n | _ => 0)] := by
  rw [← viewCode_eq]
  rfl

theorem incidentBytes_eq (x : Option Incident) : incidentBytes x = match x with
    | none => [0, 0, 0]
    | some i => [byteOf (incidentNumber i.cause), byteOf (stateNumber i.state),
        match i.channel with | some c => byteOf (0x80 + c.val) | none => 0] := by
  have named : ∀ c : Chan, BitVec.ofBool true ++ BitVec.ofNat 7 c.val = byteOf (0x80 + c.val) := by decide
  obtain _ | ⟨cause, state, _ | c⟩ := x
  · rfl
  · simp only [incidentBytes, incidentCode_eq, stationCode_eq]
  · simp only [incidentBytes, incidentCode_eq, stationCode_eq, named]

theorem eventBytes_eq (x : Word) :
    [(x >>> 8).setWidth 8, x.setWidth 8] = [x.extractLsb' 8 8, x.extractLsb' 0 8] := by
  have high : (x >>> 8).setWidth 8 = x.extractLsb' 8 8 := by
    ext i
    simp
  have low : x.setWidth 8 = x.extractLsb' 0 8 := by
    ext i
    simp
  rw [high, low]

/-- Settles O45: each read by what its operand names, with its bytes. -/
theorem readsReturnUnitsAndIncidents : Obligations.ReadsReturnUnitsAndIncidents := by
  unfold Obligations.ReadsReturnUnitsAndIncidents
  intro s
  refine ⟨fun index b held => ?_, fun index free => ?_, fun k r record => ?_, fun k out => ?_, fun k out => ?_, ?_, ?_⟩
  · obtain ⟨p, placed, rfl⟩ := (holds_iff _ _ _).1 held
    rw [exec_cfgRead_placed placed]
    exact read_accepted (Nat.le_refl 1) rfl rfl
  · rw [exec_cfgRead_unplaced (placeOf_of_holds_none free)]
    exact read_refused (Nat.le_refl 1) rfl (.inr rfl)
  · rw [exec_readUnit_record record]
    exact read_accepted (Nat.le_refl 1) rfl (unitBytes_eq r)
  · rw [exec_readUnit_out out]
    exact read_refused (Nat.le_refl 1) rfl (.inr rfl)
  · rw [exec_readChannel_out out]
    exact read_refused (Nat.le_refl 1) rfl (.inr rfl)
  · exact read_accepted (Nat.le_refl 0) rfl (incidentBytes_eq s.stn.incident)
  · exact read_accepted (Nat.le_refl 0) rfl (eventBytes_eq s.port.events)

end Sys2Proof.Machine

namespace Sys2Proof.Machine

/-! ### Event word, enable word and IRQN (R170, R171) -/

theorem clearedEvents_bit (events mask : Word) {i : Nat} (within : i < 16) :
    (events &&& ~~~ mask).getLsbD i = (events.getLsbD i && !mask.getLsbD i) := by
  simp [within]

/-- The positions without a flag read 0 (R169, R170). -/
theorem maskedEnables_bit (word : Word) {i : Nat} (within : i < 16) :
    (word &&& flagMask).getLsbD i = (decide (i < 13) && word.getLsbD i) := by
  have flags : ∀ k < 16, flagMask.getLsbD k = decide (k < 13) := by decide
  rw [BitVec.getLsbD_and, flags i within, Bool.and_comm]

/-- IRQN is low exactly while an enabled flag is set (R171). -/
theorem irqLow_iff (s : State) : s.irqLow = true ↔
    ∃ i, i < 16 ∧ s.port.events.getLsbD i = true ∧ s.port.enables.getLsbD i = true := by
  unfold State.irqLow
  constructor
  · intro low
    by_contra none
    refine bne_iff_ne.1 low (BitVec.eq_of_getLsbD_eq fun i within => ?_)
    rw [BitVec.getLsbD_and]
    simp only [not_exists, not_and, Bool.not_eq_true] at none
    cases set : s.port.events.getLsbD i
    · simp
    · simp [none i within set]
  · rintro ⟨i, -, set, enabled⟩
    refine bne_iff_ne.2 fun zero => ?_
    have bit := congrArg (fun w : Word => w.getLsbD i) zero
    simp [set, enabled] at bit

/-- Settles O47: the two words bit by bit, and the pin as their conjunction. -/
theorem eventCommandsWriteWords : Obligations.EventCommandsWriteWords := by
  unfold Obligations.EventCommandsWriteWords
  intro s hi lo
  refine ⟨⟨_, write_port (x := whole [hi, lo]) rfl rfl rfl, fun i within => ?_, finishWrite_repliedOnly _ .accepted⟩,
    ⟨_, write_port (x := whole [hi, lo]) rfl rfl rfl, fun i within => ?_, finishWrite_repliedOnly _ .accepted⟩,
    irqLow_iff s⟩
  · exact clearedEvents_bit s.port.events (hi ++ lo) within
  · exact maskedEnables_bit (hi ++ lo) within

end Sys2Proof.Machine
